-- ==== Sys2Proof/Word.lean ====
section
/-!
DEFINITION. The words of the machine: bytes, scalar and vector registers, ranks (R2, R15, R138).
-/

namespace Sys2Proof

/-- A byte of any memory. -/
abbrev Byte := BitVec 8
/-- A 16-bit word: an op's head (R174), a group id, a transfer id. -/
abbrev W16 := BitVec 16
/-- A 32-bit word: a rank (R15), a tag. -/
abbrev W32 := BitVec 32
/-- A scalar register, a full tail (R138, R175). -/
abbrev W64 := BitVec 64
/-- A vector register (R138). -/
abbrev W512 := BitVec 512
/-- An instruction address (R173). -/
abbrev IAddr := BitVec 26
/-- A rank (R15). -/
abbrev Rank := BitVec 32

end Sys2Proof
end

