-- ==== Sys2Proof/Machine/Num.lean ====
section
/-!
DEFINITION. Number formats and exact arithmetic (R152-R165): every value is a special or an exact dyadic number,
and a result is rounded once, at the end.
-/

namespace Sys2Proof.Machine

/-! ### Integers (R155) -/

/-- `sign_extend(x, n)` of R155, for the low `n` bits of `x`. -/
def signExtend (x n : Nat) : Int :=
  let y := x % 2 ^ n
  if 2 * y < 2 ^ n then (y : Int) else (y : Int) - 2 ^ n

/-- `wrap_int(x, n)` of R155. -/
def wrapInt (x : Int) (n : Nat) : Nat := (x % 2 ^ n).toNat

/-- `sat_int(x, n, signed)` of R155, as its `n`-bit pattern. -/
def satInt (x : Int) (n : Nat) (signed : Bool) : Nat :=
  let lo : Int := if signed then -(2 ^ (n - 1)) else 0
  let hi : Int := if signed then 2 ^ (n - 1) - 1 else 2 ^ n - 1
  wrapInt (min (max x lo) hi) n

/-! ### Exact values -/

/-- A special value, or the exact value (-1)^neg * m * 2^e; `m = 0` is a signed zero. -/
inductive Num where
  | nan
  | inf (neg : Bool)
  | fin (neg : Bool) (m : Nat) (e : Int)
deriving DecidableEq, Repr

/-- The sum of two exact values, as an integer at a common exponent. -/
def dyAdd (a b : Int × Int) : Int × Int :=
  if a.1 = 0 then b else if b.1 = 0 then a else
  if a.2 ≤ b.2 then (a.1 + b.1 * 2 ^ (b.2 - a.2).toNat, a.2)
  else (a.1 * 2 ^ (a.2 - b.2).toNat + b.1, b.2)

/-- The integer and exponent of an exact value; specials give 0. -/
def Num.dy : Num → Int × Int
  | .fin neg m e => (if neg then -(m : Int) else (m : Int), e)
  | _ => (0, 0)

/-- An exact value from an integer and an exponent; a zero is +0. -/
def Num.ofDy (x : Int × Int) : Num := .fin (decide (x.1 < 0)) x.1.natAbs x.2

/-- An integer as an exact value; 0 is +0 (R162). -/
def Num.ofInt (x : Int) : Num := Num.ofDy (x, 0)

def Num.isNan : Num → Bool
  | .nan => true
  | _ => false

def Num.isInf (neg : Bool) : Num → Bool
  | .inf n => n == neg
  | _ => false

def Num.isZero : Num → Bool
  | .fin _ m _ => m == 0
  | _ => false

def Num.isNegZero : Num → Bool
  | .fin neg m _ => neg && m == 0
  | _ => false

/-- The sign of a value; a NaN counts as positive. -/
def Num.neg : Num → Bool
  | .nan => false
  | .inf n => n
  | .fin n _ _ => n

/-- The value with its sign inverted. -/
def Num.negate : Num → Num
  | .nan => .nan
  | .inf n => .inf (!n)
  | .fin n m e => .fin (!n) m e

/-- `exact_sum` of R159. -/
def exactSum (l : List Num) : Num :=
  if l.any Num.isNan then .nan
  else if l.any (Num.isInf false) && l.any (Num.isInf true) then .nan
  else if l.any (Num.isInf false) then .inf false
  else if l.any (Num.isInf true) then .inf true
  else
    let s := l.foldl (fun acc x => dyAdd acc x.dy) (0, 0)
    if s.1 = 0 then .fin (l.all Num.isNegZero) 0 0 else Num.ofDy s

/-- `exact_mul` of R159. -/
def exactMul (a b : Num) : Num :=
  match a, b with
  | .nan, _ => .nan
  | _, .nan => .nan
  | .inf s, .inf t => .inf (s != t)
  | .inf s, .fin t m _ => if m = 0 then .nan else .inf (s != t)
  | .fin s m _, .inf t => if m = 0 then .nan else .inf (s != t)
  | .fin s m e, .fin t n f => .fin (s != t) (m * n) (e + f)

/-- The value times 2^k, exactly. -/
def Num.scale (x : Num) (k : Int) : Num :=
  match x with
  | .fin s m e => .fin s m (e + k)
  | y => y

/-- The order of two values that are not NaN: `a < b`, with -0 = +0 (R264). -/
def Num.lt (a b : Num) : Bool :=
  match a, b with
  | .nan, _ => false
  | _, .nan => false
  | .inf s, .inf t => s && !t
  | .inf s, .fin _ _ _ => s
  | .fin _ _ _, .inf t => !t
  | x, y => decide ((dyAdd x.dy (y.negate).dy).1 < 0)

/-- Equality of values, with -0 = +0 and NaN unequal to all (R264). -/
def Num.eq (a b : Num) : Bool := !a.isNan && !b.isNan && !Num.lt a b && !Num.lt b a

/-! ### Formats (R152) -/

/-- A floating-point format: its width, significand bits, least normal exponent, greatest finite magnitude as an
encoding, infinity, canonical NaN, and whether `fmt.sat` acts on it (R158). -/
structure FFmt where
  width : Nat
  p : Nat
  emin : Int
  maxB : Nat
  infB : Option Nat
  canon : Nat
  narrow : Bool
deriving DecidableEq, Repr

def fF32 : FFmt := ⟨32, 24, -126, 0x7F7FFFFF, some 0x7F800000, 0x7FC00000, false⟩
def fBf16 : FFmt := ⟨16, 8, -126, 0x7F7F, some 0x7F80, 0x7FC0, false⟩
def fE5m2 : FFmt := ⟨8, 3, -14, 0x7B, some 0x7C, 0x7E, true⟩
/-- E4M3 under reading `fmt.nan`. -/
def fE4m3 (nan : Bool) : FFmt :=
  if nan then ⟨8, 4, -6, 0x77, some 0x78, 0x7C, true⟩ else ⟨8, 4, -6, 0x7E, none, 0x7F, true⟩

/-- `to_real` of R153. -/
def FFmt.toReal (f : FFmt) (v : Nat) : Num :=
  let neg := v.testBit (f.width - 1)
  let mag := v % 2 ^ (f.width - 1)
  if mag ≤ f.maxB then
    let ef := mag / 2 ^ (f.p - 1)
    let fr := mag % 2 ^ (f.p - 1)
    if ef = 0 then .fin neg fr (f.emin - f.p + 1)
    else .fin neg (2 ^ (f.p - 1) + fr) (f.emin + (ef : Int) - 1 - f.p + 1)
  else if f.infB = some mag then .inf neg else .nan

/-- A magnitude with a sign bit. -/
def FFmt.withSign (f : FFmt) (neg : Bool) (mag : Nat) : Nat := if neg then 2 ^ (f.width - 1) + mag else mag

/-- The value divided by 2^k and rounded to an integer: ties to even, or toward zero. -/
def shiftRound (rz : Bool) (m k : Nat) : Nat :=
  if m.log2 + 2 < k then 0
  else
    let y := m / 2 ^ k
    let r := m % 2 ^ k
    if rz then y
    else if 2 * r < 2 ^ k then y
    else if 2 ^ k < 2 * r then y + 1
    else y + y % 2

/-- The magnitude encoding of a non-zero `m * 2^e` rounded to the format, the exponent unbounded above (R157): the
encodings of one format are consecutive, so a carry of the significand steps into the next exponent. -/
def FFmt.encMag (f : FFmt) (rz : Bool) (m : Nat) (e : Int) : Nat :=
  let ex := max ((m.log2 : Int) + e) f.emin
  let qe := ex - f.p + 1
  let mm := if qe ≤ e then m * 2 ^ (e - qe).toNat else shiftRound rz m (qe - e).toNat
  (ex - f.emin).toNat * 2 ^ (f.p - 1) + mm

/-- `round_fmt` of R157 with the overflow rules of R158. -/
def FFmt.round (f : FFmt) (rz sat : Bool) (x : Num) : Nat :=
  match x with
  | .nan => f.canon
  | .inf s =>
    match f.infB with
    | some i => f.withSign s i
    | none => if sat then f.withSign s f.maxB else f.canon
  | .fin s m e =>
    if m = 0 then f.withSign s 0
    else
      let b := f.encMag rz m e
      if b ≤ f.maxB then f.withSign s b
      else if rz || (sat && f.narrow) then f.withSign s f.maxB
      else
        match f.infB with
        | some i => f.withSign s i
        | none => f.canon

/-- `to_real(v, .f32)`. -/
def real32 (v : Nat) : Num := fF32.toReal v
/-- `to_real(v, .bf16)`. -/
def realBf (v : Nat) : Num := fBf16.toReal v
/-- `round_f32` under RNE. -/
def roundF32 (x : Num) : Nat := fF32.round false false x
/-- `round_bf16` under RNE. -/
def roundBf (x : Num) : Nat := fBf16.round false false x

/-- `round_int` of R155: RNE, or toward zero. -/
def roundInt (rz : Bool) (x : Num) (n : Nat) (signed : Bool) : Nat :=
  match x with
  | .nan => 0
  | .inf s => satInt (if s then -(2 ^ n) else 2 ^ n) n signed
  | .fin s m e =>
    let y : Nat :=
      if 0 ≤ e then (if m = 0 then 0 else m * 2 ^ (min e 1100).toNat) else shiftRound rz m (-e).toNat
    satInt (if s then -(y : Int) else (y : Int)) n signed

/-! ### Dot products (R162) -/

/-- `exact_dot32` over a list of operand pairs. -/
def exactDot (ab : List (Num × Num)) : Num := exactSum (ab.map fun p => exactMul p.1 p.2)

/-- One K-group step of R162: `c <- round_f32(exact_sum(c, d))`. -/
def kStep (c : Nat) (d : Num) : Nat := roundF32 (exactSum [real32 c, d])

/-! ### The wide accumulator (R163-R165) -/

/-- A wide accumulator (R163): `val` is the 576-bit pattern. -/
structure Wide where
  val : Nat
  ovf : Bool
  pinf : Bool
  ninf : Bool
  nan : Bool
deriving DecidableEq, Repr

def Wide.zero : Wide := ⟨0, false, false, false, false⟩

/-- The 80 bytes of R163 as one number; the reserved bits are ignored. -/
def Wide.ofNat (x : Nat) : Wide :=
  ⟨x % 2 ^ 576, x.testBit 576, x.testBit 577, x.testBit 578, x.testBit 579⟩

/-- The 80 bytes of R163 as one number, the reserved bits zero. -/
def Wide.toNat (a : Wide) : Nat :=
  a.val % 2 ^ 576 + 2 ^ 576 * (a.ovf.toNat + 2 * a.pinf.toNat + 4 * a.ninf.toNat + 8 * a.nan.toNat)

/-- The value in units of 2^-298, with the value an exact term adds: `t` of R164. -/
def Wide.addUnits (a : Wide) (v : Int) : Wide :=
  let t := signExtend a.val 576 + v
  { a with val := wrapInt t 576, ovf := a.ovf || decide (t < -(2 ^ 575)) || decide (2 ^ 575 ≤ t) }

/-- `wide_add(acc, x)` of R164 for a special or exact value, which is a multiple of 2^-298 (R163). -/
def wideAdd (a : Wide) (x : Num) : Wide :=
  match x with
  | .nan => { a with nan := true }
  | .inf false => { a with pinf := true }
  | .inf true => { a with ninf := true }
  | .fin s m e =>
    if m = 0 then a
    else
      let v : Nat := if -298 ≤ e then m * 2 ^ (e + 298).toNat else m / 2 ^ (-298 - e).toNat
      a.addUnits (if s then -(v : Int) else (v : Int))

/-- `wide_add(acc, x)` of R164 for a second accumulator. -/
def wideMerge (a x : Wide) : Wide :=
  ({ a with ovf := a.ovf || x.ovf, pinf := a.pinf || x.pinf, ninf := a.ninf || x.ninf, nan := a.nan || x.nan } :
    Wide).addUnits (signExtend x.val 576)

/-- `wide_round(acc, type)` of R165, to BF16 or FP32, toward zero when `rz`. -/
def wideRound (bf rz : Bool) (a : Wide) : Nat :=
  let f := if bf then fBf16 else fF32
  if a.nan || a.ovf || (a.pinf && a.ninf) then f.canon
  else if a.pinf then f.withSign false (f.infB.getD 0)
  else if a.ninf then f.withSign true (f.infB.getD 0)
  else f.round rz false (Num.ofDy (signExtend a.val 576, -298))

end Sys2Proof.Machine
end

