-- ==== Sys2Proof/Syntax.lean ====
section
/-!
DEFINITION. The instructions and steps of the device: one constructor of `Instr` for each row of
spec/opcode_table.json, and one more (`tctl`) for the opcode 0x1E, whose command stands in a register (R315). The
constructors that the model itself schedules come first: compiled Lean can build only the first 245 that have fields.
Tile instructions carry the fields of their full tail (R175); the steps of the other agents carry what the
step is about (a packet, a die, a rank).
-/

namespace Sys2Proof

/-- A register code of R138, decoded: the codes 452-463 and 484-511 name nothing and are not here. -/
inductive Reg where
  | v (n : Fin 384)
  | s (n : Fin 64)
  | q (n : Fin 4)
  | m (n : Fin 16)
  | zero
  | lane
  | ownrank
  | cyccount
deriving DecidableEq, Repr

/-- The fields every op carries beside its operands: issue qualifier and level (R174, R180), scoreboard tags
(R184), producer distance (R182), mask and its inversion (R139). -/
structure Attr where
  iq : BitVec 2
  lvl : BitVec 3
  sba : BitVec 4
  sbc : BitVec 4
  pdist : BitVec 3
  mask : BitVec 4
  mneg : Bool
deriving DecidableEq, Repr

/-- The attributes of an op written without any (R191). -/
def Attr.plain : Attr := ⟨0, 0, 0, 0, 0, 0, false⟩

/-- A scalar B operand: a register, or the 18-bit immediate of R303. -/
inductive Opd where
  | reg (r : Reg)
  | imm (i : BitVec 18)
deriving DecidableEq, Repr

/-- The element types of R84. -/
inductive Ety where
  | raw | f32 | bf16 | e4m3 | e5m2 | i8 | i16 | i32 | i64 | n8 | n16 | n32 | n64 | w4 | w3
deriving DecidableEq, Repr

/-- The three access widths of `vldqg`, `vstm`, `vsts` (R196). -/
inductive Wid where
  | n8 | n16 | n32
deriving DecidableEq, Repr

/-- The mask widths of `bm`, `cbr`, `mpop`, `mfirst` (R282, R306). -/
inductive MWid where
  | w16 | w32 | w64
deriving DecidableEq, Repr

/-- The conditions of `bm` (R283). -/
inductive BmCc where
  | any | all | none
deriving DecidableEq, Repr

/-- The conditions of `vcmp` (R264). -/
inductive VCc where
  | eq | ne | lt | le | gt | ge | un
deriving DecidableEq, Repr

/-- The modes of `vround` (R271). -/
inductive RMode where
  | rne | rz | rdn | rup
deriving DecidableEq, Repr

/-- The reduction operations of R79, R81. -/
inductive RedOp where
  | fsum | wmerge | fmax | fmin | isum | and | or
deriving DecidableEq, Repr

/-- The atomic operations of a moon (R44), without their width. -/
inductive AtomOp where
  | add | smin | umin | smax | umax | xchg | cas
deriving DecidableEq, Repr

/-- A predicate operand of `cbr`: a mask with its width, or a scalar (R291). -/
inductive Pred where
  | mask (r : Fin 16) (w : MWid)
  | scalar (r : Reg)
deriving DecidableEq, Repr

/-- A packet of the fabric: the routing header of R66 and its payload. `bad`: the 16-byte words of the payload that a mesh flit
delivers marked uncorrectable (R372). -/
structure Packet where
  dst : Rank
  src : Rank
  kind : BitVec 6
  cls : BitVec 2
  sv : Bool
  rsv : BitVec 7
  seq : W32
  group : W16
  xid : W16
  off : BitVec 24
  aux : Byte
  ext : W64
  payload : List Byte
  bad : List Nat
deriving DecidableEq, Repr

/-- A scale-up flit (R69). `rsv`: bits [63:54]; `rsvEnd`: bits [2047:2016]; the payload is 240 bytes. -/
structure Flit where
  fseq : BitVec 12
  ackseq : BitVec 12
  ackv : Bool
  kind : BitVec 3
  ccls : BitVec 2
  ccnt : Byte
  qdep : W16
  rsv : BitVec 10
  payload : List Byte
  crc : W32
  rsvEnd : W32
deriving DecidableEq, Repr

/-- Where reduction inputs combine (R77): a die's combining unit, or the module's switch die. -/
inductive Point where
  | die (d : Fin 4)
  | switch
deriving DecidableEq, Repr

/-- A reduction or branch key (R80, R331). -/
structure RKey where
  root : BitVec 20
  group : W16
  ident : W16
  branch : Bool
deriving DecidableEq, Repr

/-- The scope of a TLBINV (R52). -/
inductive InvScope where
  | all
  | asid (a : Byte)
  | page (a : Byte) (va : Nat)
deriving DecidableEq, Repr

/-- The pipes of the matrix engine (R234). -/
inductive Pipe where
  | array | weight | wide
deriving DecidableEq, Repr

/-- The trap causes of R363 (0x0B PREEMPT is never taken as a trap). -/
inductive Cause where
  | illegal | slotOver | staleRead | scratchRange | align | fmtMismatch | slotViolation | cbrTimeout | eccUncorr
  | engineFault | swTrap | loopDepth | queueMisuse | priv | specLimit
deriving DecidableEq, Repr

/-- The registers with no row of their own (row REGISTER_WRITE, R5), by the rule that lays each out. -/
inductive RegName where
  | mastab (moon : Fin 64) (i : Fin 256)   -- R49
  | srt (i : Fin 4096)                     -- R75
  | savepool (die : Fin 4)                 -- R375
  | hqsub (q : Fin 64)                     -- R380
  | hqcpl (q : Fin 64)                     -- R380
  | hqcfg (q : Fin 64)                     -- R380, lsize and en
deriving DecidableEq, Repr

/-- A failure found by the boot stages (R387). -/
structure BootFail where
  stage : Fin 7
  reason : Byte
  die : BitVec 4
  unit : BitVec 12
  detail : W32
deriving DecidableEq, Repr

/-- What the boot stages find outside the model: the two firmware images, the result of the self-test of stage 4
(spares that failed, and any other failure), the package id of the configuration record, and that of the last SETPKG that arrives
during stages 1 to 4 (R386). -/
structure BootInput where
  primary : List Byte
  backup : List Byte
  badSpares : List (Fin 4 × Fin 8)
  selfTest : Option BootFail
  pkg : BitVec 20
  setpkg : Option (BitVec 20)
deriving DecidableEq, Repr

/-- The instructions of a tile and the steps of the module's other agents, in the order of the table. -/
inductive Instr where
  -- ERT commands of `ertw` (R38, R316)
  | read (a : Attr) (d sa sb : Reg)
  | config (a : Attr) (d sa sb : Reg)
  | pagein (a : Attr) (d sa sb : Reg)
  | evict (a : Attr) (d sa sb : Reg)
  | pin (a : Attr) (d sa sb : Reg)
  | unpin (a : Attr) (d sa sb : Reg)
  | discard (a : Attr) (d sa sb : Reg)
  -- ERT, page-in engines, wait queues (R29-R40)
  | pageinRetry (expert : W16)
  | farUnitTransfer (engine : Fin 8)
  | pageinComplete (engine : Fin 8)
  | pageinFailed (engine : Fin 8) (unit : Nat)
  | readerLimitRetry (die : Fin 4) (expert : W16)
  | noVictim (expert : W16)
  -- moons (R42-R60)
  | mreq (p : Packet)
  | translationWalk (moon : Fin 64) (id : Nat)
  | moonGet (moon : Fin 64) (id : Nat)
  | moonPut (moon : Fin 64) (id : Nat)
  | moonAdd (moon : Fin 64) (id : Nat)
  | moonSmin (moon : Fin 64) (id : Nat)
  | moonUmin (moon : Fin 64) (id : Nat)
  | moonSmax (moon : Fin 64) (id : Nat)
  | moonUmax (moon : Fin 64) (id : Nat)
  | moonXchg (moon : Fin 64) (id : Nat)
  | moonCas (moon : Fin 64) (id : Nat)
  | moonIngressRetry (p : Packet)
  -- packets (R66-R113)
  | switchDieForward (p : Packet)
  | eager (p : Packet)
  | rts (p : Packet)
  | pull (p : Packet)
  | rdata (p : Packet)
  | accept (p : Packet)
  | keephdr (p : Packet)
  | held (p : Packet)
  | fin (p : Packet)
  | refuse (p : Packet)
  | hamperCopyDone (xid : W16)
  | mrsp (p : Packet)
  | rcontrib (pt : Point) (p : Packet)
  | dieCombineTimeout (die : Fin 4) (key : RKey)
  | memberSwitchTimeout (key : RKey)
  | slotTimeout (key : RKey)
  | slotWait (key : RKey)
  | keylistExpire (key : RKey)
  | rresult (p : Packet)
  | rresultResend (p : Packet)
  | brpred (pt : Point) (p : Packet)
  | brresult (p : Packet)
  | e2eack (p : Packet)
  | close (p : Packet)
  | closeack (p : Packet)
  | e2eRetransmitTimeout (src dst : Rank)
  | e2ePeerEntryTake (src : Rank)
  | e2eAbandon (p : Packet)
  | chnelem (p : Packet)
  | chncredit (p : Packet)
  | channelInject (entry : Fin 64)
  | slotViolation (entry : Fin 64)
  -- scale-up links (R69-R71)
  | linkTimeout (port : Fin 18)
  | replayBufferDrop (port : Fin 18)
  -- tile engines and events
  | matrixPipeOpStart (p : Pipe)
  | matrixPipeOpComplete (p : Pipe)
  | tbarRelease (die : Fin 4) (group : W16)
  | joinFormTimeout (home : BitVec 20) (group : W16)
  | groupJoinRegister (rank : Rank) (word : W64)
  -- scheduling and dispatch (R343-R362)
  | schedulerPick (sched : Fin 5)
  | gangPlace (handle : W32)
  | gangComplete (handle : W32)
  | recqRecordsEnter (die : Fin 4) (q : Fin 8)
  | roundClose (die : Fin 4) (q : Fin 8)
  | rowAreaWrite (die : Fin 4) (q : Fin 8)
  | batchDelivery (die : Fin 4) (q : Fin 8) (rank : Rank)
  | gangResume (handle : W32)
  -- K slot (R281)
  | csrwFmt (a : Attr) (sa : Reg)
  | csrwEagerlim (a : Attr) (sa : Reg)
  | csrwCbrto (a : Attr) (sa : Reg)
  | nop (a : Attr)
  | br (a : Attr) (target : BitVec 17)
  | brIndirect (a : Attr) (sa : Reg)
  | bz (a : Attr) (sa : Reg) (target : BitVec 17)
  | bnz (a : Attr) (sa : Reg) (target : BitVec 17)
  | bm (a : Attr) (cc : BmCc) (w : MWid) (ma : Reg) (target : BitVec 17)
  | call (a : Attr) (d : Reg) (target : BitVec 17)
  | callIndirect (a : Attr) (d sa : Reg)
  | ret (a : Attr) (sa : Reg)
  | loop (a : Attr) (len : BitVec 12) (count : BitVec 24)
  | loopScalar (a : Attr) (len : BitVec 12) (sc : Reg)
  | loopQ1 (a : Attr) (len : BitVec 12)
  | lstr (a : Attr) (d sa : Reg)
  | lstrImm (a : Attr) (d : Reg) (imm : BitVec 12)
  | lbrk (a : Attr)
  | lbrkZ (a : Attr) (sa : Reg)
  | lbrkNz (a : Attr) (sa : Reg)
  | cbrAny (a : Attr) (gm : Fin 8) (p : Pred) (hint : Bool) (target : BitVec 17)
  | cbrAll (a : Attr) (gm : Fin 8) (p : Pred) (hint : Bool) (target : BitVec 17)
  | hwin (a : Attr)
  | fmt (a : Attr) (sa : Reg)
  | fmtImm (a : Attr) (v : BitVec 11)
  | uliret (a : Attr)
  | trap (a : Attr) (code : BitVec 12)
  | halt (a : Attr)
  | csrr (a : Attr) (d : Reg) (n : BitVec 12)
  | csrw (a : Attr) (n : BitVec 12) (sa : Reg)
  | fenceEng (a : Attr)
  | fenceMoon (a : Attr)
  | fenceAll (a : Attr)
  | tbar (a : Attr) (gm : Fin 8)
  | eret (a : Attr) (sa : Reg)
  -- S slot (R302-R306)
  | add (a : Attr) (d ra : Reg) (b : Opd)
  | sub (a : Attr) (d ra : Reg) (b : Opd)
  | mul (a : Attr) (d ra : Reg) (b : Opd)
  | mulh (a : Attr) (u : Bool) (d ra : Reg) (b : Opd)
  | div (a : Attr) (u : Bool) (d ra : Reg) (b : Opd)
  | rem (a : Attr) (u : Bool) (d ra : Reg) (b : Opd)
  | and (a : Attr) (d ra : Reg) (b : Opd)
  | or (a : Attr) (d ra : Reg) (b : Opd)
  | xor (a : Attr) (d ra : Reg) (b : Opd)
  | andn (a : Attr) (d ra : Reg) (b : Opd)
  | shl (a : Attr) (d ra : Reg) (b : Opd)
  | shr (a : Attr) (d ra : Reg) (b : Opd)
  | sra (a : Attr) (d ra : Reg) (b : Opd)
  | rotl (a : Attr) (d ra : Reg) (b : Opd)
  | min (a : Attr) (u : Bool) (d ra : Reg) (b : Opd)
  | max (a : Attr) (u : Bool) (d ra : Reg) (b : Opd)
  | slt (a : Attr) (u : Bool) (d ra : Reg) (b : Opd)
  | seq (a : Attr) (d ra : Reg) (b : Opd)
  | sne (a : Attr) (d ra : Reg) (b : Opd)
  | sel (a : Attr) (d ra rb rc : Reg)
  | clz (a : Attr) (d ra : Reg)
  | ctz (a : Attr) (d ra : Reg)
  | popc (a : Attr) (d ra : Reg)
  | li (a : Attr) (n : Bool) (d : Reg) (imm : W32)
  | lih (a : Attr) (d : Reg) (imm : W32)
  | mov (a : Attr) (d ra : Reg)
  | addsh (a : Attr) (k : BitVec 6) (d ra : Reg) (b : Opd)
  | sext (a : Attr) (w : Wid) (d ra : Reg)
  | zext (a : Attr) (w : Wid) (d ra : Reg)
  | mpop (a : Attr) (w : MWid) (d ma : Reg)
  | mfirst (a : Attr) (w : MWid) (d ma : Reg)
  | vext (a : Attr) (t : Ety) (d va : Reg) (b : Opd)
  -- A slot (R195)
  | vldq (a : Attr) (sa : Reg) (off : BitVec 12)
  | vldqg (a : Attr) (w : Wid) (sa vi : Reg)
  | vst (a : Attr) (sa vd : Reg) (off : BitVec 12)
  | vstm (a : Attr) (w : Wid) (sa vd : Reg) (off : BitVec 10)
  | vsts (a : Attr) (w : Wid) (sa vi vd : Reg)
  | sld (a : Attr) (size : BitVec 2) (signed : Bool) (d sa : Reg) (off : BitVec 9)
  | sst (a : Attr) (size : BitVec 2) (sa sd : Reg) (off : BitVec 9)
  -- E slot: copies, messages, moons, channels, reductions (R195)
  | cset (a : Attr) (k : Fin 4) (sa : Reg)
  | cgo (a : Attr) (d : Reg)
  | send (a : Attr) (t : Ety) (gm : Fin 8) (uli : Bool) (d sr sb : Reg)
  | ssend (a : Attr) (t : Ety) (gm : Fin 8) (uli : Bool) (d sr sb : Reg)
  | recv (a : Attr) (gm : Fin 8) (uli : Bool) (d sr sb sm : Reg)
  | probe (a : Attr) (gm : Fin 8) (d sr sm : Reg)
  | cancel (a : Attr) (d sx : Reg)
  | mget (a : Attr) (uli : Bool) (d sv sb sm : Reg)
  | mput (a : Attr) (uli : Bool) (d sv sb sm : Reg)
  | matom (a : Attr) (op : AtomOp) (wide : Bool) (uli : Bool) (d sa : Reg)
  | exget (a : Attr) (uli : Bool) (d se sb so : Reg)
  | sendc (a : Attr) (k : Fin 64) (sa : Reg)
  | recvc (a : Attr) (k : Fin 64) (d sa : Reg)
  | recvac (a : Attr) (k : Fin 64) (d sa : Reg)
  | chld (a : Attr) (k : Fin 64) (d sa : Reg)
  | sendr (a : Attr) (op : RedOp) (wide : Bool) (gm : Fin 8) (uli : Bool) (d sb si : Reg)
  | recvr (a : Attr) (gm : Fin 8) (uli : Bool) (d sb si : Reg)
  | xtst (a : Attr) (d sx sm : Reg)
  | xwait (a : Attr) (sx sm : Reg)
  | xinfo (a : Attr) (hi : Bool) (d sx : Reg)
  | xfree (a : Attr) (sx : Reg)
  | join (a : Attr) (gm : Fin 8) (uli : Bool) (d sg : Reg)
  | leave (a : Attr) (gm : Fin 8) (uli : Bool) (d : Reg)
  | gbar (a : Attr) (gm : Fin 8) (uli : Bool) (d si : Reg)
  | launch (a : Attr) (uli : Bool) (d sa : Reg)
  | recq (a : Attr) (q : Fin 8) (uli : Bool) (d sb : Reg)
  | rclose (a : Attr) (q : Fin 8) (uli : Bool) (d : Reg)
  -- E slot: matrix and wide accumulator (R232)
  | mma (a : Attr) (acc : Fin 8) (wbuf : Fin 2) (sa : Reg)
  | mmaw (a : Attr) (acc : Fin 8) (wbuf : Fin 2) (gs : Bool) (sa : Reg)
  | wld (a : Attr) (wbuf : Fin 2) (gs : Bool) (sa : Reg)
  | mzero (a : Attr) (acc : Fin 8)
  | mld (a : Attr) (acc : Fin 8) (sa : Reg)
  | mst (a : Attr) (acc : Fin 8) (sa : Reg)
  | lclr (a : Attr) (sa : Reg)
  | ladd (a : Attr) (bf : Bool) (sa vb : Reg)
  | lmadd (a : Attr) (bf : Bool) (sa vb vc : Reg)
  | lmerge (a : Attr) (sa sb : Reg)
  | lrnd (a : Attr) (bf : Bool) (clr : Bool) (d sa : Reg)
  -- V slot (R256)
  | vadd (a : Attr) (t : Ety) (sat : Bool) (d va vb : Reg)
  | vsub (a : Attr) (t : Ety) (sat : Bool) (d va vb : Reg)
  | vmul (a : Attr) (t : Ety) (sat : Bool) (d va vb : Reg)
  | vfma (a : Attr) (t : Ety) (sat : Bool) (d va vb vc : Reg)
  | vfms (a : Attr) (t : Ety) (sat : Bool) (d va vb vc : Reg)
  | vfnma (a : Attr) (t : Ety) (sat : Bool) (d va vb vc : Reg)
  | vmin (a : Attr) (t : Ety) (d va vb : Reg)
  | vmax (a : Attr) (t : Ety) (d va vb : Reg)
  | vabs (a : Attr) (t : Ety) (sat : Bool) (d va : Reg)
  | vneg (a : Attr) (t : Ety) (sat : Bool) (d va : Reg)
  | vand (a : Attr) (t : Ety) (d va vb : Reg)
  | vor (a : Attr) (t : Ety) (d va vb : Reg)
  | vxor (a : Attr) (t : Ety) (d va vb : Reg)
  | vandn (a : Attr) (t : Ety) (d va vb : Reg)
  | vshl (a : Attr) (t : Ety) (d va vb : Reg)
  | vshlImm (a : Attr) (t : Ety) (c : BitVec 7) (d va : Reg)
  | vshr (a : Attr) (t : Ety) (d va vb : Reg)
  | vshrImm (a : Attr) (t : Ety) (c : BitVec 7) (d va : Reg)
  | vsra (a : Attr) (t : Ety) (d va vb : Reg)
  | vsraImm (a : Attr) (t : Ety) (c : BitVec 7) (d va : Reg)
  | vcmp (a : Attr) (cc : VCc) (t : Ety) (d va vb : Reg)
  | vclass (a : Attr) (t : Ety) (set : Byte) (d va : Reg)
  | vsel (a : Attr) (t : Ety) (d va vb : Reg)
  | vmov (a : Attr) (t : Ety) (d va : Reg)
  | vbcast (a : Attr) (t : Ety) (d sa : Reg)
  | vins (a : Attr) (t : Ety) (k : BitVec 7) (d va sb : Reg)
  | vidx (a : Attr) (t : Ety) (d sa sb : Reg)
  | vperm (a : Attr) (t : Ety) (d va vi : Reg)
  | vshuf (a : Attr) (t : Ety) (d va vb vi : Reg)
  | vrot (a : Attr) (t : Ety) (d va sk : Reg)
  | vcvt (a : Attr) (dt st : Ety) (isat : Bool) (d va : Reg)
  | vpack (a : Attr) (dt st : Ety) (isat : Bool) (d va vb : Reg)
  | vunpack (a : Attr) (dt st : Ety) (hi : Bool) (d va : Reg)
  | vredadd (a : Attr) (t : Ety) (sat : Bool) (d va : Reg)
  | vredmax (a : Attr) (t : Ety) (d va : Reg)
  | vredmin (a : Attr) (t : Ety) (d va : Reg)
  | vscale (a : Attr) (t : Ety) (d va vb : Reg)
  | vround (a : Attr) (rm : RMode) (t : Ety) (d va : Reg)
  | vrcp (a : Attr) (d va : Reg)
  | vrsq (a : Attr) (d va : Reg)
  | vexp2 (a : Attr) (d va : Reg)
  | vlog2 (a : Attr) (d va : Reg)
  | vtanh (a : Attr) (d va : Reg)
  | vsigm (a : Attr) (d va : Reg)
  | vrcpr (a : Attr) (d vx vy : Reg)
  | vrsqr (a : Attr) (d vx vy : Reg)
  | vtopk (a : Attr) (k : Fin 8) (d va vb vc : Reg)
  | vgate (a : Attr) (k : Fin 8) (d va : Reg)
  | vhist (a : Attr) (half : Bool) (d va vb sc : Reg)
  -- P slot (R257)
  | mand (a : Attr) (d ma mb : Reg)
  | mor (a : Attr) (d ma mb : Reg)
  | mxor (a : Attr) (d ma mb : Reg)
  | mandn (a : Attr) (d ma mb : Reg)
  | mnot (a : Attr) (d ma : Reg)
  | mmov (a : Attr) (d ma : Reg)
  | mset (a : Attr) (d sa : Reg)
  | msetLo (a : Attr) (d : Reg) (n : BitVec 7)
  | mfromv (a : Attr) (t : Ety) (sign : Bool) (d va : Reg)
  -- opcode 0x1E as the tile issues it: the command code is in s[sb] (R315)
  | tctl (a : Attr) (d sa sb sc : Reg)
  -- steps of the tile whose key is `State.cur`
  | loadDeliver
  | copy
  | fill
  | transpose
  | gather
  | scatter
  | copyWorksetDone
  | uliEntry
  | fmtDelayExpire
  | resultWriteback
  | deferredTrapTake
  | cbrResolve
  | cbrtoExpire
  | preemptHalt
  | saveImageWrite
  | refusedResend
  -- steps of the host queue pair `State.cur` (R381)
  | hostLaunch
  | hostDctr
  | hostAbort
  | hostSend
  | hostRecv
  | hostCancel
  | hostHwin
  -- steps of the moon `State.cur` (R52), of the die `State.cur` (R34, R366)
  | tlbinvComplete
  | waitqRelease
  | waitqRefill
  | reportEnqueue
  -- steps of the switch die (R31, R37, R80)
  | pageinSlotChoice
  | pageinEngineStart
  | slotAllocateWaiting
  -- what reaches the module from outside, or over the service network
  | poolRegisterWrite (die : Fin 4) (reg : Fin 18) (v : W32)
  | mtrctlWrite (moon : Fin 64) (v : W32)
  | traceEntryRead (moon : Fin 64) (i : Fin 4096)
  | tlbinv (moon : Fin 64) (scope : InvScope)
  | moonStop (moon : Fin 64) (structure_ : Fin 4)
  | e2ectlWrite (rank : Rank) (v : W32)
  | e2edupRead (rank : Rank)
  | e2eretxRead (rank : Rank)
  | rstoWrite (v : W32)
  | redlateRead
  | data (port : Fin 18) (f : Flit)
  | idle (port : Fin 18) (f : Flit)
  | nak (port : Fin 18) (f : Flit)
  | train (port : Fin 18) (f : Flit)
  | linkUp (port : Fin 18)
  | lossOfLock (port : Fin 18)
  | dctrWrite (i : Fin 4096) (v : W32)
  | hostDoorbell (q : Fin 64) (tail : BitVec 12)
  | powerOn (b : BootInput)
  | status
  | setpkg (pkg : BitVec 20)
  | sethamp (base : W64) (size : W64)
  | setpwr (v : W32)
  | armspare (rank : Rank) (spare : BitVec 4)
  | retrain (port : Fin 18)
  | readctr (i : Nat)
  | resetmoon (moon : Fin 64)
  | getVersion (req : List Byte)
  | getCapabilities (req : List Byte)
  | negotiateAlgorithms (req : List Byte)
  | getDigests (req : List Byte)
  | getCertificate (slot : Nat) (req : List Byte)
  | challenge (req : List Byte)
  | getMeasurements (signed : Bool) (req : List Byte)
  | lmssig (req : List Byte)
  | powerWindow (watts : Nat)
  | powerOver
  | thermtrip (tenthsC : Nat)
  | railFault (millivolts nanoseconds : Nat)
  | registerWrite (r : RegName) (v : W64)
  | reportQueueTake (die : Fin 4)
  | portRetrainCommand (port : Fin 18)
  | moonRelease (moon : Fin 64)
  | state (rank : Rank)
  | resume (rank : Rank)
  | expel (rank : Rank) (gm : Fin 8)
  | preempt (rank : Rank)
  | mapspare (rank : Rank) (spare : BitVec 4)
  | wrcsr (rank : Rank) (n : BitVec 12) (v : W64)
  | rdcsr (rank : Rank) (n : BitVec 12)
  | trapTake (rank : Rank) (c : Cause) (tval : W64)
deriving DecidableEq, Repr

end Sys2Proof
end

