-- ==== Sys2Proof/WellFormed.lean ====
section
/-!
DEFINITION. Which instructions have an encoding: register classes (R195, R232, R254, R257, R281, R302, R307), types
and function values (R258, R282, R233), attributes (R174, R177). An instruction that fails here is one whose
encoding traps at decode.
-/

namespace Sys2Proof

/-! ### Element types (R84, R253) -/

/-- The code of an element type (R84). -/
def Ety.code : Ety → Nat
  | .raw => 0 | .f32 => 1 | .bf16 => 2 | .e4m3 => 3 | .e5m2 => 4 | .i8 => 5 | .i16 => 6 | .i32 => 7
  | .i64 => 8 | .n8 => 9 | .n16 => 10 | .n32 => 11 | .n64 => 12 | .w4 => 13 | .w3 => 14

/-- The element types by code; 0xF is reserved (R84). -/
def Ety.ofCode (n : Nat) : Option Ety :=
  [Ety.raw, .f32, .bf16, .e4m3, .e5m2, .i8, .i16, .i32, .i64, .n8, .n16, .n32, .n64, .w4, .w3][n]?

/-- The types F of R253. -/
def Ety.isF : Ety → Bool
  | .f32 | .bf16 => true
  | _ => false

/-- The types E8 of R253. -/
def Ety.isE8 : Ety → Bool
  | .e4m3 | .e5m2 => true
  | _ => false

/-- The types I of R253. -/
def Ety.isI : Ety → Bool
  | .i8 | .i16 | .i32 | .i64 | .n8 | .n16 | .n32 | .n64 => true
  | _ => false

/-- Types read as signed. -/
def Ety.isSigned : Ety → Bool
  | .i8 | .i16 | .i32 | .i64 => true
  | _ => false

/-- 0x0-0xC: every type a V-slot op accepts, `none` included (R253). -/
def Ety.isLane : Ety → Bool
  | .w4 | .w3 => false
  | _ => true

/-- Lane width in bits (R253); 8 for the packed types, which count as 1 byte (R213). -/
def Ety.width : Ety → Nat
  | .raw | .f32 | .i32 | .n32 => 32
  | .bf16 | .i16 | .n16 => 16
  | .i64 | .n64 => 64
  | .e4m3 | .e5m2 | .i8 | .n8 | .w4 | .w3 => 8

/-- The conversion pairs of `vcvt` (R268). -/
def vcvtOk (d s : Ety) (isat : Bool) : Bool :=
  ((d.isI && s.isI && d.width == s.width && d.isSigned != s.isSigned) ||
    (!isat && ((d.isI && (s.isF || s.isE8) && d.width == s.width) || ((d.isF || d.isE8) && s.isI && d.width == s.width) ||
      (d.isE8 && s.isE8 && d != s))))

/-- The conversion pairs of `vpack` (R269). -/
def vpackOk (d s : Ety) (isat : Bool) : Bool :=
  (d.isI && s.isI && (s.width == 32 || s.width == 16) && 2 * d.width == s.width) ||
    (!isat && ((d == .bf16 && s == .f32) || (d.isE8 && s == .bf16)))

/-- The conversion pairs of `vunpack` (R270). -/
def vunpackOk (d s : Ety) : Bool :=
  (d == .f32 && s == .bf16) || (d == .bf16 && s.isE8) ||
    (d.isI && s.isI && (d.width == 32 || d.width == 16) && d.width == 2 * s.width)

/-! ### Register classes -/

/-- The register classes that fields accept. -/
inductive Cls where
  | s        -- S of R195
  | d        -- D of R195
  | sreg     -- s0-s63 alone
  | even     -- even s0-s62 (R215)
  | v        -- V of R195
  | vs       -- VS of R254
  | vd       -- VD of R254
  | ms       -- MS of R254
  | md       -- MD of R254
  | ss       -- SS of R302
  | sd       -- SD of R302
  | vq       -- v0-v383 or q0 (`vext`, R306)
  | q0       -- q0 alone (R195)
  | dq0      -- D or q0 (`sld`, R195)
  | msS      -- MS or S (`cbr`, R281)
  | lc       -- `zero`, s0-s63 or q1 (`loop`, R285)
deriving DecidableEq, Repr

/-- Whether a class has a register. -/
def Cls.has : Cls → Reg → Bool
  | .s, .s _ | .s, .zero | .s, .ownrank | .s, .cyccount => true
  | .d, .s _ | .d, .zero => true
  | .sreg, .s _ => true
  | .even, .s n => n.val % 2 == 0
  | .v, .v _ => true
  | .vs, .v _ | .vs, .q _ | .vs, .zero | .vs, .lane | .vs, .ownrank | .vs, .cyccount => true
  | .vd, .v _ | .vd, .q _ | .vd, .zero => true
  | .ms, .m _ => true
  | .md, .m n => n.val != 0
  | .md, .zero => true
  | .ss, .s _ | .ss, .q _ | .ss, .zero | .ss, .lane | .ss, .ownrank | .ss, .cyccount => true
  | .sd, .s _ | .sd, .q _ | .sd, .zero => true
  | .vq, .v _ => true
  | .vq, .q n => n.val == 0
  | .q0, .q n => n.val == 0
  | .dq0, .s _ | .dq0, .zero => true
  | .dq0, .q n => n.val == 0
  | .msS, .m _ | .msS, .s _ | .msS, .zero | .msS, .ownrank | .msS, .cyccount => true
  | .lc, .s _ | .lc, .zero => true
  | .lc, .q n => n.val == 1
  | _, _ => false

/-- A scalar B operand accepts SS, or any 18-bit immediate (R303). -/
def Opd.ok : Opd → Bool
  | .reg r => Cls.ss.has r
  | .imm _ => true

/-- Attributes with an encoding: level 0 without a qualifier, level at most 5, and no mask where the op has none. -/
def Attr.ok (mask : Bool) (a : Attr) : Bool :=
  decide (a.lvl.toNat ≤ 5) && (a.iq != 0 || a.lvl == 0) && (mask || (a.mask == 0 && !a.mneg))

/-- The control registers of R145 that `csrr` reads. -/
def csrAssigned (n : Nat) : Bool :=
  decide (n ≤ 0x0E) || (decide (0x10 ≤ n) && decide (n ≤ 0x16)) || (decide (0x20 ≤ n) && decide (n ≤ 0x27))

/-- `csrw` of the registers that have no row of their own. -/
def csrwPlain (n : Nat) : Bool := csrAssigned n && n != 4 && n != 7 && n != 0xC

/-- The instructions that have an encoding; the steps of the other agents have none and are all well formed. -/
def Instr.wf : Instr → Bool
  -- ERT commands (R281, R316)
  | .read a d sa sb | .config a d sa sb | .pagein a d sa sb | .evict a d sa sb | .pin a d sa sb | .unpin a d sa sb
  | .discard a d sa sb => a.ok false && Cls.d.has d && Cls.s.has sa && Cls.s.has sb
  -- K slot (R281, R282, R285)
  | .csrwFmt a sa | .csrwEagerlim a sa | .csrwCbrto a sa | .brIndirect a sa | .ret a sa | .lbrkZ a sa | .lbrkNz a sa
  | .eret a sa => a.ok false && Cls.s.has sa
  | .fmt a sa => a.ok false && Cls.s.has sa && sa != .zero
  | .nop a | .br a _ | .lbrk a | .hwin a | .fmtImm a _ | .uliret a | .trap a _ | .halt a | .fenceEng a | .fenceMoon a
  | .fenceAll a | .tbar a _ => a.ok false
  | .bz a sa _ | .bnz a sa _ => a.ok false && Cls.s.has sa
  | .bm a _ _ ma _ => a.ok false && Cls.ms.has ma
  | .call a d _ => a.ok false && Cls.d.has d
  | .callIndirect a d sa => a.ok false && Cls.d.has d && Cls.s.has sa
  | .loop a len _ | .loopQ1 a len => a.ok false && len != 0
  | .loopScalar a len sc => a.ok false && len != 0 && Cls.sreg.has sc
  | .lstr a d sa => a.ok false && Cls.sreg.has d && Cls.s.has sa && sa != .zero
  | .lstrImm a d _ => a.ok false && Cls.sreg.has d
  | .cbrAny a _ p _ _ | .cbrAll a _ p _ _ =>
    a.ok false && (match p with
      | .mask _ _ => true
      | .scalar r => Cls.s.has r)
  | .csrr a d n => a.ok false && Cls.d.has d && csrAssigned n.toNat
  | .csrw a n sa => a.ok false && Cls.s.has sa && csrwPlain n.toNat
  | .tctl a d sa sb sc => a.ok false && Cls.d.has d && Cls.s.has sa && Cls.s.has sb && Cls.s.has sc
  -- S slot (R302-R306)
  | .add a d ra b | .sub a d ra b | .mul a d ra b | .mulh a _ d ra b | .div a _ d ra b | .rem a _ d ra b
  | .and a d ra b | .or a d ra b | .xor a d ra b | .andn a d ra b | .shl a d ra b | .shr a d ra b | .sra a d ra b
  | .rotl a d ra b | .min a _ d ra b | .max a _ d ra b | .slt a _ d ra b | .seq a d ra b | .sne a d ra b
  | .addsh a _ d ra b => a.ok false && Cls.sd.has d && Cls.ss.has ra && b.ok
  | .sel a d ra rb rc => a.ok false && Cls.sd.has d && Cls.ss.has ra && Cls.ss.has rb && Cls.ss.has rc
  | .clz a d ra | .ctz a d ra | .popc a d ra | .mov a d ra | .sext a _ d ra | .zext a _ d ra =>
    a.ok false && Cls.sd.has d && Cls.ss.has ra
  | .li a _ d _ => a.ok false && a.sba == 0 && a.sbc == 0 && Cls.sd.has d
  | .lih a d _ => a.ok false && a.sba == 0 && a.sbc == 0 && Cls.sreg.has d
  | .mpop a _ d ma | .mfirst a _ d ma => a.ok false && Cls.sd.has d && Cls.ms.has ma
  | .vext a t d va b => a.ok false && Cls.sd.has d && Cls.vq.has va && b.ok && t.isLane && t != .raw
  -- A slot (R195)
  | .vldq a sa _ => a.ok false && Cls.s.has sa
  | .vldqg a _ sa vi => a.ok true && Cls.s.has sa && Cls.v.has vi
  | .vst a sa vd _ => a.ok false && Cls.s.has sa && Cls.v.has vd
  | .vstm a _ sa vd _ => a.ok true && Cls.s.has sa && Cls.v.has vd
  | .vsts a _ sa vi vd => a.ok true && Cls.s.has sa && Cls.v.has vi && Cls.v.has vd
  | .sld a size signed d sa _ => a.ok false && Cls.dq0.has d && Cls.s.has sa && !(size == 3 && signed)
  | .sst a _ sa sd _ => a.ok false && Cls.s.has sa && Cls.s.has sd
  -- E slot (R195, R307)
  | .cset a _ sa | .sendc a _ sa | .xfree a sa => a.ok false && Cls.s.has sa
  | .cgo a d | .leave a _ _ d | .rclose a _ _ d => a.ok false && Cls.d.has d
  | .send a _ _ _ d sr sb | .ssend a _ _ _ d sr sb => a.ok false && Cls.d.has d && Cls.s.has sr && Cls.s.has sb
  | .recv a _ _ d x y z | .mget a _ d x y z | .mput a _ d x y z | .exget a _ d x y z =>
    a.ok false && Cls.d.has d && Cls.s.has x && Cls.s.has y && Cls.s.has z
  | .probe a _ d sr sm => a.ok false && Cls.even.has d && Cls.s.has sr && Cls.s.has sm
  | .cancel a d x | .matom a _ _ _ d x | .recvc a _ d x | .recvac a _ d x | .chld a _ d x | .xinfo a _ d x
  | .join a _ _ d x | .gbar a _ _ d x | .launch a _ d x | .recq a _ _ d x =>
    a.ok false && Cls.d.has d && Cls.s.has x
  | .sendr a op wide _ _ d sb si =>
    a.ok false && Cls.d.has d && Cls.s.has sb && Cls.s.has si && (!wide || op == .isum)
  | .recvr a _ _ d sb si => a.ok false && Cls.d.has d && Cls.s.has sb && Cls.s.has si
  | .xtst a d x m => a.ok false && Cls.d.has d && Cls.s.has x && Cls.s.has m
  | .xwait a x m => a.ok false && Cls.s.has x && Cls.s.has m
  -- matrix and wide accumulator (R232, R233)
  | .mma a _ _ sa | .mmaw a _ _ _ sa | .wld a _ _ sa | .mld a _ sa | .mst a _ sa | .lclr a sa =>
    a.ok false && Cls.s.has sa
  | .mzero a _ => a.ok false
  | .ladd a _ sa vb => a.ok true && Cls.s.has sa && Cls.v.has vb
  | .lmadd a _ sa vb vc => a.ok true && Cls.s.has sa && Cls.v.has vb && Cls.v.has vc
  | .lmerge a sa sb => a.ok false && Cls.s.has sa && Cls.s.has sb
  | .lrnd a _ _ d sa => a.ok false && Cls.d.has d && Cls.s.has sa
  -- V slot (R256, R258)
  | .vadd a t sat d x y | .vsub a t sat d x y | .vmul a t sat d x y =>
    a.ok true && Cls.vd.has d && Cls.vs.has x && Cls.vs.has y && (t.isI || (t.isF && !sat))
  | .vfma a t sat d x y z | .vfms a t sat d x y z | .vfnma a t sat d x y z =>
    a.ok true && Cls.vd.has d && Cls.vs.has x && Cls.vs.has y && Cls.vs.has z && (t.isI || (t.isF && !sat))
  | .vmin a t d x y | .vmax a t d x y =>
    a.ok true && Cls.vd.has d && Cls.vs.has x && Cls.vs.has y && (t.isI || t.isF)
  | .vabs a t sat d x | .vneg a t sat d x | .vredadd a t sat d x =>
    a.ok true && Cls.vd.has d && Cls.vs.has x && (t.isI || (t.isF && !sat))
  | .vredmax a t d x | .vredmin a t d x => a.ok true && Cls.vd.has d && Cls.vs.has x && (t.isI || t.isF)
  | .vand a t d x y | .vor a t d x y | .vxor a t d x y | .vandn a t d x y | .vsel a t d x y | .vperm a t d x y =>
    a.ok true && Cls.vd.has d && Cls.vs.has x && Cls.vs.has y && t.isLane
  | .vshl a t d x y | .vshr a t d x y | .vsra a t d x y =>
    a.ok true && Cls.vd.has d && Cls.vs.has x && Cls.vs.has y && t.isI
  | .vshlImm a t c d x | .vshrImm a t c d x | .vsraImm a t c d x =>
    a.ok true && Cls.vd.has d && Cls.vs.has x && t.isI && decide (c.toNat < t.width)
  | .vcmp a cc t d x y =>
    a.ok true && Cls.md.has d && Cls.vs.has x && Cls.vs.has y && (t.isF || t.isE8 || (t.isI && cc != .un))
  | .vclass a t _ d x => a.ok true && Cls.md.has d && Cls.vs.has x && (t.isF || t.isE8)
  | .vmov a t d x => a.ok true && Cls.vd.has d && Cls.vs.has x && t.isLane
  | .vbcast a t d sa => a.ok true && Cls.vd.has d && Cls.s.has sa && t.isLane && t != .raw
  | .vins a t k d x sb =>
    a.ok false && Cls.vd.has d && Cls.vs.has x && Cls.s.has sb && t.isLane && t != .raw &&
      decide (k.toNat < 512 / t.width)
  | .vidx a t d sa sb => a.ok true && Cls.vd.has d && Cls.s.has sa && Cls.s.has sb && t.isI
  | .vshuf a t d x y z => a.ok true && Cls.vd.has d && Cls.vs.has x && Cls.vs.has y && Cls.vs.has z && t.isLane
  | .vrot a t d x sk => a.ok true && Cls.vd.has d && Cls.vs.has x && Cls.s.has sk && t.isLane
  | .vcvt a dt st isat d x => a.ok true && Cls.vd.has d && Cls.vs.has x && vcvtOk dt st isat
  | .vpack a dt st isat d x y => a.ok true && Cls.vd.has d && Cls.vs.has x && Cls.vs.has y && vpackOk dt st isat
  | .vunpack a dt st _ d x => a.ok true && Cls.vd.has d && Cls.vs.has x && vunpackOk dt st
  | .vscale a t d x y => a.ok true && Cls.vd.has d && Cls.vs.has x && Cls.vs.has y && t.isF
  | .vround a _ t d x => a.ok true && Cls.vd.has d && Cls.vs.has x && t.isF
  | .vrcp a d x | .vrsq a d x | .vexp2 a d x | .vlog2 a d x | .vtanh a d x | .vsigm a d x =>
    a.ok true && Cls.vd.has d && Cls.vs.has x
  | .vrcpr a d x y | .vrsqr a d x y => a.ok true && Cls.vd.has d && Cls.vs.has x && Cls.vs.has y
  | .vtopk a _ d x y z => a.ok true && Cls.vd.has d && Cls.vs.has x && Cls.vs.has y && Cls.vs.has z
  | .vgate a _ d x => a.ok false && Cls.vd.has d && Cls.vs.has x
  | .vhist a _ d x y sc => a.ok true && Cls.vd.has d && Cls.vs.has x && Cls.vs.has y && Cls.s.has sc
  -- P slot (R257)
  | .mand a d x y | .mor a d x y | .mxor a d x y | .mandn a d x y =>
    a.ok false && Cls.md.has d && Cls.ms.has x && Cls.ms.has y
  | .mnot a d x | .mmov a d x => a.ok false && Cls.md.has d && Cls.ms.has x
  | .mset a d sa => a.ok false && Cls.md.has d && Cls.s.has sa
  | .msetLo a d n => a.ok false && Cls.md.has d && decide (n.toNat ≤ 64)
  | .mfromv a t _ d x => a.ok false && Cls.md.has d && Cls.vs.has x && t.isLane
  | _ => true

end Sys2Proof
end

