-- ==== Sys2Proof/Decode.lean ====
section
/-!
DEFINITION. The decoder: code lines (R171-R173), tails (R174-R176), the opcode map (R187) and the checks of R189 with
their reasons (R190); and the encoder, from the same tables.
-/

namespace Sys2Proof

/-! ### Registers (R138) -/

/-- The 9-bit code of a register. -/
def Reg.code : Reg → Nat
  | .v n => n.val
  | .s n => 384 + n.val
  | .q n => 448 + n.val
  | .m n => 464 + n.val
  | .zero => 480
  | .lane => 481
  | .ownrank => 482
  | .cyccount => 483

/-- The register a 9-bit code names, if any. -/
def Reg.ofCode (c : Nat) : Option Reg :=
  if h : c < 384 then some (.v ⟨c, h⟩)
  else if h : c - 384 < 64 then some (.s ⟨c - 384, h⟩)
  else if h : c - 448 < 4 then some (.q ⟨c - 448, h⟩)
  else if c < 464 then none
  else if h : c - 464 < 16 then some (.m ⟨c - 464, h⟩)
  else if c = 480 then some .zero
  else if c = 481 then some .lane
  else if c = 482 then some .ownrank
  else if c = 483 then some .cyccount
  else none

/-! ### Opcodes (R187) -/

/-- The 154 assigned opcodes (R187), by their mnemonics. -/
inductive Opc where
  | nop | br | bz | bnz | bm | call | ret | loop | lstr | lbrk | cbr | hwin | fmt | uliret | trap | halt | csrr
  | csrw | fence | tbar | eret | tctl | ertw | add | sub | mul | mulh | div | rem | and | or | xor | andn | shl
  | shr | sra | rotl | min | max | slt | seq | sne | sel | clz | ctz | popc | li | lih | mov | addsh | sext
  | zext | mpop | mfirst | vext | vldq | vldqg | vst | vstm | vsts | sld | sst | vadd | vsub | vmul | vfma
  | vfms | vfnma | vmin | vmax | vabs | vneg | vand | vor | vxor | vandn | vshl | vshr | vsra | vcmp | vclass
  | vsel | vmov | vbcast | vins | vidx | vperm | vshuf | vrot | vcvt | vpack | vunpack | vredadd | vredmax
  | vredmin | vscale | vround | vrcp | vrcpr | vrsq | vrsqr | vexp2 | vlog2 | vtanh | vsigm | vtopk | vgate
  | vhist | mand | mor | mxor | mandn | mnot | mmov | mset | mfromv | mma | mmaw | wld | mzero | mld | mst
  | lclr | ladd | lmadd | lmerge | lrnd | cset | cgo | send | ssend | recv | probe | cancel | mget | mput
  | matom | exget | sendc | recvc | recvac | chld | sendr | recvr | xtst | xwait | xinfo | xfree | join | leave
  | gbar | launch | recq | rclose
deriving DecidableEq, Repr

/-- The opcode map (R187). -/
def opcTable : List (Nat × Opc) :=
   [(0x00, .nop), (0x01, .br), (0x02, .bz), (0x03, .bnz), (0x04, .bm), (0x05, .call), (0x06, .ret),
   (0x07, .loop), (0x08, .lstr), (0x09, .lbrk), (0x0A, .cbr), (0x0B, .hwin), (0x0C, .fmt), (0x0D, .uliret),
   (0x0E, .trap), (0x0F, .halt), (0x10, .csrr), (0x11, .csrw), (0x12, .fence), (0x13, .tbar), (0x1D, .eret),
   (0x1E, .tctl)] ++
   [(0x1F, .ertw), (0x20, .add), (0x21, .sub), (0x22, .mul), (0x23, .mulh), (0x24, .div), (0x25, .rem),
   (0x26, .and), (0x27, .or), (0x28, .xor), (0x29, .andn), (0x2A, .shl), (0x2B, .shr), (0x2C, .sra),
   (0x2D, .rotl), (0x2E, .min), (0x2F, .max), (0x30, .slt), (0x31, .seq), (0x32, .sne), (0x33, .sel),
   (0x34, .clz)] ++
   [(0x35, .ctz), (0x36, .popc), (0x37, .li), (0x38, .lih), (0x39, .mov), (0x3A, .addsh), (0x3B, .sext),
   (0x3C, .zext), (0x3D, .mpop), (0x3E, .mfirst), (0x3F, .vext), (0x50, .vldq), (0x51, .vldqg), (0x52, .vst),
   (0x53, .vstm), (0x54, .vsts), (0x55, .sld), (0x56, .sst), (0x60, .vadd), (0x61, .vsub), (0x62, .vmul),
   (0x63, .vfma)] ++
   [(0x64, .vfms), (0x65, .vfnma), (0x66, .vmin), (0x67, .vmax), (0x68, .vabs), (0x69, .vneg), (0x6A, .vand),
   (0x6B, .vor), (0x6C, .vxor), (0x6D, .vandn), (0x6E, .vshl), (0x6F, .vshr), (0x70, .vsra), (0x71, .vcmp),
   (0x72, .vclass), (0x73, .vsel), (0x74, .vmov), (0x75, .vbcast), (0x76, .vins), (0x77, .vidx),
   (0x78, .vperm), (0x79, .vshuf)] ++
   [(0x7A, .vrot), (0x7B, .vcvt), (0x7C, .vpack), (0x7D, .vunpack), (0x7E, .vredadd), (0x7F, .vredmax),
   (0x80, .vredmin), (0x81, .vscale), (0x82, .vround), (0x83, .vrcp), (0x84, .vrcpr), (0x85, .vrsq),
   (0x86, .vrsqr), (0x87, .vexp2), (0x88, .vlog2), (0x89, .vtanh), (0x8A, .vsigm), (0x8B, .vtopk),
   (0x8C, .vgate), (0x8D, .vhist), (0xB0, .mand), (0xB1, .mor)] ++
   [(0xB2, .mxor), (0xB3, .mandn), (0xB4, .mnot), (0xB5, .mmov), (0xB6, .mset), (0xB7, .mfromv), (0xC0, .mma),
   (0xC1, .mmaw), (0xC2, .wld), (0xC3, .mzero), (0xC4, .mld), (0xC5, .mst), (0xC6, .lclr), (0xC7, .ladd),
   (0xC8, .lmadd), (0xC9, .lmerge), (0xCA, .lrnd), (0xCB, .cset), (0xCC, .cgo), (0xD0, .send), (0xD1, .ssend),
   (0xD2, .recv)] ++
   [(0xD3, .probe), (0xD4, .cancel), (0xD5, .mget), (0xD6, .mput), (0xD7, .matom), (0xD8, .exget),
   (0xD9, .sendc), (0xDA, .recvc), (0xDB, .recvac), (0xDC, .chld), (0xDD, .sendr), (0xDE, .recvr),
   (0xDF, .xtst), (0xE0, .xwait), (0xE1, .xinfo), (0xE2, .xfree), (0xE3, .join), (0xE4, .leave), (0xE5, .gbar),
   (0xE6, .launch), (0xE7, .recq), (0xE8, .rclose)]

/-- The opcode with a number. -/
def Opc.ofNum (n : Nat) : Option Opc := (opcTable.find? fun p => p.1 == n).map (·.2)

/-- The number of an opcode. -/
def Opc.num (o : Opc) : Nat := ((opcTable.find? fun p => p.2 == o).map (·.1)).getD 0

/-- Privileged opcodes (R187). -/
def Opc.priv : Opc → Bool
  | .eret | .tctl | .ertw => true
  | _ => false

/-- The ISA version that introduced an opcode (R188). -/
def Opc.version : Opc → Nat
  | .sendc | .recvc | .recvac | .chld | .lclr | .ladd | .lmadd | .lmerge | .lrnd | .sendr | .recvr | .vtopk | .vgate => 2
  | .cbr | .exget | .recq | .rclose | .vhist | .tbar => 3
  | _ => 1

/-- The slots of a bundle (R178). -/
inductive SlotKind where
  | k | s | a | v | p | e
deriving DecidableEq, Repr

/-- The slot of an opcode (R178). -/
def slotOf (opc : Nat) : SlotKind :=
  if opc < 0x20 then .k else if opc < 0x50 then .s else if opc < 0x60 then .a
  else if opc < 0xB0 then .v else if opc < 0xC0 then .p else .e

/-- Ops of a slot that a bundle may hold (R178). -/
def SlotKind.limit : SlotKind → Nat
  | .s | .v => 2
  | _ => 1

/-- The slot code of R190. -/
def SlotKind.code : SlotKind → Nat
  | .k => 1 | .s => 2 | .a => 3 | .v => 4 | .p => 5 | .e => 6

/-! ### Tails (R175, R176) -/

/-- The fields of a full tail (R175). -/
structure Tail where
  dst : Nat
  sa : Nat
  sb : Nat
  sc : Nat
  sba : Nat
  sbc : Nat
  pdist : Nat
  mask : Nat
  mneg : Bool
  fn : Nat
deriving DecidableEq, Repr

/-- The fields of 64 tail bits. -/
def Tail.ofNat (t : Nat) : Tail where
  dst := t / 2 ^ 55 % 512
  sa := t / 2 ^ 46 % 512
  sb := t / 2 ^ 37 % 512
  sc := t / 2 ^ 28 % 512
  sba := t / 2 ^ 24 % 16
  sbc := t / 2 ^ 20 % 16
  pdist := t / 2 ^ 17 % 8
  mask := t / 2 ^ 13 % 16
  mneg := t / 2 ^ 12 % 2 == 1
  fn := t % 2 ^ 12

/-- The 64 bits of a full tail. -/
def Tail.toNat (t : Tail) : Nat :=
  t.dst * 2 ^ 55 + t.sa * 2 ^ 46 + t.sb * 2 ^ 37 + t.sc * 2 ^ 28 + t.sba * 2 ^ 24 + t.sbc * 2 ^ 20 + t.pdist * 2 ^ 17 +
    t.mask * 2 ^ 13 + (if t.mneg then 2 ^ 12 else 0) + t.fn

/-- The tail length in bytes by the tl field (R172). -/
def tailLen (tl : Nat) : Nat :=
  match tl with
  | 0 => 0
  | 1 => 2
  | 2 => 4
  | _ => 8

/-- The full tail that a short tail abbreviates (R176). -/
def expandTail (tl raw : Nat) : Nat :=
  match tl with
  | 0 => 0
  | 1 => raw / 2 ^ 7 % 512 * 2 ^ 55 + raw / 2 ^ 4 % 8 * 2 ^ 17 + raw % 16
  | 2 =>
    raw / 2 ^ 23 % 512 * 2 ^ 55 + raw / 2 ^ 14 % 512 * 2 ^ 46 + raw / 2 ^ 5 % 512 * 2 ^ 37 + raw / 2 ^ 2 % 8 * 2 ^ 17 +
      raw % 4
  | _ => raw % 2 ^ 64

/-! ### Heads (R174) -/

def headTl (h : Nat) : Nat := h / 2 ^ 14 % 4
def headE (h : Nat) : Bool := h / 2 ^ 13 % 2 == 1
def headOpc (h : Nat) : Nat := h / 2 ^ 5 % 256
def headIq (h : Nat) : Nat := h / 2 ^ 3 % 4
def headLvl (h : Nat) : Nat := h % 8

/-! ### What each opcode does with its fields -/

/-- A register field of a tail: unused (must be 0), part of an immediate, or a register of a class. -/
inductive Fld where
  | no
  | raw
  | reg (c : Cls)
deriving DecidableEq, Repr

/-- The use an op makes of its tail: its register fields, whether it has a mask, whether its fn value is assigned, and
whether the other bits it leaves unused are 0. -/
structure Form where
  dst : Fld
  sa : Fld
  sb : Fld
  sc : Fld
  mask : Bool
  fnOk : Bool
  restOk : Bool
deriving DecidableEq, Repr

/-- Whether fn[3:0] holds a type that a test accepts. -/
def tyIn (p : Ety → Bool) (t : Tail) : Bool :=
  match Ety.ofCode (t.fn % 16) with
  | some y => p y
  | none => false

/-- Whether fn[3:0] and fn[7:4] hold a conversion pair that a test accepts (R268-R270). -/
def tyPair (p : Ety → Ety → Bool) (t : Tail) : Bool :=
  match Ety.ofCode (t.fn % 16), Ety.ofCode (t.fn / 16 % 16) with
  | some d, some s => p d s
  | _, _ => false

def tyWidth (t : Tail) : Nat := ((Ety.ofCode (t.fn % 16)).map Ety.width).getD 32

/-- The form of an S-slot op with a B operand: imm replaces sb and sc (R303). -/
def formB (t : Tail) (sa : Cls) (fnOk : Bool) : Form :=
  if t.fn < 2048 then ⟨.reg .sd, .reg sa, .reg .ss, .no, false, fnOk, true⟩
  else ⟨.reg .sd, .reg sa, .raw, .raw, false, fnOk, true⟩

/-- The use each opcode makes of its tail (R195, R232, R256-R258, R281, R282, R285, R302-R307). -/
def form (o : Opc) (t : Tail) : Form :=
  match o with
  | .nop | .hwin | .uliret | .halt => ⟨.no, .no, .no, .no, false, t.fn == 0, true⟩
  | .trap => ⟨.no, .no, .no, .no, false, true, true⟩
  | .fence => ⟨.no, .no, .no, .no, false, decide (t.fn < 3), true⟩
  | .tbar => ⟨.no, .no, .no, .no, false, t.fn % 16 == 0 && decide (t.fn < 128), true⟩
  | .br =>
    if t.fn % 2 = 1 then ⟨.no, .reg .s, .no, .no, false, t.fn == 1, true⟩
    else ⟨.no, .no, .raw, .raw, false, t.fn == 0, decide (t.sb < 256)⟩
  | .bz | .bnz => ⟨.no, .reg .s, .raw, .raw, false, t.fn == 0, decide (t.sb < 256)⟩
  | .bm =>
    ⟨.no, .reg .ms, .raw, .raw, false, decide (t.fn < 12) && t.fn % 4 != 3, decide (t.sb < 256)⟩
  | .call =>
    if t.fn % 2 = 1 then ⟨.reg .d, .reg .s, .no, .no, false, t.fn == 1, true⟩
    else ⟨.reg .d, .no, .raw, .raw, false, t.fn == 0, decide (t.sb < 256)⟩
  | .ret | .eret => ⟨.no, .reg .s, .no, .no, false, t.fn == 0, true⟩
  | .cbr =>
    ⟨.no, .reg .msS, .raw, .raw, false,
      decide (t.fn < 128) && t.fn / 4 % 4 != 3 && (decide (464 ≤ t.sa ∧ t.sa < 480) || t.fn / 4 % 4 == 0),
      decide (t.sb < 256)⟩
  | .fmt => ⟨.no, .reg .s, .no, .no, false, if t.sa = 480 then decide (t.fn < 2048) else t.fn == 0, true⟩
  | .csrr => ⟨.reg .d, .no, .no, .no, false, csrAssigned t.fn, true⟩
  | .csrw => ⟨.no, .reg .s, .no, .no, false, csrAssigned t.fn, true⟩
  | .tctl => ⟨.reg .d, .reg .s, .reg .s, .reg .s, false, t.fn == 0, true⟩
  | .ertw => ⟨.reg .d, .reg .s, .reg .s, .no, false, decide (t.fn < 7), true⟩
  | .loop =>
    if t.sc = 480 then ⟨.raw, .raw, .raw, .reg .lc, false, t.fn != 0, t.sb % 8 == 0⟩
    else ⟨.no, .no, .no, .reg .lc, false, t.fn != 0, true⟩
  | .lstr => ⟨.reg .sreg, .reg .s, .no, .no, false, t.sa == 480 || t.fn == 0, true⟩
  | .lbrk => ⟨.no, if t.fn % 4 = 1 ∨ t.fn % 4 = 2 then .reg .s else .no, .no, .no, false, decide (t.fn < 3), true⟩
  | .add | .sub | .mul | .and | .or | .xor | .andn | .shl | .shr | .sra | .rotl | .seq | .sne =>
    formB t .ss (t.fn % 2048 == 0)
  | .mulh | .div | .rem | .min | .max | .slt => formB t .ss (decide (t.fn % 2048 < 2))
  | .addsh => formB t .ss (decide (t.fn % 2048 < 128) && t.fn % 2 == 0)
  | .sel => ⟨.reg .sd, .reg .ss, .reg .ss, .reg .ss, false, t.fn == 0, true⟩
  | .clz | .ctz | .popc | .mov => ⟨.reg .sd, .reg .ss, .no, .no, false, t.fn == 0, true⟩
  | .sext | .zext => ⟨.reg .sd, .reg .ss, .no, .no, false, decide (t.fn < 3), true⟩
  | .li => ⟨.reg .sd, .raw, .raw, .raw, false, decide (t.fn < 2), t.sbc % 8 == 0⟩
  | .lih => ⟨.reg .sreg, .raw, .raw, .raw, false, t.fn == 0, t.sbc % 8 == 0⟩
  | .mpop | .mfirst => ⟨.reg .sd, .reg .ms, .no, .no, false, t.fn % 4 == 0 && decide (t.fn < 12), true⟩
  | .vext => formB t .vq (decide (t.fn % 2048 < 16) && tyIn (fun y => y.isLane && y != .raw) t)
  | .vldq => ⟨.reg .q0, .reg .s, .no, .no, false, true, true⟩
  | .vldqg => ⟨.reg .q0, .reg .s, .reg .v, .no, true, decide (t.fn < 3), true⟩
  | .vst => ⟨.no, .reg .s, .reg .v, .no, false, true, true⟩
  | .vstm => ⟨.no, .reg .s, .reg .v, .no, true, decide (t.fn / 1024 < 3), true⟩
  | .vsts => ⟨.no, .reg .s, .reg .v, .reg .v, true, decide (t.fn < 3), true⟩
  | .sld => ⟨.reg .dq0, .reg .s, .no, .no, false, t.fn / 512 != 7, true⟩
  | .sst => ⟨.no, .reg .s, .reg .s, .no, false, t.fn / 512 % 2 == 0, true⟩
  | .vadd | .vsub | .vmul =>
    ⟨.reg .vd, .reg .vs, .reg .vs, .no, true,
      decide (t.fn < 32) && tyIn (fun y => y.isI || (y.isF && t.fn / 16 % 2 == 0)) t, true⟩
  | .vfma | .vfms | .vfnma =>
    ⟨.reg .vd, .reg .vs, .reg .vs, .reg .vs, true,
      decide (t.fn < 32) && tyIn (fun y => y.isI || (y.isF && t.fn / 16 % 2 == 0)) t, true⟩
  | .vmin | .vmax =>
    ⟨.reg .vd, .reg .vs, .reg .vs, .no, true, decide (t.fn < 16) && tyIn (fun y => y.isI || y.isF) t, true⟩
  | .vabs | .vneg | .vredadd =>
    ⟨.reg .vd, .reg .vs, .no, .no, true,
      decide (t.fn < 32) && tyIn (fun y => y.isI || (y.isF && t.fn / 16 % 2 == 0)) t, true⟩
  | .vredmax | .vredmin =>
    ⟨.reg .vd, .reg .vs, .no, .no, true, decide (t.fn < 16) && tyIn (fun y => y.isI || y.isF) t, true⟩
  | .vand | .vor | .vxor | .vandn | .vsel | .vperm =>
    ⟨.reg .vd, .reg .vs, .reg .vs, .no, true, decide (t.fn < 16) && tyIn Ety.isLane t, true⟩
  | .vshl | .vshr | .vsra =>
    if t.fn < 2048 then
      ⟨.reg .vd, .reg .vs, .reg .vs, .no, true, decide (t.fn < 16) && tyIn Ety.isI t, true⟩
    else
      ⟨.reg .vd, .reg .vs, .no, .no, true, tyIn Ety.isI t && decide (t.fn / 16 % 128 < tyWidth t), true⟩
  | .vcmp =>
    ⟨.reg .md, .reg .vs, .reg .vs, .no, true,
      decide (t.fn < 112) && tyIn (fun y => y.isF || y.isE8 || (y.isI && t.fn / 16 % 8 != 6)) t, true⟩
  | .vclass => ⟨.reg .md, .reg .vs, .no, .no, true, tyIn (fun y => y.isF || y.isE8) t, true⟩
  | .vmov => ⟨.reg .vd, .reg .vs, .no, .no, true, decide (t.fn < 16) && tyIn Ety.isLane t, true⟩
  | .vbcast =>
    ⟨.reg .vd, .reg .s, .no, .no, true, decide (t.fn < 16) && tyIn (fun y => y.isLane && y != .raw) t, true⟩
  | .vins =>
    ⟨.reg .vd, .reg .vs, .reg .s, .no, false,
      decide (t.fn < 2048) && tyIn (fun y => y.isLane && y != .raw) t &&
        decide (t.fn / 16 % 128 < 512 / tyWidth t), true⟩
  | .vidx => ⟨.reg .vd, .reg .s, .reg .s, .no, true, decide (t.fn < 16) && tyIn Ety.isI t, true⟩
  | .vshuf => ⟨.reg .vd, .reg .vs, .reg .vs, .reg .vs, true, decide (t.fn < 16) && tyIn Ety.isLane t, true⟩
  | .vrot => ⟨.reg .vd, .reg .vs, .reg .s, .no, true, decide (t.fn < 16) && tyIn Ety.isLane t, true⟩
  | .vcvt =>
    ⟨.reg .vd, .reg .vs, .no, .no, true,
      decide (t.fn < 512) && tyPair (fun d s => vcvtOk d s (t.fn / 256 % 2 == 1)) t, true⟩
  | .vpack =>
    ⟨.reg .vd, .reg .vs, .reg .vs, .no, true,
      decide (t.fn < 512) && tyPair (fun d s => vpackOk d s (t.fn / 256 % 2 == 1)) t, true⟩
  | .vunpack => ⟨.reg .vd, .reg .vs, .no, .no, true, decide (t.fn < 512) && tyPair vunpackOk t, true⟩
  | .vscale => ⟨.reg .vd, .reg .vs, .reg .vs, .no, true, decide (t.fn < 16) && tyIn Ety.isF t, true⟩
  | .vround => ⟨.reg .vd, .reg .vs, .no, .no, true, decide (t.fn < 64) && tyIn Ety.isF t, true⟩
  | .vrcp | .vrsq | .vexp2 | .vlog2 | .vtanh | .vsigm => ⟨.reg .vd, .reg .vs, .no, .no, true, t.fn == 1, true⟩
  | .vrcpr | .vrsqr => ⟨.reg .vd, .reg .vs, .reg .vs, .no, true, t.fn == 1, true⟩
  | .vtopk => ⟨.reg .vd, .reg .vs, .reg .vs, .reg .vs, true, decide (t.fn < 128) && t.fn % 16 == 1, true⟩
  | .vgate => ⟨.reg .vd, .reg .vs, .no, .no, false, decide (t.fn < 128) && t.fn % 16 == 1, true⟩
  | .vhist => ⟨.reg .vd, .reg .vs, .reg .vs, .reg .s, true, t.fn == 10 || t.fn == 11, true⟩
  | .mand | .mor | .mxor | .mandn => ⟨.reg .md, .reg .ms, .reg .ms, .no, false, t.fn == 0, true⟩
  | .mnot | .mmov => ⟨.reg .md, .reg .ms, .no, .no, false, t.fn == 0, true⟩
  | .mset =>
    if t.fn < 2048 then ⟨.reg .md, .reg .s, .no, .no, false, t.fn == 0, true⟩
    else ⟨.reg .md, .no, .no, .no, false, decide (t.fn % 2048 ≤ 64), true⟩
  | .mfromv => ⟨.reg .md, .reg .vs, .no, .no, false, decide (t.fn < 32) && tyIn Ety.isLane t, true⟩
  | .mma => ⟨.no, .reg .s, .no, .no, false, decide (t.fn < 16), true⟩
  | .mmaw => ⟨.no, .reg .s, .no, .no, false, decide (t.fn < 32), true⟩
  | .wld => ⟨.no, .reg .s, .no, .no, false, decide (t.fn < 32) && t.fn % 8 == 0, true⟩
  | .mzero => ⟨.no, .no, .no, .no, false, decide (t.fn < 8), true⟩
  | .mld | .mst => ⟨.no, .reg .s, .no, .no, false, decide (t.fn < 8), true⟩
  | .lclr => ⟨.no, .reg .s, .no, .no, false, t.fn == 0, true⟩
  | .ladd => ⟨.no, .reg .s, .reg .v, .no, true, t.fn == 1 || t.fn == 2, true⟩
  | .lmadd => ⟨.no, .reg .s, .reg .v, .reg .v, true, t.fn == 1 || t.fn == 2, true⟩
  | .lmerge => ⟨.no, .reg .s, .reg .s, .no, false, t.fn == 0, true⟩
  | .lrnd => ⟨.reg .d, .reg .s, .no, .no, false, decide (t.fn < 32) && (t.fn % 16 == 1 || t.fn % 16 == 2), true⟩
  | .cset => ⟨.no, .reg .s, .no, .no, false, decide (t.fn < 4), true⟩
  | .cgo => ⟨.reg .d, .no, .no, .no, false, t.fn == 0, true⟩
  | .send | .ssend => ⟨.reg .d, .reg .s, .reg .s, .no, false, decide (t.fn < 256) && t.fn % 16 != 15, true⟩
  | .recv => ⟨.reg .d, .reg .s, .reg .s, .reg .s, false, decide (t.fn < 256) && t.fn % 16 == 0, true⟩
  | .probe => ⟨.reg .even, .reg .s, .no, .reg .s, false, decide (t.fn < 128) && t.fn % 16 == 0, true⟩
  | .cancel => ⟨.reg .d, .reg .s, .no, .no, false, t.fn == 0, true⟩
  | .mget | .mput | .exget => ⟨.reg .d, .reg .s, .reg .s, .reg .s, false, t.fn == 0 || t.fn == 128, true⟩
  | .matom => ⟨.reg .d, .reg .s, .no, .no, false, decide (t.fn % 128 < 16) && decide (t.fn < 256) && decide (2 ≤ t.fn % 16), true⟩
  | .sendc => ⟨.no, .reg .s, .no, .no, false, decide (t.fn < 64), true⟩
  | .recvc | .recvac | .chld => ⟨.reg .d, .reg .s, .no, .no, false, decide (t.fn < 64), true⟩
  | .sendr =>
    ⟨.reg .d, .reg .s, .reg .s, .no, false,
      decide (t.fn < 256) && t.fn % 8 != 7 && (t.fn / 8 % 2 == 0 || t.fn % 8 == 4), true⟩
  | .recvr => ⟨.reg .d, .reg .s, .reg .s, .no, false, decide (t.fn < 256) && t.fn % 16 == 0, true⟩
  | .xtst => ⟨.reg .d, .reg .s, .reg .s, .no, false, t.fn == 0, true⟩
  | .xwait => ⟨.no, .reg .s, .reg .s, .no, false, t.fn == 0, true⟩
  | .xinfo => ⟨.reg .d, .reg .s, .no, .no, false, decide (t.fn < 2), true⟩
  | .xfree => ⟨.no, .reg .s, .no, .no, false, t.fn == 0, true⟩
  | .join => ⟨.reg .d, .reg .s, .no, .no, false, decide (t.fn < 256) && t.fn % 16 == 0, true⟩
  | .leave => ⟨.reg .d, .no, .no, .no, false, decide (t.fn < 256) && t.fn % 16 == 0, true⟩
  | .gbar => ⟨.reg .d, .no, .reg .s, .no, false, decide (t.fn < 256) && t.fn % 16 == 0, true⟩
  | .launch => ⟨.reg .d, .reg .s, .no, .no, false, t.fn == 0 || t.fn == 128, true⟩
  | .recq => ⟨.reg .d, .no, .reg .s, .no, false, decide (t.fn < 256) && decide (t.fn % 128 < 8), true⟩
  | .rclose => ⟨.reg .d, .no, .no, .no, false, decide (t.fn < 256) && decide (t.fn % 128 < 8), true⟩

/-- A field in the class its op accepts; an immediate or unused field passes here. -/
def Fld.clsOk (f : Fld) (c : Nat) : Bool :=
  match f with
  | .reg k =>
    match Reg.ofCode c with
    | some r => k.has r
    | none => false
  | _ => true

/-- An unused field that is 0. -/
def Fld.zeroOk (f : Fld) (c : Nat) : Bool :=
  match f with
  | .no => c == 0
  | _ => true

/-- A register field, used by the op or not, that names q2 or q3, which pin 1 does not allow in any field (R177). -/
def Fld.chanQ (f : Fld) (c : Nat) : Bool :=
  match f with
  | .raw => false
  | _ => c == 450 || c == 451

/-- Check 8b of R189: opcode, group-scaled form or channel queue above the pin. -/
def pinOk (pin : Nat) (o : Opc) (t : Tail) (f : Form) : Bool :=
  decide (o.version ≤ pin) &&
  !((o == .mmaw || o == .wld) && t.fn / 16 % 2 == 1 && decide (pin < 3)) &&
  !(decide (pin < 2) && (f.dst.chanQ t.dst || f.sa.chanQ t.sa || f.sb.chanQ t.sb || f.sc.chanQ t.sc))

/-- Check 8e of R189. -/
def Form.clsOk (f : Form) (t : Tail) : Bool :=
  f.dst.clsOk t.dst && f.sa.clsOk t.sa && f.sb.clsOk t.sb && f.sc.clsOk t.sc

/-- Check 8g of R189. -/
def Form.fieldOk (f : Form) (t : Tail) : Bool :=
  f.dst.zeroOk t.dst && f.sa.zeroOk t.sa && f.sb.zeroOk t.sb && f.sc.zeroOk t.sc &&
    (f.mask || (t.mask == 0 && !t.mneg)) && f.restOk

/-! ### Building the instruction -/

/-- The attributes of an op. -/
def attrOf (iq lvl : Nat) (t : Tail) : Attr where
  iq := BitVec.ofNat 2 iq
  lvl := BitVec.ofNat 3 lvl
  sba := BitVec.ofNat 4 t.sba
  sbc := BitVec.ofNat 4 t.sbc
  pdist := BitVec.ofNat 3 t.pdist
  mask := BitVec.ofNat 4 t.mask
  mneg := t.mneg

/-- The attributes of `li` and `lih`, whose tag bits belong to the immediate (R306). -/
def attrLi (iq lvl : Nat) (t : Tail) : Attr := { attrOf iq lvl t with sba := 0, sbc := 0 }

/-- The target field [44:28] (R281). -/
def targetOf (t : Tail) : BitVec 17 := BitVec.ofNat 17 (t.sb * 512 + t.sc)

/-- The B operand of R303. -/
def opdOf (t : Tail) : Option Opd :=
  if t.fn < 2048 then (Reg.ofCode t.sb).map .reg else some (.imm (BitVec.ofNat 18 (t.sb * 512 + t.sc)))

/-- The 32-bit immediate [54:23] of `li` and `lih` (R306). -/
def imm32Of (t : Tail) : W32 :=
  BitVec.ofNat 32 (t.sa * 2 ^ 23 + t.sb * 2 ^ 14 + t.sc * 2 ^ 5 + t.sba * 2 + t.sbc / 8)

def widOf (n : Nat) : Wid :=
  match n with
  | 0 => .n8
  | 1 => .n16
  | _ => .n32

def mwidOf (n : Nat) : MWid :=
  match n with
  | 0 => .w16
  | 1 => .w32
  | _ => .w64

def bmCcOf (n : Nat) : BmCc :=
  match n with
  | 0 => .any
  | 1 => .all
  | _ => .none

def vccOf (n : Nat) : VCc :=
  match n with
  | 0 => .eq
  | 1 => .ne
  | 2 => .lt
  | 3 => .le
  | 4 => .gt
  | 5 => .ge
  | _ => .un

def rmodeOf (n : Nat) : RMode :=
  match n with
  | 0 => .rne
  | 1 => .rz
  | 2 => .rdn
  | _ => .rup

def redOpOf (n : Nat) : RedOp :=
  match n with
  | 0 => .fsum
  | 1 => .wmerge
  | 2 => .fmax
  | 3 => .fmin
  | 4 => .isum
  | 5 => .and
  | _ => .or

def atomOf (n : Nat) : AtomOp :=
  match n with
  | 1 => .add
  | 2 => .smin
  | 3 => .umin
  | 4 => .smax
  | 5 => .umax
  | 6 => .xchg
  | _ => .cas

def gmOf (t : Tail) : Fin 8 := Fin.ofNat 8 (t.fn / 16)
def uliOf (t : Tail) : Bool := t.fn / 128 % 2 == 1
def satOf (t : Tail) : Bool := t.fn / 16 % 2 == 1
def tyOf (t : Tail) : Ety := (Ety.ofCode (t.fn % 16)).getD .raw
def tySrcOf (t : Tail) : Ety := (Ety.ofCode (t.fn / 16 % 16)).getD .raw
def bit8Of (t : Tail) : Bool := t.fn / 256 % 2 == 1

/-- The predicate of `cbr` (R291). -/
def predOf (t : Tail) : Option Pred :=
  match Reg.ofCode t.sa with
  | some (.m n) => some (.mask n (mwidOf (t.fn / 4 % 4)))
  | some r => some (.scalar r)
  | none => none

/-- The instruction of an opcode and a tail that pass the checks of R189. -/
def build (o : Opc) (iq lvl : Nat) (t : Tail) : Option Instr :=
  let a := attrOf iq lvl t
  match o with
  | .nop => some (.nop a)
  | .br =>
    if t.fn % 2 = 1 then do return .brIndirect a (← Reg.ofCode t.sa) else some (.br a (targetOf t))
  | .bz => do return .bz a (← Reg.ofCode t.sa) (targetOf t)
  | .bnz => do return .bnz a (← Reg.ofCode t.sa) (targetOf t)
  | .bm => do return .bm a (bmCcOf (t.fn % 4)) (mwidOf (t.fn / 4)) (← Reg.ofCode t.sa) (targetOf t)
  | .call =>
    if t.fn % 2 = 1 then do return .callIndirect a (← Reg.ofCode t.dst) (← Reg.ofCode t.sa) else do return .call a (← Reg.ofCode t.dst) (targetOf t)
  | .ret => do return .ret a (← Reg.ofCode t.sa)
  | .loop =>
    if t.sc = 480 then some (.loop a (BitVec.ofNat 12 t.fn) (BitVec.ofNat 24 ((t.dst * 2 ^ 18 + t.sa * 2 ^ 9 + t.sb) / 8)))
    else if t.sc = 449 then some (.loopQ1 a (BitVec.ofNat 12 t.fn))
    else do return .loopScalar a (BitVec.ofNat 12 t.fn) (← Reg.ofCode t.sc)
  | .lstr =>
    if t.sa = 480 then do return .lstrImm a (← Reg.ofCode t.dst) (BitVec.ofNat 12 t.fn) else do return .lstr a (← Reg.ofCode t.dst) (← Reg.ofCode t.sa)
  | .lbrk =>
    if t.fn = 0 then some (.lbrk a)
    else do
      let r ← Reg.ofCode t.sa
      return if t.fn = 1 then .lbrkZ a r else .lbrkNz a r
  | .cbr =>
    do
    let p ← predOf t
    return if t.fn % 2 = 1 then .cbrAll a (gmOf t) p (t.fn / 2 % 2 == 1) (targetOf t)
      else .cbrAny a (gmOf t) p (t.fn / 2 % 2 == 1) (targetOf t)
  | .hwin => some (.hwin a)
  | .fmt =>
    if t.sa = 480 then some (.fmtImm a (BitVec.ofNat 11 t.fn)) else do return .fmt a (← Reg.ofCode t.sa)
  | .uliret => some (.uliret a)
  | .trap => some (.trap a (BitVec.ofNat 12 t.fn))
  | .halt => some (.halt a)
  | .csrr => do return .csrr a (← Reg.ofCode t.dst) (BitVec.ofNat 12 t.fn)
  | .csrw =>
    do
    let r ← Reg.ofCode t.sa
    return if t.fn = 4 then .csrwFmt a r else if t.fn = 7 then .csrwEagerlim a r else if t.fn = 0xC then .csrwCbrto a r
      else .csrw a (BitVec.ofNat 12 t.fn) r
  | .fence =>
    some (match t.fn with
    | 0 => .fenceEng a
    | 1 => .fenceMoon a
    | _ => .fenceAll a)
  | .tbar => some (.tbar a (gmOf t))
  | .eret => do return .eret a (← Reg.ofCode t.sa)
  | .tctl => do return .tctl a (← Reg.ofCode t.dst) (← Reg.ofCode t.sa) (← Reg.ofCode t.sb) (← Reg.ofCode t.sc)
  | .ertw =>
    do
    let d ← Reg.ofCode t.dst
    let x ← Reg.ofCode t.sa
    let y ← Reg.ofCode t.sb
    return match t.fn with
      | 0 => .read a d x y
      | 1 => .config a d x y
      | 2 => .pagein a d x y
      | 3 => .evict a d x y
      | 4 => .pin a d x y
      | 5 => .unpin a d x y
      | _ => .discard a d x y
  | .add => do return .add a (← Reg.ofCode t.dst) (← Reg.ofCode t.sa) (← opdOf t)
  | .sub => do return .sub a (← Reg.ofCode t.dst) (← Reg.ofCode t.sa) (← opdOf t)
  | .mul => do return .mul a (← Reg.ofCode t.dst) (← Reg.ofCode t.sa) (← opdOf t)
  | .mulh => do return .mulh a (t.fn % 2 == 1) (← Reg.ofCode t.dst) (← Reg.ofCode t.sa) (← opdOf t)
  | .div => do return .div a (t.fn % 2 == 1) (← Reg.ofCode t.dst) (← Reg.ofCode t.sa) (← opdOf t)
  | .rem => do return .rem a (t.fn % 2 == 1) (← Reg.ofCode t.dst) (← Reg.ofCode t.sa) (← opdOf t)
  | .and => do return .and a (← Reg.ofCode t.dst) (← Reg.ofCode t.sa) (← opdOf t)
  | .or => do return .or a (← Reg.ofCode t.dst) (← Reg.ofCode t.sa) (← opdOf t)
  | .xor => do return .xor a (← Reg.ofCode t.dst) (← Reg.ofCode t.sa) (← opdOf t)
  | .andn => do return .andn a (← Reg.ofCode t.dst) (← Reg.ofCode t.sa) (← opdOf t)
  | .shl => do return .shl a (← Reg.ofCode t.dst) (← Reg.ofCode t.sa) (← opdOf t)
  | .shr => do return .shr a (← Reg.ofCode t.dst) (← Reg.ofCode t.sa) (← opdOf t)
  | .sra => do return .sra a (← Reg.ofCode t.dst) (← Reg.ofCode t.sa) (← opdOf t)
  | .rotl => do return .rotl a (← Reg.ofCode t.dst) (← Reg.ofCode t.sa) (← opdOf t)
  | .min => do return .min a (t.fn % 2 == 1) (← Reg.ofCode t.dst) (← Reg.ofCode t.sa) (← opdOf t)
  | .max => do return .max a (t.fn % 2 == 1) (← Reg.ofCode t.dst) (← Reg.ofCode t.sa) (← opdOf t)
  | .slt => do return .slt a (t.fn % 2 == 1) (← Reg.ofCode t.dst) (← Reg.ofCode t.sa) (← opdOf t)
  | .seq => do return .seq a (← Reg.ofCode t.dst) (← Reg.ofCode t.sa) (← opdOf t)
  | .sne => do return .sne a (← Reg.ofCode t.dst) (← Reg.ofCode t.sa) (← opdOf t)
  | .sel => do return .sel a (← Reg.ofCode t.dst) (← Reg.ofCode t.sa) (← Reg.ofCode t.sb) (← Reg.ofCode t.sc)
  | .clz => do return .clz a (← Reg.ofCode t.dst) (← Reg.ofCode t.sa)
  | .ctz => do return .ctz a (← Reg.ofCode t.dst) (← Reg.ofCode t.sa)
  | .popc => do return .popc a (← Reg.ofCode t.dst) (← Reg.ofCode t.sa)
  | .li => do return .li (attrLi iq lvl t) (t.fn == 1) (← Reg.ofCode t.dst) (imm32Of t)
  | .lih => do return .lih (attrLi iq lvl t) (← Reg.ofCode t.dst) (imm32Of t)
  | .mov => do return .mov a (← Reg.ofCode t.dst) (← Reg.ofCode t.sa)
  | .addsh => do return .addsh a (BitVec.ofNat 6 (t.fn / 2)) (← Reg.ofCode t.dst) (← Reg.ofCode t.sa) (← opdOf t)
  | .sext => do return .sext a (widOf t.fn) (← Reg.ofCode t.dst) (← Reg.ofCode t.sa)
  | .zext => do return .zext a (widOf t.fn) (← Reg.ofCode t.dst) (← Reg.ofCode t.sa)
  | .mpop => do return .mpop a (mwidOf (t.fn / 4)) (← Reg.ofCode t.dst) (← Reg.ofCode t.sa)
  | .mfirst => do return .mfirst a (mwidOf (t.fn / 4)) (← Reg.ofCode t.dst) (← Reg.ofCode t.sa)
  | .vext => do return .vext a (tyOf t) (← Reg.ofCode t.dst) (← Reg.ofCode t.sa) (← opdOf t)
  | .vldq => do return .vldq a (← Reg.ofCode t.sa) (BitVec.ofNat 12 t.fn)
  | .vldqg => do return .vldqg a (widOf t.fn) (← Reg.ofCode t.sa) (← Reg.ofCode t.sb)
  | .vst => do return .vst a (← Reg.ofCode t.sa) (← Reg.ofCode t.sb) (BitVec.ofNat 12 t.fn)
  | .vstm => do return .vstm a (widOf (t.fn / 1024)) (← Reg.ofCode t.sa) (← Reg.ofCode t.sb) (BitVec.ofNat 10 t.fn)
  | .vsts => do return .vsts a (widOf t.fn) (← Reg.ofCode t.sa) (← Reg.ofCode t.sb) (← Reg.ofCode t.sc)
  | .sld => do return .sld a (BitVec.ofNat 2 (t.fn / 1024)) (t.fn / 512 % 2 == 1) (← Reg.ofCode t.dst) (← Reg.ofCode t.sa) (BitVec.ofNat 9 t.fn)
  | .sst => do return .sst a (BitVec.ofNat 2 (t.fn / 1024)) (← Reg.ofCode t.sa) (← Reg.ofCode t.sb) (BitVec.ofNat 9 t.fn)
  | .vadd => do return .vadd a (tyOf t) (satOf t) (← Reg.ofCode t.dst) (← Reg.ofCode t.sa) (← Reg.ofCode t.sb)
  | .vsub => do return .vsub a (tyOf t) (satOf t) (← Reg.ofCode t.dst) (← Reg.ofCode t.sa) (← Reg.ofCode t.sb)
  | .vmul => do return .vmul a (tyOf t) (satOf t) (← Reg.ofCode t.dst) (← Reg.ofCode t.sa) (← Reg.ofCode t.sb)
  | .vfma => do return .vfma a (tyOf t) (satOf t) (← Reg.ofCode t.dst) (← Reg.ofCode t.sa) (← Reg.ofCode t.sb) (← Reg.ofCode t.sc)
  | .vfms => do return .vfms a (tyOf t) (satOf t) (← Reg.ofCode t.dst) (← Reg.ofCode t.sa) (← Reg.ofCode t.sb) (← Reg.ofCode t.sc)
  | .vfnma => do return .vfnma a (tyOf t) (satOf t) (← Reg.ofCode t.dst) (← Reg.ofCode t.sa) (← Reg.ofCode t.sb) (← Reg.ofCode t.sc)
  | .vmin => do return .vmin a (tyOf t) (← Reg.ofCode t.dst) (← Reg.ofCode t.sa) (← Reg.ofCode t.sb)
  | .vmax => do return .vmax a (tyOf t) (← Reg.ofCode t.dst) (← Reg.ofCode t.sa) (← Reg.ofCode t.sb)
  | .vabs => do return .vabs a (tyOf t) (satOf t) (← Reg.ofCode t.dst) (← Reg.ofCode t.sa)
  | .vneg => do return .vneg a (tyOf t) (satOf t) (← Reg.ofCode t.dst) (← Reg.ofCode t.sa)
  | .vand => do return .vand a (tyOf t) (← Reg.ofCode t.dst) (← Reg.ofCode t.sa) (← Reg.ofCode t.sb)
  | .vor => do return .vor a (tyOf t) (← Reg.ofCode t.dst) (← Reg.ofCode t.sa) (← Reg.ofCode t.sb)
  | .vxor => do return .vxor a (tyOf t) (← Reg.ofCode t.dst) (← Reg.ofCode t.sa) (← Reg.ofCode t.sb)
  | .vandn => do return .vandn a (tyOf t) (← Reg.ofCode t.dst) (← Reg.ofCode t.sa) (← Reg.ofCode t.sb)
  | .vshl =>
    if t.fn < 2048 then do return .vshl a (tyOf t) (← Reg.ofCode t.dst) (← Reg.ofCode t.sa) (← Reg.ofCode t.sb)
    else do return .vshlImm a (tyOf t) (BitVec.ofNat 7 (t.fn / 16)) (← Reg.ofCode t.dst) (← Reg.ofCode t.sa)
  | .vshr =>
    if t.fn < 2048 then do return .vshr a (tyOf t) (← Reg.ofCode t.dst) (← Reg.ofCode t.sa) (← Reg.ofCode t.sb)
    else do return .vshrImm a (tyOf t) (BitVec.ofNat 7 (t.fn / 16)) (← Reg.ofCode t.dst) (← Reg.ofCode t.sa)
  | .vsra =>
    if t.fn < 2048 then do return .vsra a (tyOf t) (← Reg.ofCode t.dst) (← Reg.ofCode t.sa) (← Reg.ofCode t.sb)
    else do return .vsraImm a (tyOf t) (BitVec.ofNat 7 (t.fn / 16)) (← Reg.ofCode t.dst) (← Reg.ofCode t.sa)
  | .vcmp => do return .vcmp a (vccOf (t.fn / 16 % 8)) (tyOf t) (← Reg.ofCode t.dst) (← Reg.ofCode t.sa) (← Reg.ofCode t.sb)
  | .vclass => do return .vclass a (tyOf t) (BitVec.ofNat 8 (t.fn / 16)) (← Reg.ofCode t.dst) (← Reg.ofCode t.sa)
  | .vsel => do return .vsel a (tyOf t) (← Reg.ofCode t.dst) (← Reg.ofCode t.sa) (← Reg.ofCode t.sb)
  | .vmov => do return .vmov a (tyOf t) (← Reg.ofCode t.dst) (← Reg.ofCode t.sa)
  | .vbcast => do return .vbcast a (tyOf t) (← Reg.ofCode t.dst) (← Reg.ofCode t.sa)
  | .vins => do return .vins a (tyOf t) (BitVec.ofNat 7 (t.fn / 16)) (← Reg.ofCode t.dst) (← Reg.ofCode t.sa) (← Reg.ofCode t.sb)
  | .vidx => do return .vidx a (tyOf t) (← Reg.ofCode t.dst) (← Reg.ofCode t.sa) (← Reg.ofCode t.sb)
  | .vperm => do return .vperm a (tyOf t) (← Reg.ofCode t.dst) (← Reg.ofCode t.sa) (← Reg.ofCode t.sb)
  | .vshuf => do return .vshuf a (tyOf t) (← Reg.ofCode t.dst) (← Reg.ofCode t.sa) (← Reg.ofCode t.sb) (← Reg.ofCode t.sc)
  | .vrot => do return .vrot a (tyOf t) (← Reg.ofCode t.dst) (← Reg.ofCode t.sa) (← Reg.ofCode t.sb)
  | .vcvt => do return .vcvt a (tyOf t) (tySrcOf t) (bit8Of t) (← Reg.ofCode t.dst) (← Reg.ofCode t.sa)
  | .vpack => do return .vpack a (tyOf t) (tySrcOf t) (bit8Of t) (← Reg.ofCode t.dst) (← Reg.ofCode t.sa) (← Reg.ofCode t.sb)
  | .vunpack => do return .vunpack a (tyOf t) (tySrcOf t) (bit8Of t) (← Reg.ofCode t.dst) (← Reg.ofCode t.sa)
  | .vredadd => do return .vredadd a (tyOf t) (satOf t) (← Reg.ofCode t.dst) (← Reg.ofCode t.sa)
  | .vredmax => do return .vredmax a (tyOf t) (← Reg.ofCode t.dst) (← Reg.ofCode t.sa)
  | .vredmin => do return .vredmin a (tyOf t) (← Reg.ofCode t.dst) (← Reg.ofCode t.sa)
  | .vscale => do return .vscale a (tyOf t) (← Reg.ofCode t.dst) (← Reg.ofCode t.sa) (← Reg.ofCode t.sb)
  | .vround => do return .vround a (rmodeOf (t.fn / 16 % 4)) (tyOf t) (← Reg.ofCode t.dst) (← Reg.ofCode t.sa)
  | .vrcp => do return .vrcp a (← Reg.ofCode t.dst) (← Reg.ofCode t.sa)
  | .vrcpr => do return .vrcpr a (← Reg.ofCode t.dst) (← Reg.ofCode t.sa) (← Reg.ofCode t.sb)
  | .vrsq => do return .vrsq a (← Reg.ofCode t.dst) (← Reg.ofCode t.sa)
  | .vrsqr => do return .vrsqr a (← Reg.ofCode t.dst) (← Reg.ofCode t.sa) (← Reg.ofCode t.sb)
  | .vexp2 => do return .vexp2 a (← Reg.ofCode t.dst) (← Reg.ofCode t.sa)
  | .vlog2 => do return .vlog2 a (← Reg.ofCode t.dst) (← Reg.ofCode t.sa)
  | .vtanh => do return .vtanh a (← Reg.ofCode t.dst) (← Reg.ofCode t.sa)
  | .vsigm => do return .vsigm a (← Reg.ofCode t.dst) (← Reg.ofCode t.sa)
  | .vtopk => do return .vtopk a (Fin.ofNat 8 (t.fn / 16)) (← Reg.ofCode t.dst) (← Reg.ofCode t.sa) (← Reg.ofCode t.sb) (← Reg.ofCode t.sc)
  | .vgate => do return .vgate a (Fin.ofNat 8 (t.fn / 16)) (← Reg.ofCode t.dst) (← Reg.ofCode t.sa)
  | .vhist => do return .vhist a (t.fn == 10) (← Reg.ofCode t.dst) (← Reg.ofCode t.sa) (← Reg.ofCode t.sb) (← Reg.ofCode t.sc)
  | .mand => do return .mand a (← Reg.ofCode t.dst) (← Reg.ofCode t.sa) (← Reg.ofCode t.sb)
  | .mor => do return .mor a (← Reg.ofCode t.dst) (← Reg.ofCode t.sa) (← Reg.ofCode t.sb)
  | .mxor => do return .mxor a (← Reg.ofCode t.dst) (← Reg.ofCode t.sa) (← Reg.ofCode t.sb)
  | .mandn => do return .mandn a (← Reg.ofCode t.dst) (← Reg.ofCode t.sa) (← Reg.ofCode t.sb)
  | .mnot => do return .mnot a (← Reg.ofCode t.dst) (← Reg.ofCode t.sa)
  | .mmov => do return .mmov a (← Reg.ofCode t.dst) (← Reg.ofCode t.sa)
  | .mset =>
    if t.fn < 2048 then do return .mset a (← Reg.ofCode t.dst) (← Reg.ofCode t.sa) else do return .msetLo a (← Reg.ofCode t.dst) (BitVec.ofNat 7 t.fn)
  | .mfromv => do return .mfromv a (tyOf t) (satOf t) (← Reg.ofCode t.dst) (← Reg.ofCode t.sa)
  | .mma => do return .mma a (Fin.ofNat 8 t.fn) (Fin.ofNat 2 (t.fn / 8)) (← Reg.ofCode t.sa)
  | .mmaw => do return .mmaw a (Fin.ofNat 8 t.fn) (Fin.ofNat 2 (t.fn / 8)) (satOf t) (← Reg.ofCode t.sa)
  | .wld => do return .wld a (Fin.ofNat 2 (t.fn / 8)) (satOf t) (← Reg.ofCode t.sa)
  | .mzero => some (.mzero a (Fin.ofNat 8 t.fn))
  | .mld => do return .mld a (Fin.ofNat 8 t.fn) (← Reg.ofCode t.sa)
  | .mst => do return .mst a (Fin.ofNat 8 t.fn) (← Reg.ofCode t.sa)
  | .lclr => do return .lclr a (← Reg.ofCode t.sa)
  | .ladd => do return .ladd a (t.fn == 2) (← Reg.ofCode t.sa) (← Reg.ofCode t.sb)
  | .lmadd => do return .lmadd a (t.fn == 2) (← Reg.ofCode t.sa) (← Reg.ofCode t.sb) (← Reg.ofCode t.sc)
  | .lmerge => do return .lmerge a (← Reg.ofCode t.sa) (← Reg.ofCode t.sb)
  | .lrnd => do return .lrnd a (t.fn % 16 == 2) (satOf t) (← Reg.ofCode t.dst) (← Reg.ofCode t.sa)
  | .cset => do return .cset a (Fin.ofNat 4 t.fn) (← Reg.ofCode t.sa)
  | .cgo => do return .cgo a (← Reg.ofCode t.dst)
  | .send => do return .send a (tyOf t) (gmOf t) (uliOf t) (← Reg.ofCode t.dst) (← Reg.ofCode t.sa) (← Reg.ofCode t.sb)
  | .ssend => do return .ssend a (tyOf t) (gmOf t) (uliOf t) (← Reg.ofCode t.dst) (← Reg.ofCode t.sa) (← Reg.ofCode t.sb)
  | .recv => do return .recv a (gmOf t) (uliOf t) (← Reg.ofCode t.dst) (← Reg.ofCode t.sa) (← Reg.ofCode t.sb) (← Reg.ofCode t.sc)
  | .probe => do return .probe a (gmOf t) (← Reg.ofCode t.dst) (← Reg.ofCode t.sa) (← Reg.ofCode t.sc)
  | .cancel => do return .cancel a (← Reg.ofCode t.dst) (← Reg.ofCode t.sa)
  | .mget => do return .mget a (uliOf t) (← Reg.ofCode t.dst) (← Reg.ofCode t.sa) (← Reg.ofCode t.sb) (← Reg.ofCode t.sc)
  | .mput => do return .mput a (uliOf t) (← Reg.ofCode t.dst) (← Reg.ofCode t.sa) (← Reg.ofCode t.sb) (← Reg.ofCode t.sc)
  | .matom => do return .matom a (atomOf (t.fn / 2 % 8)) (t.fn % 2 == 1) (uliOf t) (← Reg.ofCode t.dst) (← Reg.ofCode t.sa)
  | .exget => do return .exget a (uliOf t) (← Reg.ofCode t.dst) (← Reg.ofCode t.sa) (← Reg.ofCode t.sb) (← Reg.ofCode t.sc)
  | .sendc => do return .sendc a (Fin.ofNat 64 t.fn) (← Reg.ofCode t.sa)
  | .recvc => do return .recvc a (Fin.ofNat 64 t.fn) (← Reg.ofCode t.dst) (← Reg.ofCode t.sa)
  | .recvac => do return .recvac a (Fin.ofNat 64 t.fn) (← Reg.ofCode t.dst) (← Reg.ofCode t.sa)
  | .chld => do return .chld a (Fin.ofNat 64 t.fn) (← Reg.ofCode t.dst) (← Reg.ofCode t.sa)
  | .sendr => do return .sendr a (redOpOf (t.fn % 8)) (t.fn / 8 % 2 == 1) (gmOf t) (uliOf t) (← Reg.ofCode t.dst) (← Reg.ofCode t.sa) (← Reg.ofCode t.sb)
  | .recvr => do return .recvr a (gmOf t) (uliOf t) (← Reg.ofCode t.dst) (← Reg.ofCode t.sa) (← Reg.ofCode t.sb)
  | .xtst => do return .xtst a (← Reg.ofCode t.dst) (← Reg.ofCode t.sa) (← Reg.ofCode t.sb)
  | .xwait => do return .xwait a (← Reg.ofCode t.sa) (← Reg.ofCode t.sb)
  | .xinfo => do return .xinfo a (t.fn == 1) (← Reg.ofCode t.dst) (← Reg.ofCode t.sa)
  | .xfree => do return .xfree a (← Reg.ofCode t.sa)
  | .join => do return .join a (gmOf t) (uliOf t) (← Reg.ofCode t.dst) (← Reg.ofCode t.sa)
  | .leave => do return .leave a (gmOf t) (uliOf t) (← Reg.ofCode t.dst)
  | .gbar => do return .gbar a (gmOf t) (uliOf t) (← Reg.ofCode t.dst) (← Reg.ofCode t.sb)
  | .launch => do return .launch a (uliOf t) (← Reg.ofCode t.dst) (← Reg.ofCode t.sa)
  | .recq => do return .recq a (Fin.ofNat 8 t.fn) (uliOf t) (← Reg.ofCode t.dst) (← Reg.ofCode t.sb)
  | .rclose => do return .rclose a (Fin.ofNat 8 t.fn) (uliOf t) (← Reg.ofCode t.dst)

/-! ### Decoding one op (R189, checks 8a-8g) -/

/-- Why an op is no instruction: the checks 8a-8g of R189. -/
inductive DecErr where
  | opcode | pin | priv | qual | regcode | fn | field
deriving DecidableEq, Repr

/-- The reason code of R189. -/
def DecErr.reason : DecErr → Nat
  | .opcode => 0x08 | .pin => 0x09 | .priv => 0x00 | .qual => 0x0A | .regcode => 0x0D | .fn => 0x0B | .field => 0x0C

/-- Decode an op from its head and full tail, under an ISA pin, on a supervisor tile or not: the checks of R189 in
their order, then the instruction. -/
def decodeOp (pin : Nat) (sup : Bool) (head tail : Nat) : Except DecErr Instr :=
  match Opc.ofNum (headOpc head) with
  | none => .error .opcode
  | some o =>
    let t := Tail.ofNat tail
    let f := form o t
    if !pinOk pin o t f then .error .pin
    else if o.priv && !sup then .error .priv
    else if 5 < headLvl head || (headIq head == 0 && headLvl head != 0) then .error .qual
    else if !f.clsOk t then .error .regcode
    else if !f.fnOk then .error .fn
    else if !f.fieldOk t then .error .field
    else
      match build o (headIq head) (headLvl head) t with
      | some i => .ok i
      | none => .error .regcode

/-- The instruction of a table word: bits [15:0] are the head, the bits above it the tail, zeros where the word ends
(pin 3; privileged ops as a supervisor tile decodes them). -/
def decodeTableWord (_nbits w : Nat) : Option Instr :=
  match decodeOp 3 true (w % 2 ^ 16) (expandTail (headTl w) (w / 2 ^ 16)) with
  | .ok i => some i
  | .error _ => none

/-! ### Lines and bundles (R171-R173) -/

/-- The heads and full tails of a line, from head `j` with `off` bytes not yet taken by tails (R172). -/
def lineOps (line : Nat) (n j off : Nat) : List (Nat × Nat) :=
  match n with
  | 0 => []
  | k + 1 =>
    let h := line / 2 ^ (16 + 16 * j) % 2 ^ 16
    let len := tailLen (headTl h)
    (h, expandTail (headTl h) (line / 2 ^ (8 * (off - len)) % 2 ^ (8 * len))) :: lineOps line k (j + 1) (off - len)

/-- The bytes of all tails of a line of `n` heads. -/
def lineTails (line : Nat) (n j : Nat) : Nat :=
  match n with
  | 0 => 0
  | k + 1 => tailLen (headTl (line / 2 ^ (16 + 16 * j) % 2 ^ 16)) + lineTails line k (j + 1)

/-- The heads and tails of a line, a 512-bit little-endian number, or the reason of R189 orders 3 to 7. -/
def parseLine (line : Nat) : Except Nat (List (Nat × Nat)) :=
  let n := line / 2 ^ 11 % 32
  let tails := lineTails line n 0
  if line % 2 ^ 11 ≠ 0 then .error 0x01
  else if n = 0 then .error 0x02
  else if 64 < 2 + 2 * n + tails then .error 0x03
  else if line / 2 ^ (8 * (2 + 2 * n)) % 2 ^ (8 * (62 - 2 * n - tails)) ≠ 0 then .error 0x04
  else
    let ops := lineOps line n 0 64
    if ops.any (fun p => headE p.1) && (ops.getLast?.map fun p => headE p.1) == some true then .ok ops
    else .error 0x05

/-- Whether head `h` of a line starts a bundle (R173). -/
def bundleStart (ops : List (Nat × Nat)) (h : Nat) : Bool :=
  decide (h < ops.length) && (h == 0 || (ops[h - 1]?.map fun p => headE p.1) == some true)

/-- The ops from a head up to and including the first with e = 1, with their head indexes. -/
def takeBundle (ops : List (Nat × Nat)) (h : Nat) : List (Nat × Nat × Nat) :=
  match ops with
  | [] => []
  | (hd, tl) :: r => (h, hd, tl) :: if headE hd then [] else takeBundle r (h + 1)

/-- The bundle that starts at head `h`. -/
def bundleAt (ops : List (Nat × Nat)) (h : Nat) : List (Nat × Nat × Nat) := takeBundle (ops.drop h) h

/-! ### The encoder -/

def Opd.fields : Opd → Nat × Nat × Nat
  | .reg r => (0, r.code, 0)
  | .imm i => (2048, i.toNat / 512, i.toNat % 512)

def Wid.code : Wid → Nat
  | .n8 => 0 | .n16 => 1 | .n32 => 2

def MWid.code : MWid → Nat
  | .w16 => 0 | .w32 => 1 | .w64 => 2

def BmCc.code : BmCc → Nat
  | .any => 0 | .all => 1 | .none => 2

def VCc.code : VCc → Nat
  | .eq => 0 | .ne => 1 | .lt => 2 | .le => 3 | .gt => 4 | .ge => 5 | .un => 6

def RMode.code : RMode → Nat
  | .rne => 0 | .rz => 1 | .rdn => 2 | .rup => 3

def RedOp.code : RedOp → Nat
  | .fsum => 0 | .wmerge => 1 | .fmax => 2 | .fmin => 3 | .isum => 4 | .and => 5 | .or => 6

/-- The code of an atomic, without its width (R44). -/
def AtomOp.code : AtomOp → Nat
  | .add => 1 | .smin => 2 | .umin => 3 | .smax => 4 | .umax => 5 | .xchg => 6 | .cas => 7

/-- A tail with the attributes of an op and its register and function fields. -/
def Tail.mk' (a : Attr) (dst sa sb sc fn : Nat) : Tail :=
  ⟨dst, sa, sb, sc, a.sba.toNat, a.sbc.toNat, a.pdist.toNat, a.mask.toNat, a.mneg, fn⟩

/-- A tail with a target field (R281). -/
def Tail.target (a : Attr) (dst sa : Nat) (g : BitVec 17) (fn : Nat) : Tail :=
  Tail.mk' a dst sa (g.toNat / 512) (g.toNat % 512) fn

/-- A tail with a B operand (R303). -/
def Tail.opd (a : Attr) (dst sa : Nat) (b : Opd) (fn : Nat) : Tail :=
  Tail.mk' a dst sa b.fields.2.1 b.fields.2.2 (fn + b.fields.1)

/-- The tail of `li` and `lih` (R306). -/
def Tail.imm32 (a : Attr) (dst : Nat) (i : W32) (fn : Nat) : Tail :=
  ⟨dst, i.toNat / 2 ^ 23, i.toNat / 2 ^ 14 % 512, i.toNat / 2 ^ 5 % 512, i.toNat / 2 % 16, i.toNat % 2 * 8,
    a.pdist.toNat, a.mask.toNat, a.mneg, fn⟩

/-- The code and width of a `cbr` predicate (R291). -/
def Pred.fields : Pred → Nat × Nat
  | .mask n w => (464 + n.val, w.code)
  | .scalar r => (r.code, 0)

/-- The opcode, attributes and full tail of an instruction; the steps of the other agents have none. -/
def encodeFields : Instr → Option (Opc × Attr × Tail)
  | .read a d x y => some (.ertw, a, Tail.mk' a d.code x.code y.code 0 0)
  | .config a d x y => some (.ertw, a, Tail.mk' a d.code x.code y.code 0 1)
  | .pagein a d x y => some (.ertw, a, Tail.mk' a d.code x.code y.code 0 2)
  | .evict a d x y => some (.ertw, a, Tail.mk' a d.code x.code y.code 0 3)
  | .pin a d x y => some (.ertw, a, Tail.mk' a d.code x.code y.code 0 4)
  | .unpin a d x y => some (.ertw, a, Tail.mk' a d.code x.code y.code 0 5)
  | .discard a d x y => some (.ertw, a, Tail.mk' a d.code x.code y.code 0 6)
  | .csrwFmt a x => some (.csrw, a, Tail.mk' a 0 x.code 0 0 4)
  | .csrwEagerlim a x => some (.csrw, a, Tail.mk' a 0 x.code 0 0 7)
  | .csrwCbrto a x => some (.csrw, a, Tail.mk' a 0 x.code 0 0 12)
  | .nop a => some (.nop, a, Tail.mk' a 0 0 0 0 0)
  | .hwin a => some (.hwin, a, Tail.mk' a 0 0 0 0 0)
  | .uliret a => some (.uliret, a, Tail.mk' a 0 0 0 0 0)
  | .halt a => some (.halt, a, Tail.mk' a 0 0 0 0 0)
  | .br a g => some (.br, a, Tail.target a 0 0 g 0)
  | .brIndirect a x => some (.br, a, Tail.mk' a 0 x.code 0 0 1)
  | .bz a x g => some (.bz, a, Tail.target a 0 x.code g 0)
  | .bnz a x g => some (.bnz, a, Tail.target a 0 x.code g 0)
  | .bm a cc w m g => some (.bm, a, Tail.target a 0 m.code g (cc.code + 4 * w.code))
  | .call a d g => some (.call, a, Tail.target a d.code 0 g 0)
  | .callIndirect a d x => some (.call, a, Tail.mk' a d.code x.code 0 0 1)
  | .ret a x => some (.ret, a, Tail.mk' a 0 x.code 0 0 0)
  | .eret a x => some (.eret, a, Tail.mk' a 0 x.code 0 0 0)
  | .loop a len n => some (.loop, a, Tail.mk' a (n.toNat * 8 / 2 ^ 18) (n.toNat * 8 / 2 ^ 9 % 512) (n.toNat * 8 % 512) 480 len.toNat)
  | .loopScalar a len x => some (.loop, a, Tail.mk' a 0 0 0 x.code len.toNat)
  | .loopQ1 a len => some (.loop, a, Tail.mk' a 0 0 0 449 len.toNat)
  | .lstr a d x => some (.lstr, a, Tail.mk' a d.code x.code 0 0 0)
  | .lstrImm a d i => some (.lstr, a, Tail.mk' a d.code 480 0 0 i.toNat)
  | .lbrk a => some (.lbrk, a, Tail.mk' a 0 0 0 0 0)
  | .lbrkZ a x => some (.lbrk, a, Tail.mk' a 0 x.code 0 0 1)
  | .lbrkNz a x => some (.lbrk, a, Tail.mk' a 0 x.code 0 0 2)
  | .cbrAny a gm p h g => some (.cbr, a, Tail.target a 0 p.fields.1 g (0 + 2 * h.toNat + 4 * p.fields.2 + 16 * gm.val))
  | .cbrAll a gm p h g => some (.cbr, a, Tail.target a 0 p.fields.1 g (1 + 2 * h.toNat + 4 * p.fields.2 + 16 * gm.val))
  | .fmt a x => some (.fmt, a, Tail.mk' a 0 x.code 0 0 0)
  | .fmtImm a v => some (.fmt, a, Tail.mk' a 0 480 0 0 v.toNat)
  | .trap a k => some (.trap, a, Tail.mk' a 0 0 0 0 k.toNat)
  | .csrr a d n => some (.csrr, a, Tail.mk' a d.code 0 0 0 n.toNat)
  | .csrw a n x => some (.csrw, a, Tail.mk' a 0 x.code 0 0 n.toNat)
  | .fenceEng a => some (.fence, a, Tail.mk' a 0 0 0 0 0)
  | .fenceMoon a => some (.fence, a, Tail.mk' a 0 0 0 0 1)
  | .fenceAll a => some (.fence, a, Tail.mk' a 0 0 0 0 2)
  | .tbar a gm => some (.tbar, a, Tail.mk' a 0 0 0 0 (16 * gm.val))
  | .tctl a d x y z => some (.tctl, a, Tail.mk' a d.code x.code y.code z.code 0)
  | .add a d x b => some (.add, a, Tail.opd a d.code x.code b 0)
  | .sub a d x b => some (.sub, a, Tail.opd a d.code x.code b 0)
  | .mul a d x b => some (.mul, a, Tail.opd a d.code x.code b 0)
  | .and a d x b => some (.and, a, Tail.opd a d.code x.code b 0)
  | .or a d x b => some (.or, a, Tail.opd a d.code x.code b 0)
  | .xor a d x b => some (.xor, a, Tail.opd a d.code x.code b 0)
  | .andn a d x b => some (.andn, a, Tail.opd a d.code x.code b 0)
  | .shl a d x b => some (.shl, a, Tail.opd a d.code x.code b 0)
  | .shr a d x b => some (.shr, a, Tail.opd a d.code x.code b 0)
  | .sra a d x b => some (.sra, a, Tail.opd a d.code x.code b 0)
  | .rotl a d x b => some (.rotl, a, Tail.opd a d.code x.code b 0)
  | .seq a d x b => some (.seq, a, Tail.opd a d.code x.code b 0)
  | .sne a d x b => some (.sne, a, Tail.opd a d.code x.code b 0)
  | .mulh a u d x b => some (.mulh, a, Tail.opd a d.code x.code b u.toNat)
  | .div a u d x b => some (.div, a, Tail.opd a d.code x.code b u.toNat)
  | .rem a u d x b => some (.rem, a, Tail.opd a d.code x.code b u.toNat)
  | .min a u d x b => some (.min, a, Tail.opd a d.code x.code b u.toNat)
  | .max a u d x b => some (.max, a, Tail.opd a d.code x.code b u.toNat)
  | .slt a u d x b => some (.slt, a, Tail.opd a d.code x.code b u.toNat)
  | .sel a d x y z => some (.sel, a, Tail.mk' a d.code x.code y.code z.code 0)
  | .clz a d x => some (.clz, a, Tail.mk' a d.code x.code 0 0 0)
  | .ctz a d x => some (.ctz, a, Tail.mk' a d.code x.code 0 0 0)
  | .popc a d x => some (.popc, a, Tail.mk' a d.code x.code 0 0 0)
  | .mov a d x => some (.mov, a, Tail.mk' a d.code x.code 0 0 0)
  | .li a n d i => some (.li, a, Tail.imm32 a d.code i n.toNat)
  | .lih a d i => some (.lih, a, Tail.imm32 a d.code i 0)
  | .addsh a k d x b => some (.addsh, a, Tail.opd a d.code x.code b (2 * k.toNat))
  | .sext a w d x => some (.sext, a, Tail.mk' a d.code x.code 0 0 w.code)
  | .zext a w d x => some (.zext, a, Tail.mk' a d.code x.code 0 0 w.code)
  | .mpop a w d x => some (.mpop, a, Tail.mk' a d.code x.code 0 0 (4 * w.code))
  | .mfirst a w d x => some (.mfirst, a, Tail.mk' a d.code x.code 0 0 (4 * w.code))
  | .vext a t d x b => some (.vext, a, Tail.opd a d.code x.code b t.code)
  | .vldq a x o => some (.vldq, a, Tail.mk' a 448 x.code 0 0 o.toNat)
  | .vldqg a w x y => some (.vldqg, a, Tail.mk' a 448 x.code y.code 0 w.code)
  | .vst a x y o => some (.vst, a, Tail.mk' a 0 x.code y.code 0 o.toNat)
  | .vstm a w x y o => some (.vstm, a, Tail.mk' a 0 x.code y.code 0 (1024 * w.code + o.toNat))
  | .vsts a w x y z => some (.vsts, a, Tail.mk' a 0 x.code y.code z.code w.code)
  | .sld a z n d x o => some (.sld, a, Tail.mk' a d.code x.code 0 0 (1024 * z.toNat + 512 * n.toNat + o.toNat))
  | .sst a z x y o => some (.sst, a, Tail.mk' a 0 x.code y.code 0 (1024 * z.toNat + o.toNat))
  | .cset a k x => some (.cset, a, Tail.mk' a 0 x.code 0 0 k.val)
  | .cgo a d => some (.cgo, a, Tail.mk' a d.code 0 0 0 0)
  | .send a t gm u d x y => some (.send, a, Tail.mk' a d.code x.code y.code 0 (t.code + 16 * gm.val + 128 * u.toNat))
  | .ssend a t gm u d x y => some (.ssend, a, Tail.mk' a d.code x.code y.code 0 (t.code + 16 * gm.val + 128 * u.toNat))
  | .recv a gm u d x y z => some (.recv, a, Tail.mk' a d.code x.code y.code z.code (16 * gm.val + 128 * u.toNat))
  | .probe a gm d x z => some (.probe, a, Tail.mk' a d.code x.code 0 z.code (16 * gm.val))
  | .cancel a d x => some (.cancel, a, Tail.mk' a d.code x.code 0 0 0)
  | .mget a u d x y z => some (.mget, a, Tail.mk' a d.code x.code y.code z.code (128 * u.toNat))
  | .mput a u d x y z => some (.mput, a, Tail.mk' a d.code x.code y.code z.code (128 * u.toNat))
  | .exget a u d x y z => some (.exget, a, Tail.mk' a d.code x.code y.code z.code (128 * u.toNat))
  | .matom a o w u d x => some (.matom, a, Tail.mk' a d.code x.code 0 0 (2 * o.code + w.toNat + 128 * u.toNat))
  | .sendc a k x => some (.sendc, a, Tail.mk' a 0 x.code 0 0 k.val)
  | .recvc a k d x => some (.recvc, a, Tail.mk' a d.code x.code 0 0 k.val)
  | .recvac a k d x => some (.recvac, a, Tail.mk' a d.code x.code 0 0 k.val)
  | .chld a k d x => some (.chld, a, Tail.mk' a d.code x.code 0 0 k.val)
  | .sendr a o w gm u d x y => some (.sendr, a, Tail.mk' a d.code x.code y.code 0 (o.code + 8 * w.toNat + 16 * gm.val + 128 * u.toNat))
  | .recvr a gm u d x y => some (.recvr, a, Tail.mk' a d.code x.code y.code 0 (16 * gm.val + 128 * u.toNat))
  | .xtst a d x y => some (.xtst, a, Tail.mk' a d.code x.code y.code 0 0)
  | .xwait a x y => some (.xwait, a, Tail.mk' a 0 x.code y.code 0 0)
  | .xinfo a h d x => some (.xinfo, a, Tail.mk' a d.code x.code 0 0 h.toNat)
  | .xfree a x => some (.xfree, a, Tail.mk' a 0 x.code 0 0 0)
  | .join a gm u d x => some (.join, a, Tail.mk' a d.code x.code 0 0 (16 * gm.val + 128 * u.toNat))
  | .leave a gm u d => some (.leave, a, Tail.mk' a d.code 0 0 0 (16 * gm.val + 128 * u.toNat))
  | .gbar a gm u d y => some (.gbar, a, Tail.mk' a d.code 0 y.code 0 (16 * gm.val + 128 * u.toNat))
  | .launch a u d x => some (.launch, a, Tail.mk' a d.code x.code 0 0 (128 * u.toNat))
  | .recq a q u d y => some (.recq, a, Tail.mk' a d.code 0 y.code 0 (q.val + 128 * u.toNat))
  | .rclose a q u d => some (.rclose, a, Tail.mk' a d.code 0 0 0 (q.val + 128 * u.toNat))
  | .mma a k w x => some (.mma, a, Tail.mk' a 0 x.code 0 0 (k.val + 8 * w.val))
  | .mmaw a k w g x => some (.mmaw, a, Tail.mk' a 0 x.code 0 0 (k.val + 8 * w.val + 16 * g.toNat))
  | .wld a w g x => some (.wld, a, Tail.mk' a 0 x.code 0 0 (8 * w.val + 16 * g.toNat))
  | .mzero a k => some (.mzero, a, Tail.mk' a 0 0 0 0 k.val)
  | .mld a k x => some (.mld, a, Tail.mk' a 0 x.code 0 0 k.val)
  | .mst a k x => some (.mst, a, Tail.mk' a 0 x.code 0 0 k.val)
  | .lclr a x => some (.lclr, a, Tail.mk' a 0 x.code 0 0 0)
  | .ladd a b x y => some (.ladd, a, Tail.mk' a 0 x.code y.code 0 (1 + b.toNat))
  | .lmadd a b x y z => some (.lmadd, a, Tail.mk' a 0 x.code y.code z.code (1 + b.toNat))
  | .lmerge a x y => some (.lmerge, a, Tail.mk' a 0 x.code y.code 0 0)
  | .lrnd a b k d x => some (.lrnd, a, Tail.mk' a d.code x.code 0 0 (1 + b.toNat + 16 * k.toNat))
  | .vadd a t s d x y => some (.vadd, a, Tail.mk' a d.code x.code y.code 0 (t.code + 16 * s.toNat))
  | .vsub a t s d x y => some (.vsub, a, Tail.mk' a d.code x.code y.code 0 (t.code + 16 * s.toNat))
  | .vmul a t s d x y => some (.vmul, a, Tail.mk' a d.code x.code y.code 0 (t.code + 16 * s.toNat))
  | .vfma a t s d x y z => some (.vfma, a, Tail.mk' a d.code x.code y.code z.code (t.code + 16 * s.toNat))
  | .vfms a t s d x y z => some (.vfms, a, Tail.mk' a d.code x.code y.code z.code (t.code + 16 * s.toNat))
  | .vfnma a t s d x y z => some (.vfnma, a, Tail.mk' a d.code x.code y.code z.code (t.code + 16 * s.toNat))
  | .vmin a t d x y => some (.vmin, a, Tail.mk' a d.code x.code y.code 0 t.code)
  | .vmax a t d x y => some (.vmax, a, Tail.mk' a d.code x.code y.code 0 t.code)
  | .vand a t d x y => some (.vand, a, Tail.mk' a d.code x.code y.code 0 t.code)
  | .vor a t d x y => some (.vor, a, Tail.mk' a d.code x.code y.code 0 t.code)
  | .vxor a t d x y => some (.vxor, a, Tail.mk' a d.code x.code y.code 0 t.code)
  | .vandn a t d x y => some (.vandn, a, Tail.mk' a d.code x.code y.code 0 t.code)
  | .vsel a t d x y => some (.vsel, a, Tail.mk' a d.code x.code y.code 0 t.code)
  | .vperm a t d x y => some (.vperm, a, Tail.mk' a d.code x.code y.code 0 t.code)
  | .vscale a t d x y => some (.vscale, a, Tail.mk' a d.code x.code y.code 0 t.code)
  | .vidx a t d x y => some (.vidx, a, Tail.mk' a d.code x.code y.code 0 t.code)
  | .vrot a t d x y => some (.vrot, a, Tail.mk' a d.code x.code y.code 0 t.code)
  | .vshl a t d x y => some (.vshl, a, Tail.mk' a d.code x.code y.code 0 t.code)
  | .vshr a t d x y => some (.vshr, a, Tail.mk' a d.code x.code y.code 0 t.code)
  | .vsra a t d x y => some (.vsra, a, Tail.mk' a d.code x.code y.code 0 t.code)
  | .vabs a t s d x => some (.vabs, a, Tail.mk' a d.code x.code 0 0 (t.code + 16 * s.toNat))
  | .vneg a t s d x => some (.vneg, a, Tail.mk' a d.code x.code 0 0 (t.code + 16 * s.toNat))
  | .vredadd a t s d x => some (.vredadd, a, Tail.mk' a d.code x.code 0 0 (t.code + 16 * s.toNat))
  | .vredmax a t d x => some (.vredmax, a, Tail.mk' a d.code x.code 0 0 t.code)
  | .vredmin a t d x => some (.vredmin, a, Tail.mk' a d.code x.code 0 0 t.code)
  | .vmov a t d x => some (.vmov, a, Tail.mk' a d.code x.code 0 0 t.code)
  | .vbcast a t d x => some (.vbcast, a, Tail.mk' a d.code x.code 0 0 t.code)
  | .vshlImm a t c d x => some (.vshl, a, Tail.mk' a d.code x.code 0 0 (2048 + 16 * c.toNat + t.code))
  | .vshrImm a t c d x => some (.vshr, a, Tail.mk' a d.code x.code 0 0 (2048 + 16 * c.toNat + t.code))
  | .vsraImm a t c d x => some (.vsra, a, Tail.mk' a d.code x.code 0 0 (2048 + 16 * c.toNat + t.code))
  | .vcmp a cc t d x y => some (.vcmp, a, Tail.mk' a d.code x.code y.code 0 (t.code + 16 * cc.code))
  | .vclass a t k d x => some (.vclass, a, Tail.mk' a d.code x.code 0 0 (t.code + 16 * k.toNat))
  | .vins a t k d x y => some (.vins, a, Tail.mk' a d.code x.code y.code 0 (t.code + 16 * k.toNat))
  | .vshuf a t d x y z => some (.vshuf, a, Tail.mk' a d.code x.code y.code z.code t.code)
  | .vcvt a p q b d x => some (.vcvt, a, Tail.mk' a d.code x.code 0 0 (p.code + 16 * q.code + 256 * b.toNat))
  | .vpack a p q b d x y => some (.vpack, a, Tail.mk' a d.code x.code y.code 0 (p.code + 16 * q.code + 256 * b.toNat))
  | .vunpack a p q b d x => some (.vunpack, a, Tail.mk' a d.code x.code 0 0 (p.code + 16 * q.code + 256 * b.toNat))
  | .vround a r t d x => some (.vround, a, Tail.mk' a d.code x.code 0 0 (t.code + 16 * r.code))
  | .vrcp a d x => some (.vrcp, a, Tail.mk' a d.code x.code 0 0 1)
  | .vrsq a d x => some (.vrsq, a, Tail.mk' a d.code x.code 0 0 1)
  | .vexp2 a d x => some (.vexp2, a, Tail.mk' a d.code x.code 0 0 1)
  | .vlog2 a d x => some (.vlog2, a, Tail.mk' a d.code x.code 0 0 1)
  | .vtanh a d x => some (.vtanh, a, Tail.mk' a d.code x.code 0 0 1)
  | .vsigm a d x => some (.vsigm, a, Tail.mk' a d.code x.code 0 0 1)
  | .vrcpr a d x y => some (.vrcpr, a, Tail.mk' a d.code x.code y.code 0 1)
  | .vrsqr a d x y => some (.vrsqr, a, Tail.mk' a d.code x.code y.code 0 1)
  | .vtopk a k d x y z => some (.vtopk, a, Tail.mk' a d.code x.code y.code z.code (1 + 16 * k.val))
  | .vgate a k d x => some (.vgate, a, Tail.mk' a d.code x.code 0 0 (1 + 16 * k.val))
  | .vhist a h d x y z => some (.vhist, a, Tail.mk' a d.code x.code y.code z.code (if h then 10 else 11))
  | .mand a d x y => some (.mand, a, Tail.mk' a d.code x.code y.code 0 0)
  | .mor a d x y => some (.mor, a, Tail.mk' a d.code x.code y.code 0 0)
  | .mxor a d x y => some (.mxor, a, Tail.mk' a d.code x.code y.code 0 0)
  | .mandn a d x y => some (.mandn, a, Tail.mk' a d.code x.code y.code 0 0)
  | .mnot a d x => some (.mnot, a, Tail.mk' a d.code x.code 0 0 0)
  | .mmov a d x => some (.mmov, a, Tail.mk' a d.code x.code 0 0 0)
  | .mset a d x => some (.mset, a, Tail.mk' a d.code x.code 0 0 0)
  | .msetLo a d n => some (.mset, a, Tail.mk' a d.code 0 0 0 (2048 + n.toNat))
  | .mfromv a t s d x => some (.mfromv, a, Tail.mk' a d.code x.code 0 0 (t.code + 16 * s.toNat))
  | _ => none

/-- The head (with the full tail length, and e as given) and the full tail of an instruction (R174, R175). -/
def encode (e : Bool) (i : Instr) : Option (Nat × Nat) :=
  match encodeFields i with
  | some (o, a, t) =>
    some (3 * 2 ^ 14 + (if e then 2 ^ 13 else 0) + o.num * 2 ^ 5 + a.iq.toNat * 2 ^ 3 + a.lvl.toNat, t.toNat)
  | none => none

/-- Whether an instruction is a tile's op, which has an encoding. -/
def Instr.isOp (i : Instr) : Bool := (encodeFields i).isSome

end Sys2Proof
end

