-- ==== Sys2Proof/Machine/State.lean ====
section
/-!
DEFINITION. The state of a Barulo module as plain data, every piece of it, and the state right after reset.
The names are those of INVENTORY.md, '## State', which cites the rule of spec/ for each.
-/

namespace Sys2Proof.Machine

/-- Bytes by address, in one canonical form: addresses strictly rising, no entry equal to 0, which is what an
unlisted address reads as (scratchpad: R117; the other memories: log entries 6 and 9). -/
abbrev Mem := List Host.Cell

/-- A store by key: the entries that differ from the default that its reader names. -/
abbrev Assoc (α : Type) := List (Nat × α)

/-! ### One tile: thread control -/

/-- The states `tctl` STATE reports (R315), without "no thread", which is `none` of `Thread.st`. -/
inductive ThreadSt where
  | none | running | stopped | suspended | halted
deriving DecidableEq, Repr

/-- A trap that has been raised and not yet taken: its cause and tval, and whether the op that raised it issued while
the thread was speculative (R364, R336). -/
structure TrapRec where
  cause : Cause
  tval : W64
  spec : Bool
deriving DecidableEq, Repr

/-- How far a pre-emption of the tile has come (R374, R375). -/
inductive Preempt where
  | none | requested | halted | saved
deriving DecidableEq, Repr

/-- Thread control: the state, the program counter and what belongs to the launch and to stops. `drain`: a trap, a handler's
entry or exit, or a resumption has happened since the last bundle, and the next one waits until every register write has landed
(R186); `trapped`: a trap has been taken at the boundary at which the thread stands (R364); `creditSince`: the cycle from which its
bundle has waited for a channel's credit (R111). -/
structure Thread where
  st : ThreadSt
  pc : IAddr
  base : Nat
  badTarget : Option IAddr
  gang : Option W32
  asid : Byte
  queue : Option (Fin 8)
  inHandler : Bool
  uliRet : IAddr
  deferred : List TrapRec
  svHandler : Bool
  domain : Nat
  domStart : Nat
  preempt : Preempt
  saveSlot : Option Nat
  tbar : Option (Fin 8)
  tbarGo : Option Nat
  starting : Bool
  drain : Bool
  trapped : Bool
  creditSince : Option Nat
deriving DecidableEq, Repr

/-! ### One tile: registers -/

/-- A q0 entry. `spec`: pushed by a bundle that issued while speculative (R334). -/
structure Q0Ent where
  val : W512
  spec : Bool
deriving DecidableEq, Repr

/-- Where a load goes (R208): q0, a scalar register, or nowhere (`zero`). -/
inductive LoadTo where
  | q0
  | s (n : Fin 64)
  | zero
deriving DecidableEq, Repr

/-- A load on its way (R121, R208). -/
structure Load where
  dst : LoadTo
  val : W512
  due : Nat
  tag : BitVec 4
  spec : Bool
deriving DecidableEq, Repr

/-- Which register a write in flight goes to; `q1` is a push (R141). -/
inductive Dest where
  | v (n : Fin 384)
  | s (n : Fin 64)
  | m (n : Fin 16)
  | q1
deriving DecidableEq, Repr

/-- A register write in flight (R181-R184): `due` is the first cycle that reads the new value, `keep` the bits of
the destination that the write leaves alone (disabled lanes, R255). -/
structure RegWrite where
  due : Nat
  dst : Dest
  val : W512
  keep : W512
  tag : BitVec 4
  spec : Bool
deriving DecidableEq, Repr

/-- The register files, queues and what is in flight (R138-R142, R181-R184). `popped` counts the entries of q1 popped since
placement, by which the dispatcher knows that a batch or a terminator has been taken (R358, R361). -/
structure Regs where
  v : Vector W512 384
  s : Vector W64 64
  shadow : Vector W64 16
  m : Vector W64 16
  q0 : List Q0Ent
  q1 : List W32
  popped : Nat
  loads : List Load
  flight : List RegWrite
deriving DecidableEq, Repr

/-- The control registers that hold a value of their own (R145, R144, R332). -/
structure Csr where
  fmt : BitVec 11
  fmtPend : Option (BitVec 11 × Nat)
  chk : Bool
  isapin : BitVec 2
  eagerlim : BitVec 15
  hampbase : BitVec 20
  hampsize : BitVec 19
  swapbase : BitVec 20
  ulivec : W64
  cbrto : W32
  rowprog : BitVec 10
  cause : BitVec 9
  epc : IAddr
  tval : W64
  xbase : BitVec 20
  gm : Vector W64 8
  cbseq : Vector W16 8
  latch : Vector (BitVec 2) 8
deriving DecidableEq, Repr

/-- One loop level (R150). `pos` counts the bundles of the current iteration already passed; `long`: the body lies in
more than 64 lines (R290); `strides` are the bound strides, in binding order. -/
structure Level where
  act : Bool
  start : IAddr
  len : Nat
  left : W32
  first : Bool
  pos : Nat
  long : Bool
  strides : List (Fin 64 × W32)
deriving DecidableEq, Repr

/-- The loop sequencer (R150). -/
structure Loops where
  lv : Vector Level 6
  depth : Nat
deriving DecidableEq, Repr

/-! ### One tile: speculation -/

/-- A held send (R202, R335): its slot, its packet and the number of bytes it holds. -/
structure HeldSend where
  xid : W16
  pkt : Packet
  bytes : Nat
deriving DecidableEq, Repr

/-- The unresolved collective branch (R332, R334). `ckpt*` are the checkpoint, `vcopies` the copied vector
registers, `path` the hinted path, `pop0`, `pop1` the queue entries popped while speculative, `wait`: the thread waits without running
ahead (R341), `result`: a result that landed (outcome bit or TIMEOUT) and waits for the boundary. -/
structure Spec where
  gm : Fin 8
  seq : W16
  all : Bool
  hint : Bool
  alt : IAddr
  path : IAddr
  cbrPc : IAddr
  left : W32
  wait : Bool
  result : Option (Option Bool)
  expelled : Bool
  stall : Nat
  ckptS : Vector W64 64
  ckptM : Vector W64 16
  ckptLoops : Loops
  pop0 : List Q0Ent
  pop1 : List W32
  vcopies : List (Fin 384 × W512)
  sends : List HeldSend
  trap : Option (TrapRec × Option IAddr)
deriving DecidableEq, Repr

/-! ### One tile: completion table, copy engine -/

/-- A shape record (R127), decoded. -/
structure Shape where
  base : Nat
  etype : BitVec 4
  ndm1 : Nat
  pad : Bool
  rsv : Bool
  ext : Vector Nat 4
  str : Vector Int 4
  padval : W32
deriving DecidableEq, Repr

/-- The op that holds a completion slot (R105, R307). -/
inductive SlotOp where
  | cgo | send | ssend | recv | mget | mput | matom | exget | chld | sendr | recvr | join | leave | gbar | launch
  | recq | rclose
deriving DecidableEq, Repr

/-- One piece of a moon transfer (R217): offset, length, and what came back. -/
structure Piece where
  off : Nat
  len : Nat
  moon : Rank
  addr : Nat
  sent : Bool
  reply : Option Byte
deriving DecidableEq, Repr

/-- An envelope (R83), decoded. -/
structure Env where
  src : Rank
  tag : W32
  group : W16
  etype : BitVec 4
  nan : Bool
  rdv : Bool
  sync : Bool
  len : Nat
  dst : Rank
  sxid : W16
deriving DecidableEq, Repr

/-- What an engine remembers of a transfer: its scratchpad range, its peer and key, its moon pieces, a send's stream (the bytes
pulled, the offset it has reached, the chunks it leaves out, the cycle of its next piece: R96, R376), its envelope and the bytes
that a held send keeps (R202). -/
structure Xfer where
  buf : Nat
  len : Nat
  peer : Rank
  tag : W32
  tmask : W32
  group : W16
  ident : W16
  etype : BitVec 4
  pieces : List Piece
  streaming : Bool
  pulled : Nat
  sent : Nat
  skip : W64
  nextAt : Nat
  expert : Option W16
  gm : Fin 8
  word : W64
  env : Option Env
  hold : Option (List Byte)
deriving DecidableEq, Repr

/-- A completion slot (R105-R108). `term` is the terminal state code with its status; `geom` the length that
fixed the chunk geometry (R107); `nanMis`: a format-bit mismatch waits for its first observation (R104); `spec`:
issued while the thread was speculative; `drop`: discarded, its later writes are dropped (R338). -/
structure Slot where
  used : Bool
  seq : BitVec 10
  op : SlotOp
  state : BitVec 4
  length : W32
  src : W32
  geom : Option Nat
  bits : W64
  uli : Bool
  uliAt : Option Nat
  nanMis : Bool
  spec : Bool
  drop : Bool
  x : Xfer
deriving DecidableEq, Repr

/-- A copy-engine work set (R131): the shadow registers it took, its slot, its records once read (source, destination), its index
list once read, and the first ordinal that is not written (R133, R134, R374). -/
structure WorkSet where
  regs : Vector W64 4
  xid : W16
  spec : Bool
  recs : Option (Shape × Shape)
  list : Option (List Nat)
  next : Nat
deriving DecidableEq, Repr

/-- The copy engine: shadow set and queued work sets, the running one first (R131, R132). -/
structure CopyEng where
  sh : Vector W64 4
  ws : List WorkSet
deriving DecidableEq, Repr

/-! ### One tile: message engine -/

/-- A posted receive (R88). -/
structure Posted where
  src : W32
  tag : W32
  tmask : W32
  group : W16
  buf : Nat
  cap : Nat
  xid : W16
deriving DecidableEq, Repr

/-- What a header slot of the hamper holds (R92): an eager message in its granules, an RTS, or a reduction result
that waits for its `recvr` (R225). -/
inductive HeldKind where
  | eager | rts | result
deriving DecidableEq, Repr

/-- A held envelope or result (R92, R225), with its granules. `taken`: matched, `copied` of its bytes already in the receive's
buffer (R95). -/
structure HeldEnv where
  kind : HeldKind
  env : Env
  key : Option RKey
  gran : Nat
  ngran : Nat
  bytes : Nat
  taken : Option W16
  copied : Nat
deriving DecidableEq, Repr

/-- A channel table entry (R109-R113). `w` is the 64-bit window start W of a send end (R111). -/
structure Chan where
  v : Bool
  recvEnd : Bool
  qb : Bool
  etype : BitVec 4
  peer : Nat
  pch : Fin 64
  depth : Nat
  size : Nat
  wper : Nat
  wlen : Nat
  w : Int
  lat : Nat
  credits : Nat
  buf : List (List Byte)
deriving DecidableEq, Repr

/-- A message an endpoint keeps after a refusal, with every later one to that destination (R97). `away`: it has
been sent again and its answer is awaited; `due`: when the oldest is next sent, 0 for one not sent yet. -/
structure Kept where
  pkt : Packet
  away : Bool
  due : Nat
deriving DecidableEq, Repr

/-- A receive that is pulling an RTS (R96). -/
structure Pulling where
  env : Env
  xid : W16
  n : Nat
  got : Nat
deriving DecidableEq, Repr

/-- The message engine's tables. `refused`: the messages refused STOPPED or SUSPENDED whose resending is awaited, in order, which
keep later ones of their sources out (R90, R97). `dead`: the trap of an uncorrectable error in one of the tables has been taken
(R372). `released`: host envelopes that `hwin` has let into matching, `inbox`: envelopes that wait for their turn, `tookAt`: the
cycle of the last arrival taken (R89, R294). `streams`: the sends that stream (R96). `orphans`: the moon, transfer id and piece of the
replies that are awaited for threads that are gone, and are discarded (R370). -/
structure MsgEng where
  posted : List Posted
  hamper : List HeldEnv
  ingress : List Env
  chan : Vector Chan 64
  kept : List Kept
  pulls : List Pulling
  filter : List W16
  refused : List (Rank × W16)
  dead : Bool
  released : List Env
  inbox : List Packet
  tookAt : Option Nat
  streams : List W16
  orphans : List (Rank × W16 × Nat)
deriving DecidableEq, Repr

/-! ### One tile: matrix engine -/

/-- An op in a matrix pipe, with what it captured at issue (R234-R251). -/
inductive MatOp where
  | mma (acc : Fin 8) (wbuf : Fin 2) (rec : Shape)
  | mmaw (acc : Fin 8) (wbuf : Fin 2) (gs : Bool) (rec : Shape)
  | mzero (acc : Fin 8)
  | mld (acc : Fin 8) (rec : Shape)
  | mst (acc : Fin 8) (rec : Shape)
  | wld (wbuf : Fin 2) (gs : Bool) (base : Nat)
  | lclr (addr : Nat)
  | ladd (addr : Nat) (bf : Bool) (a : W512) (lanes : W64)
  | lmadd (addr : Nat) (bf : Bool) (a b : W512) (lanes : W64)
  | lmerge (dst src : Nat)
  | lrnd (addr : Nat) (bf clr : Bool) (dst : Option (Fin 64))
deriving DecidableEq, Repr

/-- A queued or running matrix op: the `fmt` captured, its tag, the cycle from which it may start, its start cycle once
started, the rows (or k) already done, and whether it issued while speculative. -/
structure PipeOp where
  op : MatOp
  fmt : BitVec 11
  tag : BitVec 4
  ready : Nat
  start : Option Nat
  done : Nat
  spec : Bool
deriving DecidableEq, Repr

/-- A weight buffer (R238): weights keyed 128 k + n, scales keyed 128 g + n, kind INTEGER, 1-byte source. -/
structure WBuf where
  w : Assoc W16
  sc : Assoc W16
  integer : Bool
  oneByte : Bool
deriving DecidableEq, Repr

/-- The matrix engine: accumulator tiles keyed 4096 a + 128 r + n, weight buffers, pipes (R143, R234). -/
structure MatEng where
  acc : Assoc W32
  w : Vector WBuf 2
  arr : List PipeOp
  wgt : List PipeOp
  wide : List PipeOp
deriving DecidableEq, Repr

/-! ### One tile: the whole -/

/-- MODEL'S OWN (log 8): how the last op of the current bundle fared. -/
inductive Verdict where
  | issued
  | trapped (c : Cause) (tval : W64)
  | waits (stall : Nat)
deriving DecidableEq, Repr

/-- MODEL'S OWN (log 8): the bundle that is issuing: the verdict on its last op, the queue heads it popped (one pop a
bundle, R142), whether an op moved the flow, the cycles a record read adds (R237), the head index of the op being tried,
and whether the operations that a `fence` of the bundle waits for had finished when the bundle was tried. -/
structure Iss where
  verdict : Verdict
  q0 : Option W512
  q1 : Option W32
  q2 : Option W512
  moved : Bool
  extra : Nat
  head : Nat
  clear : Bool
deriving DecidableEq, Repr

/-- The swap region: the second half, live bits and spec bits by word number (R122). -/
structure Swap where
  half : Mem
  live : List Nat
  spec : List Nat
deriving DecidableEq, Repr

/-- One tile: thread, registers, memories, engines. `imemBad`, `spmBad`: lines and word addresses that hold an
uncorrectable error, a word of the second half of the swap region under its address plus 0x100000; `bad`: the `tval` codes of R372 of registers (0x200000 up), accumulator tiles and weight buffers
(0x100000 up) and message-engine tables (0x300000 up) that do. `frozen`: the engine steps that a pre-emption has stopped, each with the
cycles it had left (R374). -/
structure Tile where
  thr : Thread
  regs : Regs
  csr : Csr
  loops : Loops
  spec : Option Spec
  imem : Mem
  imemBad : List Nat
  spm : Mem
  spmBad : List Nat
  bad : List Nat
  swap : Swap
  cpl : Vector Slot 64
  copy : CopyEng
  msg : MsgEng
  mat : MatEng
  iss : Iss
  frozen : List (Nat × Instr)
deriving DecidableEq, Repr

/-! ### Moons -/

/-- MODEL'S OWN (log 62): moon requests that a unit of the module has sent under its rank `owner`: what came back of each, and the
step of the unit that follows the last answer. `dead`: nothing follows any more. -/
structure Job where
  owner : Rank
  xid : W16
  unit : Nat
  ev : Instr
  tag : Nat
  pieces : List Piece
  data : List (List Byte)
  dead : Bool
deriving DecidableEq, Repr

/-- A moon request in the moon's order (R54). `header` is its header as it came (R48); `own`: the level-3 table that it reads for itself,
where the walk that it shared ended in another 64 KiB page (R53). -/
structure MReq where
  id : Nat
  op : BitVec 4
  phys : Bool
  asid : Byte
  len : Nat
  addr : Nat
  reply : Rank
  src : Rank
  xid : W16
  chunk : W16
  data : List Byte
  a : W64
  b : W64
  pa : Option Nat
  walking : Bool
  own : Option Nat
  header : BitVec 256
  bad : List Nat
deriving DecidableEq, Repr

/-- A TLB entry (R52): a leaf tagged by ASID, virtual page base and page size. -/
structure TlbEnt where
  asid : Byte
  va : Nat
  big : Bool
  pa : Nat
  w : Bool
  a : Bool
deriving DecidableEq, Repr

/-- One moon (R42-R60). `inval`: for each TLBINV under way, the requests that it waits for (R52); `tookAt`: the cycle in which the
last request was accepted (R54). -/
structure Moon where
  asid : Assoc W64
  tlb : List TlbEnt
  queue : List MReq
  nextId : Nat
  ring : Assoc (BitVec 128)
  mtrctl : W32
  mfault : BitVec 256
  stopped : Bool
  restarted : Bool
  inval : List (List Nat)
  ingress : List Packet
  tookAt : Option Nat
deriving DecidableEq, Repr

/-! ### Expert residency table and page-ins -/

/-- A wait-queue chain of an ERT entry on one die (R26): head and tail while valid. -/
abbrev Chain := Option (BitVec 13 × BitVec 13)

/-- An ERT entry (R26). -/
structure ErtEnt where
  state : BitVec 3
  err : Bool
  pdie : Fin 4
  asid : Byte
  moon : Fin 16
  base : BitVec 20
  size : W16
  splitm1 : BitVec 2
  diemask : BitVec 4
  far : BitVec 48
  readers : W16
  age : W16
  wq : Vector Chain 4
deriving DecidableEq, Repr

/-- A die's pool registers (R29). -/
structure Pool where
  size : W16
  moon : Vector (BitVec 20 × BitVec 12) 16
  policy : BitVec 2
deriving DecidableEq, Repr

/-- A page-in in the package-wide queue (R37): the expert, the die of its starting event, whether that was a miss or a command, its
target dies and slot once chosen, and whether it waits for a slot, and since when (R31, R40). -/
structure PageIn where
  expert : W16
  die : Fin 4
  miss : Bool
  slot : Option Nat
  dies : List (Fin 4)
  waiting : Bool
  since : Nat
deriving DecidableEq, Repr

/-- A page-in engine at work: its page-in and the units it has moved (R24). -/
structure PgEng where
  job : PageIn
  moved : Nat
deriving DecidableEq, Repr

/-- A tile record (R359). -/
structure TileRec where
  expert : W16
  part : Byte
  rows : Byte
  first : W32
  handle : W32
  pagefail : Bool
  parked : Bool
  npm1 : BitVec 2
  carried : Bool
deriving DecidableEq, Repr

/-- A tile record on its way to a member: the die it runs on, the gang and the dispatch queue it comes from (the closing
die and the queue's number), the member and the round, and whether it has waited for a wait-queue entry (R36). -/
structure Dealt where
  tr : TileRec
  die : Fin 4
  gang : W32
  home : Fin 4
  queue : Fin 8
  member : Rank
  round : Nat
  waited : Bool
deriving DecidableEq, Repr

/-- A wait-queue entry (R34). -/
structure WqEnt where
  dealt : Dealt
  link : Option (BitVec 13)
deriving DecidableEq, Repr

/-- Counters of a die (R40). -/
structure ErtCnt where
  misses : W32
  pageins : W32
  units : W32
  evictions : W32
  exgetFaults : W32
deriving DecidableEq, Repr

/-- The ERT, its page-ins and its wait queues (R22-R41). By die: `rel`, the chains being released, in order of page-in
completion, with their DISCARD mark; `blocked`, the records that wait for a wait-queue entry (R36); `limit`, the records held
at the reader limit (R33). -/
structure Ert where
  ent : Assoc ErtEnt
  clock : W16
  pool : Vector Pool 4
  pageq : List PageIn
  eng : Vector (Option PgEng) 8
  wq : Vector (Assoc WqEnt) 4
  rel : Vector (List (W16 × Bool)) 4
  blocked : Vector (List Dealt) 4
  limit : Vector (List Dealt) 4
  cnt : Vector ErtCnt 4
deriving DecidableEq, Repr

/-! ### Fabric -/

/-- A stage of a packet's way (R61-R65, R68): an output of a router, which the packet holds for its flits; cycles that nothing
contends for; a crossing of a die link. Directions of an output: 0 south, 1 north, 2 east, 3 west, 4 to the router's tile, 5 out of the
edge port, 6 in from the edge port. -/
inductive Stage where
  | out (die row col dir : Nat)
  | wire (n : Nat)
  | link (l : Nat)
deriving DecidableEq, Repr

/-- A packet on its way: the step it causes at `unit`, what is left of its way, the cycle from which it asks for the first stage, and
the input of the router it stands at (R64). -/
structure Transit where
  pkt : Packet
  unit : Nat
  ev : Instr
  path : List Stage
  ready : Nat
  inp : Nat
deriving DecidableEq, Repr

/-- An output of a router: the first cycle at which it is free, and the input it served last (R64). -/
structure OutSt where
  port : Stage
  free : Nat
  last : Nat
deriving DecidableEq, Repr

/-- A scale-up port's view after training (R71, R367): width, lane map, speed. -/
abbrev View := BitVec 27

/-- A scale-up port (R69-R71, R74). `failed`: its last training ended in a mismatch or a timeout; `queue`: by class, the packets that
wait, each with the cycle from which it may leave; `part`: the bytes of the packet that is coming in; `downAt`, `trainAt`: when it went down and when it last began to train. -/
structure Port where
  up : Bool
  training : Bool
  failed : Bool
  view : View
  fseq : BitVec 12
  good : BitVec 12
  goodv : Bool
  nakSent : Bool
  replay : List Flit
  naks : Nat
  lastNak : BitVec 12
  credits : Vector Nat 3
  qdep : W16
  queue : Vector (List (Nat × Packet)) 3
  part : List Byte
  downAt : Nat
  trainAt : Nat
deriving DecidableEq, Repr

/-- End-to-end state of one pair at this module's end (R72): next sequence and unacknowledged packets as a
sender, expected sequence and held successors as a receiver. `rx`: whether the receiver holds an entry for the source, `rxUse` when it
was last used, `rxClosing` whether it is being retired; `lost`: the transfers the sender has given up (R73). -/
structure Peer where
  src : Rank
  dst : Rank
  next : W32
  unacked : List Packet
  tries : Nat
  lastUse : Nat
  expected : W32
  held : List Packet
  closing : Bool
  rx : Bool
  rxUse : Nat
  rxClosing : Bool
  lost : List W16
deriving DecidableEq, Repr

/-- An engine's end-to-end registers (R73). -/
structure E2e where
  ctl : W32
  dup : W32
  retx : W32
deriving DecidableEq, Repr

/-- The fabric's own state. `out`: the packets that have left the module, by port (0-17 scale-up, 18-25 Ultra Ethernet);
`flits`: the flits that the scale-up ports have sent; `transit`: the packets on their way, in the order of injection; `naks`: the
consecutive NAKs of each die link (R68); `uet`: the packets that wait at the Ultra Ethernet ports (R76). -/
structure Net where
  srt : Assoc W64
  port : Vector Port 18
  peers : List Peer
  waiting : List (Nat × Packet)
  store : Vector Nat 4
  e2e : Assoc E2e
  out : List (Nat × Packet)
  flits : List (Fin 18 × Flit)
  transit : List Transit
  outs : List OutSt
  naks : Assoc Nat
  uet : Vector (List (Nat × Packet)) 8
deriving DecidableEq, Repr

/-! ### Reductions, groups, barriers -/

/-- One input that reached a combining point: the rank-order place it folds at, its payload (none for an empty
partial or a mismatched input), and the missing mask it carried (R77-R79). -/
structure RInput where
  place : Nat
  data : Option (List Byte)
  missing : W64
deriving DecidableEq, Repr

/-- A reduction or branch slot with its number, or a combining unit's entry, in COLLECT (R77-R80). `due` is the cycle at
which its timer expires; `expelled`: a removal completed it without a member (R310). -/
structure RSlot where
  pt : Point
  ix : Nat
  key : RKey
  op : RedOp
  wide : Bool
  len : Nat
  inputs : List RInput
  expelled : Bool
  due : Nat
deriving DecidableEq, Repr

/-- A registration with a group entry (R309): the member and its gang, its membership register and its `join`, none for the join that
a launch makes (R351). -/
structure Joiner where
  rank : Rank
  gang : Option W32
  gm : Fin 8
  xid : Option W16
deriving DecidableEq, Repr

/-- An entry of the module's group table (R308, R309), or, under a number from 4096 up, what the module knows of a group whose
`home` is another package. `members` is filled when the group forms, ranks rising. -/
structure Group where
  ix : Nat
  grp : W16
  home : Nat
  count : Nat
  joiners : List Joiner
  members : List Rank
  left : List Rank
  formed : Bool
  due : Nat
deriving DecidableEq, Repr

/-- The switch die's reduction and group state. `waiting`: inputs without a slot, each with the cycle of its arrival;
`late`: the keys released after TIMEOUT with the cycle at which each leaves the list (R80); `lostLists`: the full missing
list of each slot's last timeout; `passed`: points that have passed a key's partial on (R78); `gaveUp`: the members that a point has given up on,
with the key (R81); `expelledKeys`: keys that a removal completed without a member (R310). -/
structure Red where
  rsto : W32
  redlate : W32
  slots : List RSlot
  waiting : List (Nat × Packet)
  late : List (RKey × Nat)
  lostLists : Assoc (List Rank)
  passed : List (Point × RKey)
  gaveUp : List (RKey × Rank)
  expelledKeys : List RKey
  groups : List Group
deriving DecidableEq, Repr

/-! ### Scheduling -/

/-- A kernel launch record (R343), decoded. -/
structure Klr where
  imgva : Nat
  imgmoon : Rank
  imglines : Nat
  pin : BitVec 2
  prio : Nat
  spill : Bool
  tdom : Bool
  rwv : Bool
  asid : Byte
  form : Bool
  ntiles : Nat
  die : Fin 4
  row0 : Nat
  col0 : Nat
  nrows : Nat
  ncols : Nat
  deps : List (Nat × Nat)
  donectr : Option Nat
  hampk : Nat
  hampb : Nat
  swapb : Nat
  grp : Option W64
  xbase : Nat
  arglen : Nat
  argva : Nat
  argmoon : Rank
  queue : Fin 8
  km1 : Nat
  splitmask : BitVec 4
  cap : Nat
  thresh : Nat
  ring : Nat
  outmoon : Rank
  outva : Nat
deriving DecidableEq, Repr

/-- A queued launch (R345-R347). `met`: the dependences already met; `origin`: the rank that submitted it, for the order of
one cycle (R384). -/
structure Queued where
  handle : W32
  klr : Klr
  bindDie : Fin 4
  met : List Nat
  entered : Nat
  resume : Bool
  origin : Rank
deriving DecidableEq, Repr

/-- A placed or suspended gang (R349-R352, R374-R377). `resuming`: it has been granted its tiles again and is being restored;
`aborts`: the host queues whose ABORT ends it (R370); `recs`: the experts of the tile records emitted to it. -/
structure Gang where
  handle : W32
  klr : Klr
  bindDie : Fin 4
  ranks : List Rank
  suspended : Bool
  suspending : Bool
  resuming : Bool
  placedAt : Nat
  aborts : List (Fin 64)
  recs : List W16
deriving DecidableEq, Repr

/-- A saved member (R375): the save slot's die and number, and the tile as it was saved. -/
structure Saved where
  die : Fin 4
  slot : Nat
  rank : Rank
  tile : Tile
deriving DecidableEq, Repr

/-- Spares of a die (R371): armed pair, the rank that is moving to a spare, with the spare and whether a `tctl` awaits the answer,
spares used, spares that failed self-test. -/
structure Spares where
  armed : Option (Rank × BitVec 4)
  moving : Option (Rank × Nat × Bool)
  used : List (Nat × Nat)
  bad : List Nat
deriving DecidableEq, Repr

/-- Scheduler state of the module. Queue 0-3: die queues, 4: the package queue. `aborted`: the gangs that an ABORT has ended whose
answers are still to come, each with its host queue (R383). -/
structure Sched where
  q : Vector (List Queued) 5
  dctr : Assoc W32
  gangs : List Gang
  handle : W32
  savepool : Vector W32 4
  saves : List Saved
  aborted : List (W32 × Fin 64)
  spares : Vector Spares 4
deriving DecidableEq, Repr

/-! ### Expert dispatch -/

/-- A routing record (R354). -/
structure RouteRec where
  token : W32
  expert : W16
  choice : Byte
  nanseen : Bool
  carried : Bool
  evicted : Bool
  none : Bool
  weight : W32
  score : W32
deriving DecidableEq, Repr

/-- A `recq` or `rclose` at the dispatcher (R355, R356): its thread and gang, its slot, the cycle of its arrival, the round number
it sampled, and a push's records. -/
structure Push where
  rank : Rank
  gang : Option W32
  xid : W16
  at_ : Nat
  round : Nat
  recs : List RouteRec
deriving DecidableEq, Repr

/-- The close of a round in progress (R357): the round, the cycle in which it was taken, the admitted rows in cut order, the closing
`rclose`, whether the lookups of step 5 are done, whether the rows are written, and whether a faulting row has stopped it. -/
structure Closing where
  round : Nat
  at_ : Nat
  rows : List RouteRec
  rank : Rank
  gang : Option W32
  xid : W16
  looked : Bool
  written : Bool
  stalled : Bool
deriving DecidableEq, Repr

/-- What a round brings a member (R360): whether its rows are joined, the records still parked, waiting or held, the
batches to deliver in order, how many of them are of ready records, and what the expert being released has released so far: records
parked at once, and records that waited for an entry. -/
structure Coming where
  round : Nat
  opened : Bool
  owed : Nat
  batches : List (List Dealt)
  ready : Nat
  part : List Dealt
  late : List Dealt
deriving DecidableEq, Repr

/-- A member of a bound gang (R360, R361): the rounds to come, the half that the next batch takes (true: upper), the numbers of
the last two batches' q1 entries, latest first, and of every round's terminator. -/
structure Member where
  rank : Rank
  pend : List Coming
  half : Bool
  last : List Nat
  ends : List Nat
deriving DecidableEq, Repr

/-- One expert dispatch queue of a die (R354-R362). `reserved`: the gang being placed that is to bind it (R345, R351). -/
structure DispQ where
  reserved : Option W32
  bound : Option W32
  round : Nat
  recs : List RouteRec
  pushes : List Push
  closes : List Push
  closing : List Closing
  members : List Member
  dropped1 : W32
  dropped3 : W32
  spares : W32
  carried : W32
deriving DecidableEq, Repr

/-! ### Supervisor reports -/

/-- A report (R366). -/
structure Report where
  rank : Rank
  code : Byte
  inh : Bool
  spec : Bool
  epc : IAddr
  tval : W64
  wclk : W64
deriving DecidableEq, Repr

/-- A die's hardware report queue of 1024 entries, and the reporters that wait (R366). -/
structure RepQ where
  q : List Report
  waiting : List Report
  taken : List Report
deriving DecidableEq, Repr

/-! ### Host -/

/-- A host queue pair (R380, R383). -/
structure Pair where
  sub : W64
  cpl : W64
  lsize : BitVec 4
  en : Bool
  tail : BitVec 12
  head : Nat
  cidx : Nat
  phase : Bool
deriving DecidableEq, Repr

/-- A transfer of the host engine (R382): its queue, tag, addresses and state. -/
structure HXfer where
  used : Bool
  seq : BitVec 20
  recv : Bool
  q : Fin 64
  tag : W16
  haddr : Nat
  len : Nat
  peer : Rank
  mtag : W32
  tmask : W32
  group : W16
  etype : BitVec 4
  nan : Bool
  matched : Bool
  streaming : Bool
deriving DecidableEq, Repr

/-- The host engine's side of the module (R380-R385). `posted` and `headers` name transfers and held envelopes; `last` is
the pair served last (R384). -/
structure HostSt where
  pair : Vector Pair 64
  last : Fin 64
  mem : Mem
  xfer : Assoc HXfer
  posted : List Nat
  headers : List (Env × Option Nat)
  hampBase : W64
  hampSize : W64
  kept : List Kept
  pulls : List (Nat × Rank × W16 × Nat × Nat)
deriving DecidableEq, Repr

/-! ### Management, attestation, power -/

/-- What a management or SPDM request was answered with (R388, R389). -/
inductive MgmtReply where
  | ok
  | busy
  | refused
  | value (v : W64)
  | status (bootst : Byte) (temp : Nat) (watts : Nat) (pwrctl : W32)
  | spdm (kind : Nat) (body : List Byte)
  | signed (kind : Nat) (body : List Byte) (sig : BitVec 768)
  | lms (sig : List Byte)
  | supervisorTrap (rank : Rank) (cause : BitVec 9) (tval : W64)
deriving DecidableEq, Repr

/-- Why the device tripped (R392). -/
inductive Trip where
  | temperature | rail
deriving DecidableEq, Repr

/-- The management core and the power controller (R386-R392). `overs`: windows of 1024 periods for which the power has stayed
above the limit at `swmax`; `retrainAsks`: the ports that the host asks the supervisor of die 0 to retrain (R389); `readback`:
what the supervisor read over the service network; `algo`: SPDM's algorithms are agreed; `lastSigned`: the transcript hash that
LMSSIG signs. -/
structure Mgmt where
  pkg : BitVec 20
  pkgSet : Option (BitVec 20)
  boot : Option BootInput
  bootst : Byte
  failrep : BitVec 256
  pwrctl : W32
  overs : Nat
  swallowed : Nat
  trip : Option Trip
  ctrs : Assoc W32
  temp : Nat
  watts : Nat
  algo : Bool
  transcript : List Byte
  lastSigned : Option (BitVec 384)
  replies : List MgmtReply
  readback : List W64
  retrainAsks : List (Fin 18)
deriving DecidableEq, Repr

/-! ### The module -/

/-- An event that is due at a cycle: a packet on the fabric, an engine's next step, a timer, a command. `unit` is the
tile, moon, die or host queue that the step acts on, which becomes `State.cur`. -/
structure Timed where
  due : Nat
  unit : Nat
  ev : Instr
deriving DecidableEq, Repr

/-- What comes from outside with a cycle and has no step of its own: soft errors that the codes find (R372), and packets from the Ultra
Ethernet ports (R76). A corrected error names its counter; the others name the word, line, entry, packet in transit or link. -/
inductive Input where
  | corrected (counter : Nat)
  | scratch (tile word : Nat) (second : Bool)
  | line (tile n : Nat)
  | entry (tile code : Nat)
  | hbm (addr : Nat)
  | far (addr : Nat)
  | frozen (kind index : Nat)
  | flit (i word : Nat)
  | header (i : Nat)
  | link (l : Nat)
  | packet (port : Fin 8) (p : Packet)
deriving DecidableEq, Repr

/-- The state of the module. `inputs`: what is still to come from outside, each with its cycle. Tiles are keyed by die * 1024 + tile index, moons by die * 16 + moon index. `frozen`: the
entries that hold an uncorrectable error, by the structure and index of the report 0x41 (R367, R372). -/
structure State where
  now : Nat
  wclk : Nat
  delays : List Nat
  freeCtr : Nat
  agenda : List Timed
  turn : List Nat
  cur : Nat
  tiles : Assoc Tile
  moons : Assoc Moon
  hbm : Mem
  hbmBad : List Nat
  far : Mem
  farBad : List Nat
  jobs : List Job
  nextJob : W16
  ert : Ert
  net : Net
  red : Red
  sched : Sched
  disp : Vector (Vector DispQ 8) 4
  rep : Vector RepQ 4
  host : HostSt
  mgmt : Mgmt
  frozen : List (Nat × Nat)
  inputs : List (Nat × Input)
deriving DecidableEq, Repr

/-- Why a step stops the machine for good. -/
inductive Fault where
  /-- Raised by `step` alone: THERMTRIP or a rail fault has stopped every clock (R392), and no power cycle, which alone clears
  it, has come. Safe: the hardware takes no step either. -/
  | clocksStopped
deriving DecidableEq, Repr

/-- Why a step gives an instruction no meaning. -/
inductive Refusal where
  /-- Raised only by an arm of `exec` whose instruction has no meaning yet. Safe: nothing can be proved of it. -/
  | notModelled (mnemonic : String)
deriving DecidableEq, Repr

/-! ### Reset -/

/-- A closed loop level (R150). -/
def Level.closed : Level := ⟨false, 0, 0, 0, false, 0, false, []⟩
/-- The loop sequencer at placement: every level closed, depth 0 (R150). -/
def Loops.reset : Loops := ⟨Vector.replicate 6 Level.closed, 0⟩
/-- A transfer description with nothing in it. -/
def Xfer.empty : Xfer := ⟨0, 0, 0, 0, 0, 0, 0, 0, [], false, 0, 0, 0, 0, none, 0, 0, none, none⟩
/-- A FREE completion slot with sequence 0 (R105). -/
def Slot.free : Slot := ⟨false, 0, .cgo, 0, 0, 0, none, 0, false, none, false, false, false, Xfer.empty⟩
/-- An invalid channel entry (R109). -/
def Chan.invalid : Chan := ⟨false, false, false, 0, 0, 0, 0, 0, 0, 0, 0, 0, 0, []⟩
/-- A weight buffer at reset: zeros, kind VALUE (R238). -/
def WBuf.reset : WBuf := ⟨[], [], false, false⟩
/-- No bundle in progress (log 8). -/
def Iss.none : Iss := ⟨.issued, .none, .none, .none, false, 0, 0, false⟩

/-- Thread control of a tile with no thread. -/
def Thread.reset : Thread :=
  ⟨.none, 0, 0, none, none, 0, none, false, 0, [], false, 0, 0, .none, none, none, none, false, false, false, none⟩
/-- Registers and queues at placement: every register 0, queues empty (R140). -/
def Regs.reset : Regs :=
  ⟨Vector.replicate 384 0, Vector.replicate 64 0, Vector.replicate 16 0, Vector.replicate 16 0, [], [], 0, [], []⟩
/-- Control registers with the reset values of R145, R144, R332 (launch-written ones 0: log 7). -/
def Csr.reset : Csr where
  fmt := 0x022#11
  fmtPend := none
  chk := false
  isapin := 0
  eagerlim := 0x1000#15
  hampbase := 0
  hampsize := 0
  swapbase := 0
  ulivec := 0
  cbrto := 0x00100000#32
  rowprog := 0
  cause := 0
  epc := 0
  tval := 0
  xbase := 0
  gm := Vector.replicate 8 0
  cbseq := Vector.replicate 8 0
  latch := Vector.replicate 8 0
/-- The message engine at placement: every table empty. -/
def MsgEng.reset : MsgEng := ⟨[], [], [], Vector.replicate 64 Chan.invalid, [], [], [], [], false, [], [], none, [], []⟩
/-- The message engine of a tile whose thread is gone: the suspended-group filter (R376), the envelopes that have not had their
turn and the replies still to be discarded stay. -/
def MsgEng.cleared (m : MsgEng) : MsgEng :=
  { MsgEng.reset with filter := m.filter, inbox := m.inbox, tookAt := m.tookAt, orphans := m.orphans }
/-- The matrix engine at reset (R143, R238). -/
def MatEng.reset : MatEng := ⟨[], Vector.replicate 2 WBuf.reset, [], [], []⟩

/-- A tile right after reset: no thread, scratchpad reading 0 (R117), every register at its reset value. -/
def Tile.reset : Tile where
  thr := Thread.reset
  regs := Regs.reset
  csr := Csr.reset
  loops := Loops.reset
  spec := none
  imem := []
  imemBad := []
  spm := []
  spmBad := []
  bad := []
  swap := ⟨[], [], []⟩
  cpl := Vector.replicate 64 Slot.free
  copy := ⟨Vector.replicate 4 0, []⟩
  msg := MsgEng.reset
  mat := MatEng.reset
  iss := Iss.none
  frozen := []

/-- A moon at reset (R49, R58, R59). -/
def Moon.reset : Moon := ⟨[], [], [], 0, [], 0, 0, false, false, [], [], none⟩
/-- An ERT entry at reset: every field 0 (R26). -/
def ErtEnt.reset : ErtEnt := ⟨0, false, 0, 0, 0, 0, 0, 0, 0, 0, 0, 0, Vector.replicate 4 none⟩
/-- A pool at reset (R29). -/
def Pool.reset : Pool := ⟨0, Vector.replicate 16 (0, 0), 0⟩
/-- The ERT at reset. -/
def Ert.reset : Ert :=
  ⟨[], 0, Vector.replicate 4 Pool.reset, [], Vector.replicate 8 none, Vector.replicate 4 [], Vector.replicate 4 [],
    Vector.replicate 4 [], Vector.replicate 4 [], Vector.replicate 4 ⟨0, 0, 0, 0, 0⟩⟩
/-- A scale-up port before link-up: down (R71). -/
def Port.reset : Port :=
  ⟨false, false, false, 0, 0, 0, false, false, [], 0, 0, Vector.replicate 3 0, 0, Vector.replicate 3 [], [], 0, 0⟩
/-- `e2ectl` at its reset value: timeout 0x0400, 7 tries (R73). -/
def E2e.reset : E2e := ⟨0x00070400#32, 0, 0⟩
/-- The fabric at reset. -/
def Net.reset : Net :=
  ⟨[], Vector.replicate 18 Port.reset, [], [], Vector.replicate 4 0, [], [], [], [], [], [], Vector.replicate 8 []⟩
/-- Reductions at reset: `rsto` 0x00100000 (R82). -/
def Red.reset : Red := ⟨0x00100000#32, 0, [], [], [], [], [], [], [], []⟩
/-- The schedulers at reset. -/
def Sched.reset : Sched :=
  ⟨Vector.replicate 5 [], [], [], 0, Vector.replicate 4 0, [], [], Vector.replicate 4 ⟨none, none, [], []⟩⟩
/-- A dispatch queue at reset: unbound, empty. -/
def DispQ.reset : DispQ := ⟨none, none, 0, [], [], [], [], [], 0, 0, 0, 0⟩
/-- A host queue pair at reset (R380). -/
def Pair.reset : Pair := ⟨0, 0, 0, false, 0, 0, 0, false⟩
/-- The host side at reset. -/
def HostSt.reset : HostSt := ⟨Vector.replicate 64 Pair.reset, 63, [], [], [], [], 0, 0, [], []⟩
/-- The management core at reset: `pwrctl` limit 3600, swmax 48 (R391). -/
def Mgmt.reset : Mgmt where
  pkg := 0
  pkgSet := none
  bootst := 0
  failrep := 0
  pwrctl := 0x00030E10#32
  overs := 0
  swallowed := 0
  trip := none
  ctrs := []
  temp := 0
  watts := 0
  algo := false
  transcript := []
  lastSigned := none
  replies := []
  readback := []
  retrainAsks := []
  boot := none

/-- The module right after reset: nothing placed, every engine idle, the management core before its first boot
stage (R386). -/
def State.reset : State where
  now := 0
  wclk := 0
  delays := []
  freeCtr := 0
  agenda := []
  turn := []
  cur := 0
  tiles := []
  moons := []
  hbm := []
  hbmBad := []
  far := []
  farBad := []
  jobs := []
  nextJob := 0
  ert := Ert.reset
  net := Net.reset
  red := Red.reset
  sched := Sched.reset
  disp := Vector.replicate 4 (Vector.replicate 8 DispQ.reset)
  rep := Vector.replicate 4 ⟨[], [], []⟩
  host := HostSt.reset
  mgmt := Mgmt.reset
  frozen := []
  inputs := []

end Sys2Proof.Machine
end

