-- ==== Sys2Proof/Machine/Ops.lean ====
section
/-!
DEFINITION. The named operations on the state that every meaning shares: memories, tiles, the agenda, reports, the
scratchpad with its swap region, register files with writes in flight, taking a trap and returning from one.
-/

namespace Sys2Proof.Machine

/-! ### Fields of words -/

/-- Bits [lo + len - 1 : lo] of a number. -/
def fld (x lo len : Nat) : Nat := x / 2 ^ lo % 2 ^ len

/-- The bytes of a number, little-endian (R2). -/
def bytesOf (x : Nat) : Nat → List Byte
  | 0 => []
  | n + 1 => BitVec.ofNat 8 (x % 256) :: bytesOf (x / 256) n

/-- The number that little-endian bytes hold (R2). -/
def ofBytes : List Byte → Nat
  | [] => 0
  | b :: r => b.toNat + 256 * ofBytes r

/-! ### Memories -/

/-- The byte at an address; an unlisted address reads 0. -/
def Mem.get : Mem → Nat → Byte
  | [], _ => 0
  | (x, y) :: r, a => if a = x then y else if a < x then 0 else Mem.get r a

/-- The memory with one byte written, in canonical form. -/
def Mem.set : Mem → Nat → Byte → Mem
  | [], a, b => if b = 0 then [] else [(a, b)]
  | (x, y) :: r, a, b =>
    if a < x then (if b = 0 then (x, y) :: r else (a, b) :: (x, y) :: r)
    else if a = x then (if b = 0 then r else (a, b) :: r)
    else (x, y) :: Mem.set r a b

/-- Addresses strictly rising from `lo`, and no byte equal to 0. -/
def Mem.wfFrom : Nat → Mem → Bool
  | _, [] => true
  | lo, (x, y) :: r => decide (lo ≤ x) && y != 0 && Mem.wfFrom (x + 1) r

/-- The canonical form of a memory. -/
def Mem.wf (m : Mem) : Bool := Mem.wfFrom 0 m

/-- `n` bytes from an address. -/
def Mem.read (m : Mem) (a : Nat) : Nat → List Byte
  | 0 => []
  | n + 1 => m.get a :: Mem.read m (a + 1) n

/-- The little-endian number of `n` bytes from an address. -/
def Mem.readNat (m : Mem) (a n : Nat) : Nat := ofBytes (m.read a n)

/-- The memory with bytes written from an address up. -/
def Mem.write (m : Mem) (a : Nat) : List Byte → Mem
  | [] => m
  | b :: r => Mem.write (m.set a b) (a + 1) r

/-! ### Stores by key -/

/-- The entry of a key. -/
def Assoc.find {α : Type} : Assoc α → Nat → Option α
  | [], _ => none
  | (k, v) :: r, a => if a = k then some v else if a < k then none else Assoc.find r a

/-- The store with a key's entry replaced, keys rising. -/
def Assoc.put {α : Type} : Assoc α → Nat → α → Assoc α
  | [], a, v => [(a, v)]
  | (k, w) :: r, a, v =>
    if a < k then (a, v) :: (k, w) :: r else if a = k then (a, v) :: r else (k, w) :: Assoc.put r a v

/-- The store without a key's entry. -/
def Assoc.del {α : Type} : Assoc α → Nat → Assoc α
  | [], _ => []
  | (k, w) :: r, a => if a = k then r else if a < k then (k, w) :: r else (k, w) :: Assoc.del r a

/-- The entries of keys 0 to n - 1 in order, as an array. -/
def Assoc.dense {α : Type} (l : Assoc α) (lo n : Nat) (d : α) : Array α :=
  l.foldl (fun a p => if lo ≤ p.1 ∧ p.1 < lo + n then a.setIfInBounds (p.1 - lo) p.2 else a) (Array.replicate n d)

/-- The store with the entries from key `lo` up replaced by a list of values; those equal to the default are not
listed. -/
def Assoc.setRange {α : Type} [BEq α] (l : Assoc α) (lo : Nat) (vs : List α) (d : α) : Assoc α :=
  (l.filter fun p => p.1 < lo) ++ ((vs.zipIdx lo).filterMap fun p => if p.1 == d then none else some (p.2, p.1)) ++
    l.filter fun p => lo + vs.length ≤ p.1

/-! ### Parts of the module -/

/-- The tile with a key (die * 1024 + tile index). -/
def State.tile (s : State) (k : Nat) : Tile := (s.tiles.find k).getD Tile.reset

/-- The state with a tile replaced. -/
def State.setTile (s : State) (k : Nat) (t : Tile) : State := { s with tiles := s.tiles.put k t }

/-- The state with a tile changed. -/
def State.modTile (s : State) (k : Nat) (f : Tile → Tile) : State := s.setTile k (f (s.tile k))

/-- The tile that the current step acts on. -/
def State.t (s : State) : Tile := s.tile s.cur

/-- The state with the current tile changed. -/
def State.modT (s : State) (f : Tile → Tile) : State := s.modTile s.cur f

/-- The moon with a key (die * 16 + moon index). -/
def State.moon (s : State) (k : Nat) : Moon := (s.moons.find k).getD Moon.reset

def State.modMoon (s : State) (k : Nat) (f : Moon → Moon) : State :=
  { s with moons := s.moons.put k (f (s.moon k)) }

/-- The rank of a key of this module (R15). -/
def State.rankOf (s : State) (k : Nat) : Rank := BitVec.ofNat 32 (s.mgmt.pkg.toNat * 4096 + k)

/-- The key of a rank: its die and tile fields (R15). -/
def keyOf (r : Rank) : Nat := r.toNat % 4096

/-- The package of a rank (R15). -/
def pkgOf (r : Rank) : Nat := r.toNat / 4096

/-- The die of a key. -/
def dieOf (k : Nat) : Fin 4 := Fin.ofNat 4 (k / 1024)

/-- Whether a rank lies in this module. -/
def State.isLocal (s : State) (r : Rank) : Bool := pkgOf r == s.mgmt.pkg.toNat

/-- Whether an entry of a structure is frozen by an uncorrectable error (R372). -/
def State.isFrozen (s : State) (structure_ index : Nat) : Bool := s.frozen.contains (structure_, index)

/-- A 32-bit counter that saturates. -/
def sat32 (x : W32) : W32 := if x = BitVec.allOnes 32 then x else x + 1

/-- Tile indices of a supervisor, the moons, the far tiles, the dispatcher and the host (R16). -/
def isSupervisor (k : Nat) : Bool := k % 1024 == 306
def isCompute (k : Nat) : Bool := decide (k % 1024 < 288)
def isMoonKey (k : Nat) : Bool := decide (288 ≤ k % 1024 ∧ k % 1024 < 304)
def isFarKey (k : Nat) : Bool := k % 1024 == 304 || k % 1024 == 305
def isDispatcher (k : Nat) : Bool := k % 1024 == 307
def isHostKey (k : Nat) : Bool := k == 1023

/-- The moon key of a moon's rank key. -/
def moonKeyOf (k : Nat) : Nat := k / 1024 * 16 + (k % 1024 - 288)

/-- The rank key of a moon. -/
def rankKeyOfMoon (m : Nat) : Nat := m / 16 * 1024 + 288 + m % 16

/-! ### Time -/

/-- The order among events of one cycle that R39, R362 and R384 give: closes with their lookups, then page-in completions and
releases, then slot choice, then pushes; a host's write of a counter after its increment; the rest as they were scheduled. -/
def evRank : Instr → Nat
  | .roundClose d q => 1 + 8 * d.val + q.val
  | .pageinComplete _ | .pageinFailed _ _ | .waitqRelease => 40
  | .pageinSlotChoice | .pageinRetry _ => 41
  | .recqRecordsEnter _ _ => 42
  | .hostDctr => 43
  | _ => 0

/-- Whether an event comes before another on the agenda. -/
def Timed.before (e x : Timed) : Bool := decide (e.due < x.due) || (e.due == x.due && decide (evRank e.ev < evRank x.ev))

/-- The agenda with an event inserted after every event that does not come later. -/
def insertTimed (e : Timed) : List Timed → List Timed
  | [] => [e]
  | x :: r => if e.before x then e :: x :: r else x :: insertTimed e r

/-- The state with an event put on the agenda. -/
def State.schedule (s : State) (due unit : Nat) (ev : Instr) : State :=
  { s with agenda := insertTimed ⟨due, unit, ev⟩ s.agenda }

/-- The next extra delay that contention adds, and the state without it (log 4). -/
def State.delay (s : State) : Nat × State :=
  match s.delays with
  | [] => (0, s)
  | d :: r => (d, { s with delays := r })

/-- An event after at least `lat` cycles: the extra delay comes from `delays`. -/
def State.after (s : State) (lat unit : Nat) (ev : Instr) : State :=
  let d := s.delay
  d.2.schedule (s.now + lat + d.1) unit ev

/-- The cycle counter of a tile's timed domain (R148). -/
def State.cyc (s : State) (t : Tile) : W64 := BitVec.ofNat 64 (s.now - t.thr.domStart)

/-! ### Reports (R366) -/

/-- The code of a trap cause (R363). -/
def causeCode : Cause → Nat
  | .illegal => 0x01 | .slotOver => 0x02 | .staleRead => 0x03 | .scratchRange => 0x04 | .align => 0x05
  | .fmtMismatch => 0x06 | .slotViolation => 0x07 | .cbrTimeout => 0x08 | .eccUncorr => 0x09 | .engineFault => 0x0A
  | .swTrap => 0x0C | .loopDepth => 0x0D | .queueMisuse => 0x0E | .priv => 0x0F | .specLimit => 0x10

/-- A report enters its die's queue, or waits while the queue holds 1024 (R366). -/
def State.report (s : State) (die : Fin 4) (r : Report) : State :=
  let q := s.rep[die]
  let q' : RepQ := if q.q.length < 1024 && q.waiting.isEmpty then { q with q := q.q ++ [r] }
    else { q with waiting := q.waiting ++ [r] }
  let s' := { s with rep := s.rep.set die q' }
  if q'.waiting.isEmpty then s' else s'.schedule (s.now + 1) die.val .reportEnqueue

/-- Whether the current thread is speculative (R334). -/
def Tile.isSpec (t : Tile) : Bool :=
  match t.spec with
  | some sp => !sp.wait
  | none => false

/-- A report of an event code, which has no epc (R367). Its flags are those of the reporter's thread, where it has one. -/
def State.reportEvent (s : State) (die : Fin 4) (rank : Rank) (code : Nat) (detail : Nat) : State :=
  let t := s.tile (keyOf rank)
  let own := s.isLocal rank && isCompute (keyOf rank)
  s.report die ⟨rank, BitVec.ofNat 8 code, own && t.thr.inHandler, own && t.isSpec, 0, BitVec.ofNat 64 detail,
    BitVec.ofNat 64 s.wclk⟩

/-- Whether a reporter's report waits for room in a die's queue (R366). -/
def State.reportWaits (s : State) (die : Fin 4) (rank : Rank) : Bool := s.rep[die].waiting.any fun r => r.rank == rank

/-- Whether a die's queue takes a report now. -/
def State.reportRoom (s : State) (die : Fin 4) : Bool := decide (s.rep[die].q.length < 1024) && s.rep[die].waiting.isEmpty

/-! ### The scratchpad and its swap region (R116-R126) -/

/-- The size of the scratchpad. -/
def spmSize : Nat := 0x100000

/-- Whether a range leaves the scratchpad (R116). A zero-length range is tested at its address (R198). -/
def outOfSpm (a n : Int) : Bool := decide (a < 0) || decide (0x100000 < a + max n 1)

/-- Whether a range reaches the hamper data area (R93); a range of no bytes reaches nothing (R198). -/
def Tile.hitsHamper (t : Tile) (a n : Int) : Bool :=
  decide (0 < n) && decide (a < (t.csr.hampbase.toNat + t.csr.hampsize.toNat : Nat)) && decide ((t.csr.hampbase.toNat : Int) < a + n)

/-- Whether an address lies in the swap region (R116). -/
def Tile.inSwap (t : Tile) (a : Nat) : Bool :=
  decide (t.csr.swapbase.toNat ≤ a) && decide (a < t.csr.swapbase.toNat + 0x10000)

/-- Whether a range lies in the swap region. -/
def Tile.rangeInSwap (t : Tile) (a n : Nat) : Bool :=
  n == 0 || (decide (t.csr.swapbase.toNat ≤ a) && decide (a + n ≤ t.csr.swapbase.toNat + 0x10000))

/-- The word number of an address within the swap region. -/
def Tile.swapWord (t : Tile) (a : Nat) : Nat := (a - t.csr.swapbase.toNat) / 16

/-- Whether an access reads or writes the second half: the live half, or the other half for a word written
speculatively (R122, R123). -/
def Tile.secondHalf (t : Tile) (spec : Bool) (a : Nat) : Bool :=
  let w := t.swapWord a
  t.swap.live.contains w != (spec && t.swap.spec.contains w)

/-- One scratchpad byte, as an ordinary access or an access issued while speculative reads it (R122, R123). -/
def Tile.spmByte (t : Tile) (spec : Bool) (a : Nat) : Byte :=
  if t.inSwap a && t.secondHalf spec a then t.swap.half.get (a - t.csr.swapbase.toNat) else t.spm.get a

/-- `n` scratchpad bytes. -/
def Tile.spmRead (t : Tile) (spec : Bool) (a : Nat) : Nat → List Byte
  | 0 => []
  | n + 1 => t.spmByte spec a :: Tile.spmRead t spec (a + 1) n

/-- The little-endian number of `n` scratchpad bytes. -/
def Tile.spmNat (t : Tile) (spec : Bool) (a n : Nat) : Nat := ofBytes (t.spmRead spec a n)

/-- One byte written to the half that an access addresses. -/
def Tile.putByte (t : Tile) (second : Bool) (a : Nat) (b : Byte) : Tile :=
  if second then { t with swap := { t.swap with half := t.swap.half.set (a - t.csr.swapbase.toNat) b } }
  else { t with spm := t.spm.set a b }

/-- The word that backs the word at an address for an access, as `spmBad` names it: its address, plus 0x100000 in the second
half of the swap region (R122). -/
def Tile.backing (t : Tile) (spec : Bool) (w : Nat) : Nat :=
  if t.inSwap w && t.secondHalf spec w then 0x100000 + w else w

/-- The errors of the words, with the one at `w` set or gone. -/
def setBad (l : List Nat) (w : Nat) (bad : Bool) : List Nat :=
  if l.contains w == bad then l else if bad then w :: l else l.filter fun x => x != w

/-- Before the first speculative write to a word, the other half takes the word's committed bytes, and the error that the word
may hold (R118), and its spec bit is set (R123). -/
def Tile.specOpen (t : Tile) (a : Nat) : Tile :=
  let w := t.swapWord a
  if t.swap.spec.contains w then t
  else
    let base := t.csr.swapbase.toNat + 16 * w
    let second := !t.swap.live.contains w
    let t' := (List.range 16).foldl (fun u i => u.putByte second (base + i) (t.spmByte false (base + i))) t
    { t' with
      swap := { t'.swap with spec := w :: t'.swap.spec }
      spmBad := setBad t.spmBad (base + if second then 0x100000 else 0) (t.spmBad.contains (t.backing false base)) }

/-- One scratchpad byte written by an ordinary or a speculative access (R122, R123). -/
def Tile.spmPut (t : Tile) (spec : Bool) (a : Nat) (b : Byte) : Tile :=
  if t.inSwap a then
    let t := if spec then t.specOpen a else t
    t.putByte (t.secondHalf spec a) a b
  else { t with spm := t.spm.set a b }

/-- Bytes written to the scratchpad from an address up. A word written whole loses its uncorrectable error. -/
def Tile.spmPutAll (t : Tile) (spec : Bool) (a : Nat) : List Byte → Tile
  | [] => t
  | b :: r => Tile.spmPutAll (t.spmPut spec a b) spec (a + 1) r

/-- The lowest word of a range that an access finds with an uncorrectable error (R118). -/
def Tile.badWord (t : Tile) (a n : Nat) (spec : Bool := t.isSpec) : Option Nat :=
  ((t.spmBad.map fun w => w % 0x100000).filter fun w =>
      decide (a / 16 * 16 ≤ w) && decide (w < a + n) && t.spmBad.contains (t.backing spec w)).foldl
    (fun m w => match m with
      | some x => some (min x w)
      | none => some w) none

/-- Bytes written to the scratchpad; the errors of words that are written whole are gone. -/
def Tile.spmWrite (t : Tile) (spec : Bool) (a : Nat) (bs : List Byte) : Tile :=
  let t' := t.spmPutAll spec a bs
  if t'.spmBad.isEmpty then t'
  else { t' with spmBad := t'.spmBad.filter fun x =>
    let w := x % 0x100000
    !(decide (a ≤ w) && decide (w + 16 ≤ a + bs.length) && t'.backing spec w == x) }

/-- Words of bytes just written that were delivered marked uncorrectable, named by their offsets among the bytes (R372): every word of
the scratchpad that holds a byte of one is in error. -/
def Tile.markBad (t : Tile) (spec : Bool) (a n : Nat) (marks : List Nat) : Tile :=
  (marks.filter fun o => decide (o < n)).foldl (fun t o =>
    let lo := (a + o) / 16 * 16
    let hi := (a + min (o + 15) (n - 1)) / 16 * 16
    { t with spmBad := setBad (setBad t.spmBad (t.backing spec lo) true) (t.backing spec hi) true }) t

/-! ### Register writes in flight (R181-R186) -/

/-- The bits that a landing write leaves in its destination. -/
def mergeBits (old new keep : W512) : W512 := (old &&& keep) ||| (new &&& ~~~keep)

/-- The code by which R372 names a register's error. -/
def Dest.badCode : Dest → Nat
  | .v n => 0x200000 + n.val
  | .s n => 0x200000 + 384 + n.val
  | .m n => 0x200000 + 464 + n.val
  | .q1 => 0x200000 + 449

/-- A register that is written whole loses its uncorrectable error (R372). -/
def Tile.healReg (t : Tile) (w : RegWrite) : Tile :=
  if t.bad.isEmpty || w.keep != 0 || w.dst == .q1 then t else { t with bad := t.bad.filter fun x => x != Dest.badCode w.dst }

/-- One register write lands. A write of a bundle that issued before speculation began lands in the checkpoint too,
and in the copy of a vector register (R334). -/
def Tile.land (t : Tile) (w : RegWrite) : Tile :=
  let t := t.healReg w
  let t := match w.dst with
    | .v n => { t with regs := { t.regs with v := t.regs.v.set n (mergeBits t.regs.v[n] w.val w.keep) } }
    | .s n => { t with regs := { t.regs with s := t.regs.s.set n (w.val.setWidth 64) } }
    | .m n => { t with regs := { t.regs with m := t.regs.m.set n (w.val.setWidth 64) } }
    | .q1 => { t with regs := { t.regs with q1 := t.regs.q1 ++ [w.val.setWidth 32] } }
  match t.spec with
  | none => t
  | some sp =>
    if w.spec then t
    else
      let sp := match w.dst with
        | .v n => { sp with vcopies := sp.vcopies.map fun c => if c.1 = n then (c.1, mergeBits c.2 w.val w.keep) else c }
        | .s n => { sp with ckptS := sp.ckptS.set n (w.val.setWidth 64) }
        | .m n => { sp with ckptM := sp.ckptM.set n (w.val.setWidth 64) }
        | .q1 => sp
      { t with spec := some sp }

/-- The writes in flight that are due land in order. -/
def Tile.landDue (t : Tile) (now : Nat) : Tile :=
  let due := t.regs.flight.filter fun w => decide (w.due ≤ now)
  let t := { t with regs := { t.regs with flight := t.regs.flight.filter fun w => !decide (w.due ≤ now) } }
  due.foldl Tile.land t

/-- Writes by rising landing cycle, those of one cycle in issue order. -/
def insertDue (w : RegWrite) : List RegWrite → List RegWrite
  | [] => [w]
  | x :: r => if w.due < x.due then w :: x :: r else x :: insertDue w r

/-- The register write that a scalar load makes. -/
def Load.write (l : Load) : Option RegWrite :=
  match l.dst with
  | .s n => some ⟨l.due, .s n, l.val, 0, l.tag, l.spec⟩
  | _ => none

/-- The landing cycle of a write whose value is still to come: `tctl` MAPSPARE's (R371). -/
def lateDue : Nat := 2 ^ 62

/-- Every write in flight lands (R186), those of scalar loads among them, but one whose value is still to come. -/
def Tile.landAll (t : Tile) : Tile :=
  let ws := (t.regs.loads.filterMap Load.write).foldl (fun l w => insertDue w l) (t.regs.flight.filter fun w => w.due < lateDue)
  ws.foldl Tile.land { t with regs := { t.regs with
    flight := t.regs.flight.filter fun w => lateDue ≤ w.due
    loads := t.regs.loads.filter fun l => l.write.isNone } }

/-- A register write is put in flight: readable from cycle `now + lat` (R181). -/
def State.flyAt (s : State) (due : Nat) (w : RegWrite) : State :=
  (s.modT fun t => { t with regs := { t.regs with flight := insertDue { w with due := due } t.regs.flight } }).schedule
    due s.cur .resultWriteback

/-! ### How an op stops short of issuing -/

/-- An op that does not issue: it traps, or its bundle waits, with the code that `specst.stall` shows for a wait on
speculation (R147). -/
inductive Stop where
  | trap (c : Cause) (tval : W64)
  | stall (code : Nat)
deriving DecidableEq, Repr

/-- A check of an op. -/
def check (b : Bool) (e : Stop) : Except Stop Unit := if b then .ok () else .error e

/-! ### Instruction memory (R171-R173) -/

/-- A code line as a 512-bit number. -/
def Tile.line (t : Tile) (n : Nat) : Nat := t.imem.readNat (64 * n) 64

/-- The head count of a line. -/
def lineCount (line : Nat) : Nat := line / 2 ^ 11 % 32

/-- Whether an address may be the target of a transfer (R173). -/
def Tile.targetOk (t : Tile) (a : Nat) : Bool :=
  let l := t.line (a / 64 % 2048)
  decide (a < 2 ^ 17) && bundleStart (lineOps l (lineCount l) 0 64) (a % 64)

/-! ### Traps (R364, R365) -/

/-- The `cause` register of a trap (R145). -/
def causeWord (c : Cause) (inh : Bool) : BitVec 9 := BitVec.ofNat 9 (causeCode c + if inh then 256 else 0)

/-- A trap FMT_MISMATCH spends the observation that raised it, the first of its transfer (R104). -/
def Tile.spendMismatch (t : Tile) (c : Cause) (tval : W64) : Tile :=
  if c = .fmtMismatch then
    let k := Fin.ofNat 64 tval.toNat
    { t with cpl := t.cpl.set k { t.cpl[k] with nanMis := false } }
  else t

/-- The trap is taken now: `cause`, `epc` and `tval` are written, every write in flight lands, the thread stops, and a
report is sent, which says whether the thread was speculative. A supervisor thread outside its handler enters the handler at
address 0, checked as R173 asks, instead of stopping; inside it, it stops, and the management core reports it (R314, R365,
R366). -/
def State.stopTrapAs (s : State) (k : Nat) (spec : Bool) (c : Cause) (tval : W64) (epc : IAddr) : State :=
  let t := ((s.tile k).landAll).spendMismatch c tval
  let csr := { t.csr with cause := causeWord c t.thr.inHandler, epc := epc, tval := tval }
  let rep : Report :=
    ⟨s.rankOf k, BitVec.ofNat 8 (causeCode c), t.thr.inHandler, spec, epc, tval, BitVec.ofNat 64 s.wclk⟩
  if isSupervisor k && !t.thr.svHandler then
    (s.setTile k { t with
      csr := csr
      thr := { t.thr with
        svHandler := true, pc := 0, badTarget := if t.targetOk 0 then none else some epc, base := s.now, drain := true
        trapped := true, creditSince := none } }).report (dieOf k) rep
  else
    let s := s.setTile k { t with
      csr := csr
      thr := { t.thr with st := .stopped, tbar := none, tbarGo := none, drain := true, trapped := true, creditSince := none } }
    if isSupervisor k then
      { s with mgmt := { s.mgmt with replies := s.mgmt.replies ++ [.supervisorTrap (s.rankOf k) csr.cause tval] } }
    else s.report (dieOf k) rep

/-- The trap of a thread that is not held back by speculation. -/
def State.stopTrap (s : State) (k : Nat) (c : Cause) (tval : W64) (epc : IAddr) : State :=
  s.stopTrapAs k (s.tile k).isSpec c tval epc

/-- A trap of the thread of tile `k`, with the bundle that `epc` will name: held while the thread is speculative (R336),
taken otherwise (R365). -/
def State.takeTrapAt (s : State) (k : Nat) (c : Cause) (tval : W64) (epc : IAddr) : State :=
  let t := s.tile k
  match t.spec with
  | some sp =>
    if sp.wait then s.stopTrap k c tval epc
    else s.setTile k { t with spec := some { sp with
      trap := some (⟨c, tval, true⟩, some epc)
      stall := if sp.stall = 0 then 4 else sp.stall } }
  | none => s.stopTrap k c tval epc

/-- A trap at the bundle that the thread stands at. -/
def State.takeTrap (s : State) (k : Nat) (c : Cause) (tval : W64) : State := s.takeTrapAt k c tval (s.tile k).thr.pc

/-- A trap raised by an operation issued earlier: it waits for the next bundle boundary (R364), and is held while the
thread is speculative unless the operation itself issued then (R336). -/
def State.deferTrap (s : State) (k : Nat) (c : Cause) (tval : W64) (spec : Bool) : State :=
  s.modTile k fun t => { t with
    thr := { t.thr with deferred := t.thr.deferred ++ [⟨c, tval, spec⟩] }
    spec := t.spec.map fun sp => if sp.wait || sp.stall != 0 then sp else { sp with stall := 4 } }

/-- Return from the supervisor's handler: the thread continues at a target (R314). -/
def State.leaveHandler (s : State) (k : Nat) (pc : IAddr) (bad : Option IAddr) : State :=
  s.modTile k fun t =>
    { t with thr := { t.thr with svHandler := false, pc := pc, badTarget := bad, base := s.now + 2 } }

/-! ### Ending an op -/

/-- The verdict on the op just tried. -/
def State.setVerdict (s : State) (v : Verdict) : State := s.modT fun t => { t with iss := { t.iss with verdict := v } }

/-- An op that waits: nothing of it happens, and a speculative thread shows the first cause met (R335). Code 6 is a wait for a
channel's credit, which is remembered (R111). -/
def State.stalled (s : State) (code : Nat) : State :=
  (s.modT fun t =>
    if code = 6 then { t with thr := { t.thr with creditSince := t.thr.creditSince.orElse fun _ => some s.now } }
    else match t.spec with
    | some sp => if code == 0 || sp.stall != 0 then t else { t with spec := some { sp with stall := code } }
    | none => t).setVerdict (.waits code)

/-- The next state of an op: its effect, the trap it takes, or the state unchanged while it waits. -/
def finish (s : State) (r : Except Stop State) : Host.Outcome State Fault Refusal :=
  match r with
  | .ok s' => .next (s'.setVerdict .issued)
  | .error (.trap c v) => .next ((s.takeTrap s.cur c v).setVerdict (.trapped c v))
  | .error (.stall k) => .next (s.stalled k)

/-! ### Flow to a target (R173, R283) -/

/-- Flow is taken to a target at cycle `now`: the target bundle issues no earlier than `now + 3` (R283). A target that
breaks R173 is remembered with the transferring bundle, which `epc` will name. -/
def State.transfer (s : State) (a : Nat) : State :=
  s.modT fun t =>
    let ok := t.targetOk a
    { t with
      thr := { t.thr with
        pc := if ok then BitVec.ofNat 26 a else t.thr.pc
        badTarget := if ok then none else some t.thr.pc
        base := s.now + 2 }
      iss := { t.iss with moved := true } }

end Sys2Proof.Machine
end

