-- ==== Sys2Proof/Machine/Operands.lean ====
section
/-!
DEFINITION. Operand forms: what each register code reads and writes (R138-R142), the pops of queues, lanes and masks
(R253-R255), scalar immediates (R303), buffer words (R197) and the channel ends behind q2 and q3 (R113, R114).
-/

namespace Sys2Proof.Machine

/-! ### Lanes (R253) -/

/-- The lanes of a register at a width, lane 0 first. -/
def lanesOf (w : Nat) (x : W512) : List Nat := (List.range (512 / w)).map fun i => x.toNat / 2 ^ (w * i) % 2 ^ w

/-- Lanes packed at a width, lane 0 lowest. -/
def packLanes (w : Nat) : List Nat → Nat
  | [] => 0
  | x :: r => x % 2 ^ w + 2 ^ w * packLanes w r

/-- A register with the given lanes. -/
def ofLanes (w : Nat) (l : List Nat) : W512 := BitVec.ofNat 512 (packLanes w l)

/-- A value in every lane. -/
def splat (w : Nat) (x : Nat) : W512 := ofLanes w (List.replicate (512 / w) x)

/-! ### Masks (R139, R255) -/

/-- A mask register; m0 reads as all ones. -/
def Tile.maskReg (t : Tile) (n : Fin 16) : W64 := if n = 0 then BitVec.allOnes 64 else t.regs.m[n]

/-- The enable bits of an op: m[mask], inverted if mneg. -/
def Tile.enables (t : Tile) (a : Attr) : W64 :=
  let m := t.maskReg (Fin.ofNat 16 a.mask.toNat)
  if a.mneg then ~~~m else m

/-- The bits of a register that lie in disabled lanes of a width. -/
def disabledBits (w : Nat) (en : W64) : W512 :=
  ofLanes w ((List.range (512 / w)).map fun i => if en.getLsbD i then 0 else 2 ^ w - 1)

/-- The bits of a destination that a merging op leaves alone (R255). -/
def Tile.keepBits (t : Tile) (a : Attr) (w : Nat) : W512 := disabledBits w (t.enables a)

/-! ### Queues (R141, R142, R114) -/

/-- A queue misuse names the queue's register code. -/
def misuse (q : Nat) : Stop := .trap .queueMisuse (BitVec.ofNat 64 (448 + q))

/-- The entry of the channel bound to q2 (receive end) or q3 (send end). -/
def Tile.qbEntry (t : Tile) (recvEnd : Bool) : Option (Fin 64) :=
  (List.finRange 64).find? fun k => t.msg.chan[k].v && t.msg.chan[k].qb && t.msg.chan[k].recvEnd == recvEnd

/-- Loads outstanding or held in q0, the entries that speculation holds included (R142, R208, R334). -/
def Tile.loadCount (t : Tile) : Nat :=
  t.regs.loads.length + t.regs.q0.length + (t.spec.map fun sp => sp.pop0.length).getD 0

/-- The current bundle's pop of q0. -/
def State.popQ0 (s : State) : Except Stop State :=
  let t := s.t
  if t.iss.q0.isSome then .ok s
  else if t.thr.inHandler then .error (misuse 0)
  else
    match t.regs.q0 with
    | e :: r =>
      .ok (s.modT fun t => { t with
        regs := { t.regs with q0 := r }
        iss := { t.iss with q0 := some e.val }
        spec := t.spec.map fun sp => if sp.wait then sp else { sp with pop0 := sp.pop0 ++ [e] } })
    | [] => if t.regs.loads.isEmpty then .error (misuse 0) else .error (.stall 0)

/-- The current bundle's pop of q1; an empty q1 stalls in a launch bound to ragged work. -/
def State.popQ1 (s : State) : Except Stop State :=
  let t := s.t
  if t.iss.q1.isSome then .ok s
  else if t.thr.inHandler then .error (misuse 1)
  else
    match t.regs.q1 with
    | e :: r =>
      .ok (s.modT fun t => { t with
        regs := { t.regs with q1 := r, popped := t.regs.popped + 1 }
        iss := { t.iss with q1 := some e }
        spec := t.spec.map fun sp => if sp.wait then sp else { sp with pop1 := sp.pop1 ++ [e] } })
    | [] => if t.thr.queue.isSome then .error (.stall 0) else .error (misuse 1)

/-- A packet between the two ends of a channel, with the entry number at the far end in aux (R67). -/
def chanPacket (src dst : Rank) (kind cls entry : Nat) (data : List Byte) : Packet :=
  ⟨dst, src, BitVec.ofNat 6 kind, BitVec.ofNat 2 cls, false, 0, 0, 0, 0, 0, BitVec.ofNat 8 entry, 0, data, []⟩

/-- The rank of a channel's peer: a tile of the same die. -/
def State.peerRank (s : State) (c : Chan) : Rank := s.rankOf (s.cur / 1024 * 1024 + c.peer)

/-- One credit goes back to the sender, `lat` cycles from now (R113). -/
def State.creditBack (s : State) (c : Chan) : State :=
  s.schedule (s.now + c.lat) (keyOf (s.peerRank c))
    (.chncredit (chanPacket (s.rankOf s.cur) (s.peerRank c) 0x29 2 c.pch.val []))

/-- The pop of a receive end's oldest element, with its credit. -/
def State.popChan (s : State) (k : Fin 64) : State :=
  let c := s.t.msg.chan[k]
  (s.modT fun t => { t with msg := { t.msg with chan := t.msg.chan.set k { c with buf := c.buf.tail } } }).creditBack c

/-- The current bundle's pop of q2 (R114). -/
def State.popQ2 (s : State) : Except Stop State :=
  let t := s.t
  if t.iss.q2.isSome then .ok s
  else
    match t.qbEntry true with
    | none => .error (misuse 2)
    | some k =>
      if t.thr.inHandler then .error (misuse 2)
      else if t.isSpec then .error (.stall 4)
      else
        match t.msg.chan[k].buf with
        | [] => .error (.stall 0)
        | e :: _ => .ok ((s.popChan k).modT fun t => { t with
            iss := { t.iss with q2 := some (BitVec.ofNat 512 (ofBytes e)) } })

/-- Pops that a scalar source makes. -/
def State.popS (s : State) (r : Reg) : Except Stop State :=
  match r with
  | .q n =>
    match n.val with
    | 0 => s.popQ0
    | 1 => s.popQ1
    | k => .error (misuse k)
  | _ => .ok s

/-- Pops that a vector source makes. -/
def State.popV (s : State) (r : Reg) : Except Stop State :=
  match r with
  | .q n =>
    match n.val with
    | 0 => s.popQ0
    | 2 => s.popQ2
    | k => .error (misuse k)
  | _ => .ok s

/-- Pops of a B operand. -/
def State.popO (s : State) (b : Opd) : Except Stop State :=
  match b with
  | .reg r => s.popS r
  | .imm _ => .ok s

/-! ### Reading operands -/

/-- A scalar source: registers as they stand at issue, queues by the entry the bundle popped (R138, R142). -/
def State.rdS (s : State) (r : Reg) : W64 :=
  match r with
  | .s n => s.t.regs.s[n]
  | .q n => if n = 1 then (s.t.iss.q1.getD 0).setWidth 64 else (s.t.iss.q0.getD 0).setWidth 64
  | .ownrank => (s.rankOf s.cur).setWidth 64
  | .cyccount => s.cyc s.t
  | _ => 0

/-- A B operand (R303). -/
def State.rdO (s : State) (b : Opd) : W64 :=
  match b with
  | .reg r => s.rdS r
  | .imm i => i.signExtend 64

/-- A vector source at a lane width; a special source is broadcast, and `lane` counts (R138, R254). -/
def State.rdV (s : State) (w : Nat) (r : Reg) : W512 :=
  match r with
  | .v n => s.t.regs.v[n]
  | .q n => if n = 2 then s.t.iss.q2.getD 0 else s.t.iss.q0.getD 0
  | .lane => ofLanes w (List.range (512 / w))
  | .ownrank => splat w (s.rankOf s.cur).toNat
  | .cyccount => splat w (s.cyc s.t).toNat
  | _ => 0

/-- A mask source. -/
def State.rdM (s : State) (r : Reg) : W64 :=
  match r with
  | .m n => s.t.maskReg n
  | _ => 0

/-! ### Writing results -/

/-- A write of the current bundle, in flight for `lat` cycles. -/
def State.fly (s : State) (lat : Nat) (d : Dest) (val keep : W512) (tag : BitVec 4) : State :=
  s.flyAt (s.now + lat) ⟨0, d, val, keep, tag, s.t.isSpec⟩

/-- The entries of q1, the pushes in flight among them. -/
def Tile.q1Count (t : Tile) : Nat := t.regs.q1.length + t.regs.flight.countP fun w => w.dst == .q1

/-- A scalar result (R141, R302): a register, a push to q1, or nothing. A push takes effect when its op's latency has passed, and
finds q1 full at issue if the entries held and in flight fill it. -/
def State.wrS (s : State) (a : Attr) (lat : Nat) (d : Reg) (x : W64) : Except Stop State :=
  match d with
  | .s n => .ok (s.fly lat (.s n) (x.setWidth 512) 0 a.sba)
  | .zero => .ok s
  | .q n =>
    if n = 1 then
      if s.t.isSpec then .error (.stall 4)
      else if 32 ≤ s.t.q1Count then .error (misuse 1)
      else .ok (s.fly lat .q1 (x.setWidth 512) 0 a.sba)
    else .error (misuse n.val)
  | _ => .ok s

/-- A mask result: readable by the next bundle (R181, R280). -/
def State.wrM (s : State) (a : Attr) (d : Reg) (x : W64) : State :=
  match d with
  | .m n => if n = 0 then s else s.fly 1 (.m n) (x.setWidth 512) 0 a.sba
  | _ => s

/-- Whether a channel's window is open at a cycle of its domain (R111). -/
def Chan.isOpen (c : Chan) (cyc : Nat) : Bool :=
  decide (c.w ≤ cyc) && decide (((cyc : Int) - c.w) % c.wper < c.wlen)

/-- How many elements pushed to q3 earlier are injected at or before a cycle. -/
def State.injectsBefore (s : State) (k : Fin 64) (due : Nat) : Nat :=
  s.agenda.countP fun e => e.unit == s.cur && e.ev == Instr.channelInject k && decide (e.due ≤ due)

/-- Whether a send that has waited for credit since a cycle meets the end of its window: open a cycle ago, closed now (R111). -/
def Chan.windowPast (c : Chan) (since : Option Nat) (now cyc : Nat) : Bool :=
  (since.any fun b => decide (b < now)) && !c.isOpen cyc && c.isOpen (cyc - 1)

/-- Whether a channel takes an element at cycle `cyc`: with a credit its window must be open; without, the bundle waits (stall 6),
and traps when the window ends meanwhile (R111, R114). -/
def State.chanReady (s : State) (k : Fin 64) (cyc : Nat) : Except Stop Unit :=
  let c := s.t.msg.chan[k]
  let late : Stop := .trap .slotViolation (BitVec.ofNat 64 k.val)
  if c.credits = 0 then .error (if c.windowPast s.t.thr.creditSince s.now cyc then late else .stall 6)
  else check (c.isOpen cyc) late

/-- A push to q3 by an op of latency `lat`: one element, injected when the result exists (R114). -/
def State.pushQ3 (s : State) (lat : Nat) (x : W512) : Except Stop State :=
  match s.t.qbEntry false with
  | none => .error (misuse 3)
  | some k =>
    let c := s.t.msg.chan[k]
    if s.t.thr.inHandler then .error (misuse 3)
    else if s.t.isSpec then .error (.stall 4)
    else do
      s.chanReady k ((s.cyc s.t).toNat + lat)
      let n := s.injectsBefore k (s.now + lat)
      return ((s.modT fun t => { t with msg := { t.msg with
        chan := t.msg.chan.set k { c with
          credits := c.credits - 1, buf := c.buf.take n ++ bytesOf x.toNat 64 :: c.buf.drop n } } }).schedule
          (s.now + lat) s.cur (.channelInject k))

/-- The copy of a vector register that its first speculative write makes (R334), if a copy is left. -/
def State.specCopy (s : State) (n : Fin 384) : Except Stop State :=
  match s.t.spec with
  | none => .ok s
  | some sp =>
    if sp.wait || sp.vcopies.any (fun c => c.1 == n) then .ok s
    else if 64 ≤ sp.vcopies.length then .error (.stall 1)
    else .ok (s.modT fun t => { t with spec := some { sp with vcopies := sp.vcopies ++ [(n, t.regs.v[n])] } })

/-- A vector result: a register, with the lanes it keeps, a push to q3 with 0 in those lanes, or nothing (R254,
R255). -/
def State.wrV (s : State) (a : Attr) (lat : Nat) (d : Reg) (x keep : W512) : Except Stop State :=
  match d with
  | .v n => (s.specCopy n).map fun s => s.fly lat (.v n) x keep a.sba
  | .zero => .ok s
  | .q n => if n = 3 then s.pushQ3 lat (x &&& ~~~keep) else .error (misuse n.val)
  | _ => .ok s

/-! ### Buffer words and rank-tag words (R197) -/

/-- A buffer word (R197): address, length, and whether its reserved bits are zero. -/
structure BufWord where
  addr : Nat
  len : Nat
  rsvOk : Bool
deriving DecidableEq, Repr

def BufWord.of (x : W64) : BufWord := ⟨fld x.toNat 0 20, fld x.toNat 20 21, fld x.toNat 41 23 == 0⟩

/-- The low and high halves of a rank-tag word. -/
def loHalf (x : W64) : W32 := x.setWidth 32
def hiHalf (x : W64) : W32 := (x >>> 32).setWidth 32

/-- A signed 64-bit value as an integer. -/
def sInt (x : W64) : Int := x.toInt

end Sys2Proof.Machine
end

