-- ==== Sys2Proof/Machine/Flags.lean ====
section
/-!
DEFINITION. Every condition and status the manual computes: compares and classes of lanes (R264, R265), the branch
conditions (R283, R291), completion statuses and chunk bits (R107, R108), and `specst` (R147).
-/

namespace Sys2Proof.Machine

/-! ### Reading lanes by type (R253) -/

/-- The format of a floating-point lane type under an E4M3 reading. -/
def laneFmt (nan : Bool) : Ety → FFmt
  | .f32 => fF32
  | .bf16 => fBf16
  | .e5m2 => fE5m2
  | _ => fE4m3 nan

/-- An integer lane as its type reads it (R261). -/
def laneInt (t : Ety) (x : Nat) : Int := if t.isSigned then signExtend x t.width else (x % 2 ^ t.width : Nat)

/-! ### Compares and classes -/

/-- A condition over an order (R264). -/
def condOf (cc : VCc) (lt eq : Bool) : Bool :=
  match cc with
  | .eq => eq
  | .ne => !eq
  | .lt => lt
  | .le => lt || eq
  | .gt => !(lt || eq)
  | .ge => !lt
  | .un => false

/-- `vcmp` on one lane (R264). -/
def cmpLane (nan : Bool) (cc : VCc) (t : Ety) (a b : Nat) : Bool :=
  if t.isI then condOf cc (decide (laneInt t a < laneInt t b)) (laneInt t a == laneInt t b)
  else
    let x := (laneFmt nan t).toReal a
    let y := (laneFmt nan t).toReal b
    if x.isNan || y.isNan then cc == .ne || cc == .un else condOf cc (Num.lt x y) (Num.eq x y)

/-- Whether a lane is subnormal: finite, non-zero, exponent field 0. -/
def FFmt.subnormal (f : FFmt) (v : Nat) : Bool :=
  let mag := v % 2 ^ (f.width - 1)
  mag != 0 && decide (mag < 2 ^ (f.p - 1))

/-- `vclass` on one lane: `set` is fn[11:4] (R265). -/
def classLane (nan : Bool) (t : Ety) (set : Byte) (v : Nat) : Bool :=
  let f := laneFmt nan t
  let bit := match f.toReal v with
    | .nan => 0
    | .inf s => if s then 1 else 6
    | .fin s m _ => if m = 0 then (if s then 3 else 4) else if s then 2 else 5
  set.getLsbD bit || (set.getLsbD 7 && f.subnormal v)

/-- A mask from the conditions of enabled lanes; disabled lanes and the bits above the lanes are 0. -/
def maskOfLanes (en : W64) (l : List Bool) : W64 :=
  BitVec.ofNat 64 (packLanes 1 (l.zipIdx.map fun p => if p.1 && en.getLsbD p.2 then 1 else 0))

/-! ### Branch conditions -/

def MWid.bits : MWid → Nat
  | .w16 => 16
  | .w32 => 32
  | .w64 => 64

/-- `m[n-1:0]` for a mask width. -/
def maskLow (w : MWid) (m : W64) : Nat := m.toNat % 2 ^ (MWid.bits w)

/-- The condition of `bm` (R283). -/
def bmCond (cc : BmCc) (w : MWid) (m : W64) : Bool :=
  match cc with
  | .any => maskLow w m != 0
  | .all => maskLow w m == 2 ^ (MWid.bits w) - 1
  | .none => maskLow w m == 0

/-- The predicate bit of `cbr` (R291). -/
def State.predBit (s : State) (p : Pred) : Bool :=
  match p with
  | .mask n w => maskLow w (s.t.maskReg n) != 0
  | .scalar r => s.rdS r != 0

/-! ### Completion statuses (R107, R108) -/

/-- The chunk exponent of a length (R107), searched upward from `ce`. -/
def chunkExpFrom (len ce : Nat) : Nat → Nat
  | 0 => ce
  | fuel + 1 => if 512 * 2 ^ ce * 64 < len then chunkExpFrom len (ce + 1) fuel else ce

def chunkExp (len : Nat) : Nat := chunkExpFrom len 0 64

/-- Chunks of a length (R107). -/
def nchunks (len : Nat) : Nat := (len + 512 * 2 ^ chunkExp len - 1) / (512 * 2 ^ chunkExp len)

/-- The chunk bits that are set when the geometry is fixed: those above the chunks (R107). -/
def geomBits (len : Nat) : W64 := BitVec.ofNat 64 (2 ^ 64 - 2 ^ (min 64 (nchunks len)))

/-- Chunk bits of the chunks that [0, n) covers whole, for transfers that fill in ascending order. -/
def prefixBits (len n : Nat) : W64 :=
  let cs := 512 * 2 ^ chunkExp len
  BitVec.ofNat 64 (2 ^ (min 64 (if len ≤ n then nchunks len else n / cs)) - 1)

/-- The 72-bit completion status (R108). -/
def Slot.status (c : Slot) : BitVec 72 :=
  BitVec.ofNat 72 (c.state.toNat + 16 * (min 15 ((c.geom.map chunkExp).getD 0)) + 2 ^ 8 * c.length.toNat +
    2 ^ 40 * c.src.toNat)

/-- Terminal states are 1-7 (R108). -/
def Slot.terminal (c : Slot) : Bool := c.state != 0

/-- A fault detail (R199). -/
def faultDetail (reason offset : Nat) : W32 := BitVec.ofNat 32 (reason % 256 + 256 * (offset % 2 ^ 24))

/-- What `xtst` writes (R226). -/
def xtstWord (c : Slot) (m : W64) : W64 :=
  BitVec.ofNat 64 ((if c.bits &&& m = m then 1 else 0) + (if c.terminal then 2 else 0) + 16 * c.state.toNat)

/-! ### `specst` (R147) -/

/-- The bytes of the held sends. -/
def Spec.bytes (sp : Spec) : Nat := sp.sends.foldl (fun n h => n + h.bytes) 0

/-- `specst`. -/
def Tile.specst (t : Tile) : W64 :=
  match t.spec with
  | none => 0
  | some sp =>
    BitVec.ofNat 64 ((if sp.wait then 0 else 1) + 2 * sp.gm.val + 16 * sp.stall + 2 ^ 8 * sp.vcopies.length +
      2 ^ 15 * sp.sends.length + 2 ^ 20 * sp.bytes)

end Sys2Proof.Machine
end

