-- ==== Sys2Proof/Config.lean ====
section
/-!
DEFINITION. What an implementation fixes and the manual does not (constants without a body: nothing can be
proved of their values), and the free values of the model.
-/

namespace Sys2Proof.Config

/-- The stepping of the silicon (R145, `feat1.step`: reset "Silicon"). -/
opaque stepping : BitVec 4

/-- The router row and column at which a spare tile of a die hangs (R13, R112: no position is given). -/
opaque spareRow : Nat → Nat → Nat
opaque spareCol : Nat → Nat → Nat

/-- A free value: what a training of a scale-up port settles as its view (R71, R367), drawn with `State.freeCtr`. -/
opaque trainView : Nat → BitVec 27
/-- The credits, in flits, that a scale-up port holds for each class when it comes up (R69: only returns are given). -/
opaque portCredits : Nat
/-- A free value: the cycles that a die link takes to retrain after 8 NAKs in a row (R68, R70), drawn with `State.freeCtr`. -/
opaque dieRetrain : Nat → Nat
/-- A free value: whether the Ultra Ethernet Transport's congestion control holds a packet back in a cycle (R76: its algorithm is not
given), drawn with `State.freeCtr`. -/
opaque uetHolds : Nat → Bool
/-- A free value: the Ultra Ethernet port that a sprayed packet takes (R76), drawn with `State.freeCtr`. -/
opaque sprayPort : Nat → Fin 8

/-- A free value: whether the host has left a completion ring full (R383: the device is given no consumer index),
drawn with the counter `State.freeCtr`. -/
opaque ringFull : Nat → Bool
/-- The phase bit of a completion ring's first pass (R383: it alternates; its first value is not given). -/
opaque firstPhase : Bool

/-- A free value: what a weight buffer holds after a `wld` that met an uncorrectable error (R247 "leaves the
buffer's contents undefined"), drawn with the counter `State.freeCtr`. -/
opaque freeValue : Nat → BitVec 64

/-- The code lines that the firmware of an image places in a supervisor's instruction memory (R14, R386: the image's layout is
not given). -/
opaque supervisorCode : List Byte → List Byte
/-- Whether an SPDM NEGOTIATE_ALGORITHMS request offers ECDSA P-384 with SHA-384 (R388). -/
opaque offersAlgorithms : List Byte → Bool

/-- The boot ROM's verdict on the SHA-384 digest that a firmware image carries (R386 stage 2). -/
opaque digestMatches : List Byte → Bool
/-- The boot ROM's verdicts on a firmware image (R386 stage 2): ECDSA P-384 over the image's bytes. -/
opaque ecdsaVerifies : List Byte → Bool
/-- The boot ROM's LMS verdict on a firmware image (R386 stage 2). -/
opaque lmsVerifies : List Byte → Bool
/-- The key hashes of an image match the fuses (R386 stage 2). -/
opaque keyHashMatches : List Byte → Bool
/-- The security version an image carries (R386 stage 2). -/
opaque securityVersion : List Byte → Nat
/-- The fused anti-rollback counter (R386 stage 2). -/
opaque fusedVersion : Nat

/-- SHA-384 of a transcript, as 384 bits (R388). -/
opaque sha384 : List Byte → BitVec 384
/-- The device's ECDSA P-384 signature over a hash (R388). -/
opaque ecdsaSign : BitVec 384 → BitVec 768
/-- The device's LMS signature over a hash (R388, LMSSIG). -/
opaque lmsSign : BitVec 384 → List Byte
/-- The responder's certificate chain in a slot (R388). -/
opaque certChain : Nat → List Byte
/-- The reason code of a failure of stage 5: a configuration record with the package id that is never assigned (R15; R387 lists no
code for it). -/
opaque badPackageReason : Byte
/-- The measurement blocks 0 to 4 (R388: boot ROM version, primary image, backup image, configuration record, fuses), as functions of
the two images and the record. -/
opaque measurement : Nat → List Byte → List Byte → BitVec 20 → List Byte
/-- The bytes an SPDM response of a kind carries beyond what R388 states. -/
opaque spdmBody : Nat → List Byte → List Byte

end Sys2Proof.Config
end

