-- ==== Sys2Proof/Machine/Mesh.lean ====
section
/-!
DEFINITION. The packets of the fabric (R66, R67), their ways over the meshes and the die links (R61, R62, R65, R68), and what
contends for the outputs of the routers (R63, R64).
-/

namespace Sys2Proof.Machine

/-! ### Packet kinds (R67) -/

/-- The class a kind names, for the assigned kinds. -/
def kindCls (k : Nat) : Option Nat :=
  if k ≤ 2 ∨ k = 0x10 then some 0
  else if k = 3 ∨ k = 0x11 then some 1
  else if k ≤ 8 ∨ (0x18 ≤ k ∧ k ≤ 0x1B) ∨ (0x20 ≤ k ∧ k ≤ 0x22) ∨ k = 0x29 then some 2
  else if k = 0x28 then some 3
  else none

/-- A packet with the fields its kind uses. -/
def mkPacket (src dst : Rank) (kind : Nat) (group xid : W16) (aux off : Nat) (data : List Byte) : Packet :=
  ⟨dst, src, BitVec.ofNat 6 kind, BitVec.ofNat 2 ((kindCls kind).getD 0), false, 0, 0, group, xid,
    BitVec.ofNat 24 off, BitVec.ofNat 8 aux, 0, data, []⟩

/-- The marked words of a payload's data, which begins at a word, as offsets in it (R372). -/
def packetBad (p : Packet) (word : Nat) : List Nat :=
  (p.bad.filter fun w => decide (word ≤ w)).map fun w => 16 * (w - word)

/-- The tile index under which a die's combining unit travels (log 11). -/
def unitIx : Nat := 1021

/-- The combining point that a contribution is sent to. -/
def pointOf (p : Packet) : Point := if keyOf p.dst % 1024 = unitIx then .die (dieOf (keyOf p.dst)) else .switch

/-- The step that a packet causes where it is delivered. -/
def pktEvent (p : Packet) : Option Instr :=
  match p.kind.toNat with
  | 0x00 => some (.eager p)
  | 0x01 => some (.rts p)
  | 0x02 => some (.pull p)
  | 0x03 => some (.rdata p)
  | 0x04 => some (.accept p)
  | 0x05 => some (.keephdr p)
  | 0x06 => some (.held p)
  | 0x07 => some (.fin p)
  | 0x08 => some (.refuse p)
  | 0x10 => some (.mreq p)
  | 0x11 => some (.mrsp p)
  | 0x18 => some (.rcontrib (pointOf p) p)
  | 0x19 => some (.rresult p)
  | 0x1A => some (.brpred (pointOf p) p)
  | 0x1B => some (.brresult p)
  | 0x20 => some (.e2eack p)
  | 0x21 => some (.close p)
  | 0x22 => some (.closeack p)
  | 0x28 => some (.chnelem p)
  | 0x29 => some (.chncredit p)
  | _ => none

/-- Steps of a tile's engines, which stop with the tile. -/
def isEngineStep : Instr → Bool
  | .copy | .fill | .transpose | .gather | .scatter | .copyWorksetDone | .hamperCopyDone _ | .refusedResend
  | .channelInject _ => true
  | _ => false

/-- Steps of a tile's other engines. -/
def isTileStep : Instr → Bool
  | .fmtDelayExpire | .matrixPipeOpStart _ | .matrixPipeOpComplete _ => true
  | e => isEngineStep e

/-- Steps of a tile's thread and registers, and its channels' packets. -/
def isThreadStep : Instr → Bool
  | .loadDeliver | .resultWriteback | .preemptHalt | .saveImageWrite | .chnelem _ | .chncredit _ => true
  | _ => false

/-- What is pending at a tile whose thread is gone is gone with it. -/
def State.purgeTile (s : State) (k : Nat) : State :=
  { s with agenda := s.agenda.filter fun e => !(e.unit == k && (isTileStep e.ev || isThreadStep e.ev)) }

/-! ### Routes and latencies -/

/-- The rank key under which the switch die's own packets travel (log 11): die 0, tile index 1022. -/
def switchKey : Nat := 1022

/-- Whether a key hangs from the switch die: the switch die itself and the host port. -/
def onSwitch (k : Nat) : Bool := k == switchKey || isHostKey k

/-- Router row and column of an endpoint, whether it hangs from an edge port (1), none for those at the gateway, which
take the other end's column (R12, R61, R62). A rank that a spare serves is at the spare's router (R13, R112). -/
def State.routerOf (s : State) (k : Nat) : Option (Nat × Nat × Nat) :=
  let i := k % 1024
  if i < 288 then
    match (s.sched.spares[dieOf k]).used.find? fun u => u.1 == i with
    | some u => some (Config.spareRow (k / 1024) u.2, Config.spareCol (k / 1024) u.2, 0)
    | none => some (i / 16, i % 16, 0)
  else if i < 296 then some (2 * (i - 288) + 1, 0, 1)
  else if i < 304 then some (2 * (i - 296) + 1, 15, 1)
  else none

/-- Hops of a leg between an endpoint and another router position with its edge count. -/
def hopsTo (a : Nat × Nat × Nat) (row col edge : Nat) : Nat :=
  (a.1 - row) + (row - a.1) + ((a.2.1 - col) + (col - a.2.1)) + a.2.2 + edge

/-- Hops of a leg on one die between two endpoints; the gateway lies below the other end's column (R62, R65). -/
def State.legHops (s : State) (a b : Nat) : Nat :=
  match s.routerOf a, s.routerOf b with
  | some x, some y => hopsTo x y.1 y.2.1 y.2.2
  | some x, none => hopsTo x 17 x.2.1 1
  | none, some y => hopsTo y 17 y.2.1 1
  | none, none => 0

/-- Hops of a leg between an endpoint and the gateway below its own column. -/
def State.gatewayHops (s : State) (a : Nat) : Nat :=
  match s.routerOf a with
  | some x => hopsTo x 17 x.2.1 1
  | none => 0

/-- Whether two dies are ring neighbours, in the ring 0-1-3-2-0. -/
def ringNeighbours (a b : Nat) : Bool := a != b && a + b != 3

/-- The lower-numbered ring neighbour of a die, whose link has the north ports of columns 0-7 (R61). -/
def lowerNeighbour (d : Nat) : Nat := if d = 0 ∨ d = 3 then 1 else 0

/-- Hops of a leg between an endpoint and the north port of the link to die `other` (R61, R62). -/
def State.northHops (s : State) (a other : Nat) : Nat :=
  match s.routerOf a with
  | some x =>
    hopsTo x 0 (x.2.1 % 8 + if other == lowerNeighbour (a / 1024) then 0 else 8) 1
  | none => 0

/-- Flits of a packet (R65). -/
def flitsOf (n : Nat) : Nat := 1 + (n - 96 + 127) / 128

/-- Latency of a leg (R65). -/
def legLat (hops flits : Nat) : Nat := 1 + 2 * hops + 1 + (flits - 1)

/-- Moon traffic takes the neighbour links (R68). -/
def isMoonTraffic (p : Packet) : Bool := p.kind == 0x10 || p.kind == 0x11

/-! ### The way of a packet (R61, R62, R65, R68) -/

/-- The outputs of the routers along a route: along the column to the destination row, then along the row (R62). -/
def outsOf (die : Nat) (a b : Nat × Nat) : List Stage :=
  let rows := if a.1 ≤ b.1 then (List.range (b.1 - a.1)).map fun i => Stage.out die (a.1 + i) a.2 0
    else (List.range (a.1 - b.1)).map fun i => Stage.out die (a.1 - i) a.2 1
  let cols := if a.2 ≤ b.2 then (List.range (b.2 - a.2)).map fun i => Stage.out die b.1 (a.2 + i) 2
    else (List.range (a.2 - b.2)).map fun i => Stage.out die b.1 (a.2 - i) 3
  rows ++ cols

/-- A leg on one die between two router positions, each with its edge count (R65): injection, the edge port that it enters by, the
routers' outputs, and the edge port or the tile that it leaves to. -/
def legOf (die : Nat) (a b : Nat × Nat × Nat) : List Stage :=
  .wire 1 :: (if a.2.2 = 1 then [Stage.out die a.1 a.2.1 6] else []) ++ outsOf die (a.1, a.2.1) (b.1, b.2.1) ++
    (if b.2.2 = 1 then [Stage.out die b.1 b.2.1 5, .wire 1] else [Stage.out die b.1 b.2.1 4])

/-- The gateway to the switch die below a column, as the end of a leg (R61, R62). -/
def gateway (col : Nat) : Nat × Nat × Nat := (17, col, 1)

/-- A leg between two endpoints of a die; two that are at the gateway cross no router. -/
def State.legWay (s : State) (a b : Nat) : List Stage :=
  match s.routerOf a, s.routerOf b with
  | some x, some y => legOf (a / 1024) x y
  | some x, none => legOf (a / 1024) x (gateway x.2.1)
  | none, some y => legOf (b / 1024) (gateway y.2.1) y
  | none, none => [.wire 1, .wire 1]

/-- The legs between an endpoint and the gateway below its own column, in either direction. -/
def State.upWay (s : State) (a : Nat) : List Stage :=
  match s.routerOf a with
  | some x => legOf (a / 1024) x (gateway x.2.1)
  | none => [.wire 1, .wire 1]
def State.downWay (s : State) (b : Nat) : List Stage :=
  match s.routerOf b with
  | some y => legOf (b / 1024) (gateway y.2.1) y
  | none => [.wire 1, .wire 1]

/-- The north port of an endpoint's column towards die `other`, as the end of a leg (R61, R62). -/
def northPort (x : Nat × Nat × Nat) (die other : Nat) : Nat × Nat × Nat :=
  (0, x.2.1 % 8 + (if other = lowerNeighbour die then 0 else 8), 1)

/-- The legs between an endpoint and its north port. -/
def State.northOut (s : State) (a other : Nat) : List Stage :=
  match s.routerOf a with
  | some x => legOf (a / 1024) x (northPort x (a / 1024) other)
  | none => [.wire 1, .wire 1]
def State.northIn (s : State) (b other : Nat) : List Stage :=
  match s.routerOf b with
  | some y => legOf (b / 1024) (northPort y (b / 1024) other) y
  | none => [.wire 1, .wire 1]

/-- The numbers of the die links in each direction (R68): die d up to the switch die, down from it, and to its neighbour e. -/
def linkUp (d : Nat) : Nat := d
def linkDown (d : Nat) : Nat := 4 + d
def linkAcross (d e : Nat) : Nat := 8 + 4 * d + e

/-- The way of a packet between two endpoints of the module. A leg ends with the packet's last flit (R65, R68). -/
def State.wayOf (s : State) (p : Packet) (a b : Nat) : List Stage :=
  let tail := [Stage.wire (flitsOf p.payload.length - 1)]
  let da := a / 1024
  let db := b / 1024
  if onSwitch a && onSwitch b then [.wire 16]
  else if a % 1024 = unitIx ∧ onSwitch b then [.link (linkUp da), .wire 16]
  else if onSwitch a then [.wire 16, .link (linkDown db)] ++ s.downWay b ++ tail
  else if onSwitch b then s.upWay a ++ tail ++ [.link (linkUp da), .wire 16]
  else if da = db then s.legWay a b ++ tail
  else if isMoonTraffic p && ringNeighbours da db then
    s.northOut a db ++ tail ++ [.link (linkAcross da db)] ++ s.northIn b da ++ tail
  else s.upWay a ++ tail ++ [.link (linkUp da), .wire 16, .link (linkDown db)] ++ s.downWay b ++ tail

/-- The way of a packet's head flit to the switch die (R74, R75). -/
def State.wayOut (s : State) (a : Nat) : List Stage :=
  if onSwitch a then [.wire 1] else s.upWay a ++ [.link (linkUp (a / 1024))]

/-- The cycles that a stage takes where nothing contends: a hop takes 2, the way out to the tile 1 (R65), a die link 24 (R68). -/
def Stage.cost : Stage → Nat
  | .out _ _ _ dir => if dir = 4 then 1 else 2
  | .wire n => n
  | .link _ => 24

/-- The latency of a way where nothing contends. -/
def wayCost (l : List Stage) : Nat := (l.map Stage.cost).sum

/-! ### Contention (R63, R64) -/

/-- The cycle at which a die link delivers a packet that enters it: packets do not overtake on it. -/
def State.linkDue (s : State) (l enter : Nat) : Nat :=
  s.net.transit.foldl (fun m x => if x.path.head? = some (.link l) then max m x.ready else m) (enter + 24)

/-- A packet goes on until it stands at an output, is on a die link, or has arrived. -/
def State.settle (s : State) : List Stage → Transit → State
  | [], x => s.schedule (max s.now x.ready) x.unit x.ev
  | .wire n :: r, x => s.settle r { x with ready := x.ready + n }
  | .link l :: r, x =>
    { s with net := { s.net with transit := s.net.transit ++ [{ x with path := .link l :: r, ready := s.linkDue l x.ready, inp := 6 }] } }
  | .out d row col dir :: r, x =>
    { s with net := { s.net with transit := s.net.transit ++ [{ x with path := .out d row col dir :: r }] } }

/-- A packet enters the fabric. -/
def State.depart (s : State) (p : Packet) (unit : Nat) (ev : Instr) (way : List Stage) : State :=
  s.settle way ⟨p, unit, ev, [], s.now, 4⟩

/-- The cycles up to `last` in which elements of channels pass an output: they have it to themselves (R64). An element that arrives at
cycle c with f flits passed the n-th output before its end 2n + f cycles earlier. -/
def chnPasses (way : List Stage) (o : Stage) (due flits c : Nat) : Bool :=
  match way.idxOf? o with
  | none => false
  | some i =>
    let at_ := due - flits - 2 * (way.length - 1 - i)
    decide (at_ ≤ c) && decide (c < at_ + flits)

/-- Whether an element of a channel passes an output in a cycle. -/
def State.chnTakes (s : State) (o : Stage) (c : Nat) : Bool :=
  s.agenda.any fun e =>
    match e.ev with
    | .chnelem p =>
      chnPasses ((s.legWay (keyOf p.src) (keyOf p.dst)).filter fun x => match x with
        | .out _ _ _ _ => true
        | _ => false) o e.due (flitsOf p.payload.length) c
    | _ => false

/-- Where an output stands. -/
def Net.outSt (n : Net) (o : Stage) : OutSt := (n.outs.find? fun x => x.port == o).getD ⟨o, 0, 0⟩

def Net.setOut (n : Net) (x : OutSt) : Net := { n with outs := x :: n.outs.filter fun y => y.port != x.port }

/-- How a packet ranks at an output: CTL, then RSP, then REQ, but a REQ packet that has waited 7 cycles wins the 8th (R64). -/
def Transit.rank (x : Transit) (now : Nat) : Nat :=
  if x.pkt.cls = 0 then (if x.ready + 7 ≤ now then 0 else 3) else if x.pkt.cls = 2 then 1 else 2

/-- Whether a packet goes before another at an output: by rank, then by the turns of the inputs after the one served last. -/
def Transit.beats (now last : Nat) (x y : Transit) : Bool :=
  let turn (z : Transit) : Nat := (z.inp + 6 - last) % 7
  decide (x.rank now < y.rank now) || (x.rank now == y.rank now && decide (turn x < turn y))

/-- Whether a packet asks for an output: it has come, and no earlier packet of its pair waits there (R62). -/
def Transit.asks (l : List Transit) (o : Stage) (now : Nat) (x : Transit) : Bool :=
  x.path.head? == some o && decide (x.ready ≤ now) &&
    (l.find? fun y => y.path.head? == some o && y.pkt.src == x.pkt.src && y.pkt.dst == x.pkt.dst) == some x

/-- The packet that an output serves next. -/
def winner (l : List Transit) (o : OutSt) (now : Nat) : Option Transit :=
  (l.filter fun x => x.asks l o.port now).foldl (fun (m : Option Transit) x =>
    match m with
    | some y => if x.beats now o.last y then some x else some y
    | none => some x) none

/-- The input at which a packet enters the next router: the side that its output faces. -/
def Stage.enters : Stage → Nat
  | .out _ _ _ dir => if dir = 6 then 6 else dir
  | _ => 4

/-- An output in a cycle: where it is free, and no element of a channel passes, its next packet takes it for all of its flits. Elements
known to pass in these cycles make it later (R64). -/
def State.serve (s : State) (o : Stage) : State :=
  let st := s.net.outSt o
  if s.now < st.free || s.chnTakes o s.now then s
  else
    match winner s.net.transit st s.now with
    | none => s
    | some x =>
      let f := flitsOf x.pkt.payload.length
      let late := ((List.range f).filter fun i => s.chnTakes o (s.now + i)).length
      let s1 := { s with net := ({ s.net with transit := s.net.transit.erase x } : Net).setOut ⟨o, s.now + f + late, x.inp⟩ }
      s1.settle x.path.tail { x with path := [], ready := s.now + o.cost + late, inp := o.enters }

/-- A packet that a die link delivers goes on; its link's NAKs in a row are over (R70). -/
def State.offLink (s : State) (x : Transit) : State :=
  match x.path with
  | .link l :: r =>
    ({ s with net := { s.net with
        transit := s.net.transit.erase x
        naks := s.net.naks.put l 0 } } : State).settle r { x with path := [] }
  | _ => s

/-- The fabric in a new cycle. -/
def State.meshCycle (s : State) : State :=
  let s1 := (s.net.transit.filter fun x => decide (x.ready ≤ s.now) && match x.path with
    | .link _ :: _ => true
    | _ => false).foldl State.offLink s
  let outs := (s1.net.transit.filterMap fun x => x.path.head?).eraseDups
  (outs.filter fun o => match o with
    | .out _ _ _ _ => true
    | _ => false).foldl State.serve s1

/-- The CRC of a die link finds a corrupted flit (R68, R70): what is on the link is sent again after a NAK, which crosses the link back;
the 8th NAK in a row retrains the link, for a time that is free. -/
def State.linkError (s : State) (l : Nat) : State :=
  let n := (s.net.naks.find l).getD 0 + 1
  let more := 48 + if n = 8 then Config.dieRetrain s.freeCtr else 0
  { s with
    freeCtr := if n = 8 then s.freeCtr + 1 else s.freeCtr
    net := { s.net with
      naks := s.net.naks.put l (if n = 8 then 0 else n)
      transit := s.net.transit.map fun x => if x.path.head? = some (.link l) then { x with ready := x.ready + more } else x } }

/-! ### Packets at the ends of the fabric -/

/-- Whether a packet's route leaves its source die (R72). -/
def State.leavesDie (s : State) (p : Packet) : Bool :=
  let a := keyOf p.src
  let b := keyOf p.dst
  !s.isLocal p.dst || onSwitch a || onSwitch b || a / 1024 != b / 1024

/-- A packet enters the fabric: it goes to its endpoint, or its head flit to the switch die when it leaves the module (R62, R65, R68,
R74). -/
def State.launchPkt (s : State) (p : Packet) : State :=
  let a := keyOf p.src
  if s.isLocal p.dst then
    match pktEvent p with
    | some ev => s.depart p (keyOf p.dst) ev (s.wayOf p a (keyOf p.dst))
    | none => s
  else s.depart p a (.switchDieForward p) (s.wayOut a)

/-- Whether a packet of one of some steps is on its way, or has come. -/
def State.inFlight (s : State) (f : Instr → Bool) : Bool :=
  s.agenda.any (fun e => f e.ev) || s.net.transit.any fun x => f x.ev

end Sys2Proof.Machine
end

