-- ==== Sys2Proof/Machine/Net.lean ====
section
/-!
DEFINITION. End-to-end sequence numbers (R72, R73) and the delivery of packets to their endpoints (R66).
-/

namespace Sys2Proof.Machine

/-! ### End-to-end sequence numbers (R72, R73) -/

/-- An engine's end-to-end registers. -/
def State.e2e (s : State) (k : Nat) : E2e := (s.net.e2e.find k).getD E2e.reset

def State.setE2e (s : State) (k : Nat) (e : E2e) : State := { s with net := { s.net with e2e := s.net.e2e.put k e } }

/-- The retransmit timeout of an engine in cycles, and its tries (R73). -/
def E2e.timeout (e : E2e) : Nat := fld e.ctl.toNat 0 16 * 64
def E2e.tries (e : E2e) : Nat := fld e.ctl.toNat 16 3

/-- The end-to-end state of a pair. -/
def State.peer (s : State) (src dst : Rank) : Option Peer := s.net.peers.find? fun q => q.src == src && q.dst == dst

/-- The state with a pair's end-to-end state put in place. -/
def State.setPeer (s : State) (q : Peer) : State :=
  { s with net := { s.net with
      peers := if s.net.peers.any (fun x => x.src == q.src && x.dst == q.dst)
        then s.net.peers.map fun x => if x.src == q.src && x.dst == q.dst then q else x
        else s.net.peers ++ [q] } }

/-- A pair at its start: both ends at sequence 0. -/
def Peer.start (src dst : Rank) (now : Nat) : Peer where
  src := src
  dst := dst
  next := 0
  unacked := []
  tries := 0
  lastUse := now
  expected := 0
  held := []
  closing := false
  rx := false
  rxUse := now
  rxClosing := false
  lost := []

/-- A packet takes the next sequence number of its pair and stays with the sender until it is acknowledged. -/
def State.sendSeq (s : State) (q : Peer) (p : Packet) : State :=
  let p := { p with sv := true, seq := q.next }
  let idle := q.unacked.isEmpty
  let q := { q with next := q.next + 1, unacked := q.unacked ++ [p], lastUse := if idle then s.now else q.lastUse }
  let s := (s.setPeer q).launchPkt p
  if idle then s.schedule (s.now + (s.e2e (keyOf p.src)).timeout) (keyOf p.src) (.e2eRetransmitTimeout p.src p.dst)
  else s

/-- A packet waits for an entry of its engine, for as long as R72 gives it. -/
def State.awaitEntry (s : State) (p : Packet) : State :=
  let e := s.e2e (keyOf p.src)
  ({ s with net := { s.net with waiting := s.net.waiting ++ [(s.now, p)] } } : State).schedule
    (s.now + e.timeout * (e.tries + 1)) (keyOf p.src) (.e2eAbandon p)

/-- The entries that an engine holds as a sender. -/
def State.txPeers (s : State) (src : Rank) : List Peer := s.net.peers.filter fun q => q.src == src

/-- A packet is sent. One that leaves its die is sequenced; without a peer entry it waits for one (R72). -/
def State.send (s : State) (p : Packet) : State :=
  if s.leavesDie p then
    match s.peer p.src p.dst with
    | some q => if q.closing then s.awaitEntry p else s.sendSeq q p
    | none =>
      if (s.txPeers p.src).length < 1024 then s.sendSeq (Peer.start p.src p.dst s.now) p
      else (s.awaitEntry p).schedule (s.now + 1) (keyOf p.src) (.e2ePeerEntryTake p.src)
  else s.launchPkt p

/-- The receiving end of a pair acknowledges the highest in-order sequence (CTL class). -/
def State.ack (s : State) (p : Packet) (expected : W32) : State :=
  s.launchPkt { mkPacket p.dst p.src 0x20 0 0 0 0 [] with seq := expected - 1 }

/-- Held successors that are now in order, with the sequence number expected after them. -/
def inOrder (expected : W32) (held : List Packet) : Nat → List Packet × W32 × List Packet
  | 0 => ([], expected, held)
  | n + 1 =>
    match held.find? fun p => p.seq == expected with
    | some p =>
      let r := inOrder (expected + 1) (held.filter fun q => q.seq != expected) n
      (p :: r.1, r.2)
    | none => ([], expected, held)

/-- The bytes of a packet in a reorder store. -/
def pktBytes (p : Packet) : Nat := 32 + p.payload.length

/-- A CLOSE by which a receiver retires the entry of a source that has been idle longest and has nothing held (log 70). -/
def State.retireRx (s : State) (dst : Rank) : State :=
  let idle := s.net.peers.filter fun q => q.dst == dst && q.rx && q.held.isEmpty
  if idle.any fun q => q.rxClosing then s
  else
    match idle.foldl (fun (m : Option Peer) q =>
        match m with
        | some x => if q.rxUse < x.rxUse then some q else some x
        | none => some q) none with
    | some q => (s.setPeer { q with rxClosing := true }).launchPkt
        { mkPacket q.dst q.src 0x21 0 0 0 0 [] with seq := q.expected - 1, ext := 1 }
    | none => s

/-- Whether an engine has an entry for a source, or room for one (R72). -/
def State.rxRoom (s : State) (q : Peer) : Bool :=
  q.rx || decide ((s.net.peers.filter fun x => x.dst == q.dst && x.rx).length < 1024)

/-- Held successors follow in order, before anything else that comes in this cycle (R72). -/
def State.followUp (s : State) (ps : List Packet) : State :=
  let evs := ps.filterMap fun x => (pktEvent { x with sv := false }).map fun ev => (⟨s.now, keyOf x.dst, ev⟩ : Timed)
  { s with agenda := evs ++ s.agenda }

/-- Delivery of a packet at its endpoint (R66, R72): a corrupted one is discarded and reported; an unsequenced one is
handled; a sequenced one is handled in order, held, or dropped: as a duplicate, or for want of room in the reorder store or among the
1024 entries. `h` is what the endpoint does with it. -/
def State.arrive (s : State) (p : Packet) (kind : Nat) (h : State → State) : State :=
  if p.rsv != 0 || p.kind.toNat != kind || kindCls kind != some p.cls.toNat then
    s.reportEvent (dieOf (keyOf p.dst)) p.dst 0x33 (p.src.toNat + 2 ^ 32 * p.kind.toNat)
  else if !p.sv then h s
  else
    let q0 := (s.peer p.src p.dst).getD (Peer.start p.src p.dst s.now)
    let q := { q0 with rx := true, rxUse := s.now, rxClosing := false }
    let dist := p.seq - q.expected
    let die := dieOf (keyOf p.dst)
    if !s.rxRoom q0 then s.retireRx p.dst
    else if dist = 0 then
      let r := inOrder (q.expected + 1) q.held 256
      let freed := r.1.foldl (fun n x => n + pktBytes x) 0
      let s := (s.setPeer { q with expected := r.2.1, held := r.2.2 }).ack p r.2.1
      let s := { s with net := { s.net with store := s.net.store.set die (s.net.store[die] - freed) } }
      (h s).followUp r.1
    else if dist.toNat < 256 then
      if q.held.any (fun x => x.seq == p.seq) then s.ack p q.expected
      else if s.net.store[die] + pktBytes p ≤ 0x200000 then
        ({ s with net := { s.net with store := s.net.store.set die (s.net.store[die] + pktBytes p) } } : State).setPeer
          { q with held := q.held ++ [p] } |>.ack p q.expected
      else s
    else
      let e := s.e2e (keyOf p.dst)
      ((s.setE2e (keyOf p.dst) { e with dup := if e.dup = BitVec.allOnes 32 then e.dup else e.dup + 1 }).setPeer q).ack p
        q.expected

end Sys2Proof.Machine
end

