-- ==== Sys2Proof/Machine/Slots.lean ====
section
/-!
DEFINITION. The completion table (R105-R108), the common rules of engine ops (R197-R202) and the observation of
transfers (R104, R226-R229).
-/

namespace Sys2Proof.Machine

/-! ### Slots and transfer ids (R105) -/

/-- The slot of a transfer id. -/
def slotIx (xid : W16) : Fin 64 := Fin.ofNat 64 xid.toNat

/-- The sequence of a transfer id. -/
def xidSeq (xid : W16) : BitVec 10 := BitVec.ofNat 10 (xid.toNat / 64)

/-- A transfer id: slot and sequence. -/
def mkXid (k : Fin 64) (seq : BitVec 10) : W16 := BitVec.ofNat 16 (k.val + 64 * seq.toNat)

/-- The slot that a transfer id names, unless it is FREE or the id is stale. -/
def Tile.live (t : Tile) (xid : W16) : Option Slot :=
  let c := t.cpl[slotIx xid]
  if c.used && c.seq == xidSeq xid then some c else none

/-- The lowest-numbered FREE slot (R198). -/
def Tile.freeSlot (t : Tile) : Option (Fin 64) := (List.finRange 64).find? fun k => !t.cpl[k].used

/-- A slot of a tile changed, when the id is live. -/
def State.modSlot (s : State) (k : Nat) (xid : W16) (f : Slot → Slot) : State :=
  s.modTile k fun t =>
    match t.live xid with
    | some c => { t with cpl := t.cpl.set (slotIx xid) (f c) }
    | none => t

/-- Step 1 and 2 of R198: without a FREE slot the bundle traps; otherwise the lowest is allocated BUSY with the
advanced sequence. -/
def State.allocSlot (s : State) (op : SlotOp) (len : Nat) (uli : Bool) (x : Xfer) : Except Stop (State × W16) :=
  match s.t.freeSlot with
  | none => .error (.trap .engineFault 0x10000)
  | some k =>
    let seq := s.t.cpl[k].seq + 1
    let c : Slot := ⟨true, seq, op, 0, BitVec.ofNat 32 len, 0, none, 0, uli, none, false, s.t.isSpec, false, x⟩
    .ok (s.modT fun t => { t with cpl := t.cpl.set k c }, mkXid k seq)

/-- A FREE slot that keeps its sequence. -/
def Slot.freed (c : Slot) : Slot := { Slot.free with seq := c.seq }

/-- A BUSY transfer reaches its terminal status, once (R106): all chunk bits for DONE and TRUNC (R107), and a pending
user-level interrupt if one was requested (R135). A transfer that speculation dropped goes back to FREE unseen
(R338). -/
def Slot.ended (c : Slot) (now : Nat) (st : BitVec 4) (len : Option Nat) (src : W32) : Slot :=
  if c.state != 0 then c
  else if c.drop then c.freed
  else
    { c with
      state := st
      length := (len.map (BitVec.ofNat 32)).getD c.length
      src := src
      bits := if st == 1 || st == 3 then BitVec.allOnes 64 else c.bits
      uliAt := if c.uli then some now else none }

/-- A transfer of a tile reaches its terminal status. -/
def State.complete (s : State) (k : Nat) (xid : W16) (st : BitVec 4) (len : Option Nat) (src : W32) : State :=
  s.modSlot k xid fun c => c.ended s.now st len src

/-- The thread of a rank that a test picks, changed: in its saved copy while its gang is suspended, else on its tile (R330,
R375). -/
def State.modThread (s : State) (rank : Rank) (mine : Tile → Bool) (f : Tile → Tile) : State :=
  let saved (v : Saved) : Bool := v.rank == rank && mine v.tile
  if s.sched.saves.any saved then
    let vs := s.sched.saves.map fun v => if saved v then { v with tile := f v.tile } else v
    { s with sched := { s.sched with saves := vs } }
  else if mine (s.tile (keyOf rank)) then s.modTile (keyOf rank) f
  else s

/-- The tile of a rank's thread that a test picks: its saved copy while its gang is suspended. -/
def State.threadTile (s : State) (rank : Rank) (mine : Tile → Bool) : Tile :=
  ((s.sched.saves.find? fun v => v.rank == rank && mine v.tile).map (·.tile)).getD (s.tile (keyOf rank))

/-- A transfer of a tile that reaches its terminal status. -/
def Tile.completed (t : Tile) (now : Nat) (xid : W16) (st : BitVec 4) (src : W32) : Tile :=
  match t.live xid with
  | some c => { t with cpl := t.cpl.set (slotIx xid) (c.ended now st none src) }
  | none => t

/-- Whether a tile is that of a gang's thread. -/
def Tile.ofGang (t : Tile) (gang : Option W32) : Bool := t.thr.gang == gang

/-- A transfer of a thread reaches its terminal status. -/
def State.completeOf (s : State) (rank : Rank) (gang : Option W32) (xid : W16) (st : BitVec 4) (src : W32) : State :=
  s.modThread rank (fun t => t.ofGang gang) fun t => t.completed s.now xid st src

/-! ### Gangs (R349) -/

/-- A gang by handle, and the state with one changed. -/
def State.gang (s : State) (h : W32) : Option Gang := s.sched.gangs.find? fun g => g.handle == h
def State.modGang (s : State) (h : W32) (f : Gang → Gang) : State :=
  { s with sched := { s.sched with gangs := s.sched.gangs.map fun g => if g.handle == h then f g else g } }

/-- A fault at issue (R198): nothing moves, chunk bits all 0. -/
def State.faultNow (s : State) (xid : W16) (detail : W32) : State :=
  (s.modSlot s.cur xid fun c => { c with geom := none, bits := 0 }).complete s.cur xid 2 none detail

/-- The geometry of a transfer is fixed (R107). -/
def State.fixGeom (s : State) (k : Nat) (xid : W16) (len : Nat) : State :=
  s.modSlot k xid fun c => { c with geom := some len, bits := geomBits len }

/-- The chunk bits of a transfer's bytes [lo, hi) that have all landed. -/
def State.markPrefix (s : State) (k : Nat) (xid : W16) (n : Nat) : State :=
  s.modSlot k xid fun c =>
    match c.geom with
    | some len => { c with bits := c.bits ||| prefixBits len n }
    | none => c

/-- What an engine remembers of a transfer, changed. -/
def State.modXfer (s : State) (k : Nat) (xid : W16) (f : Xfer → Xfer) : State :=
  s.modSlot k xid fun c => { c with x := f c.x }

/-! ### The shared checks of R198 -/

/-- A buffer's checks that follow its reserved bits and length: the range, then the hamper. -/
def Tile.bufOk (t : Tile) (b : BufWord) : Bool :=
  !outOfSpm b.addr b.len && !t.hitsHamper b.addr b.len

/-- A membership register that holds a group the thread has joined (R144). -/
def gmJoined (g : W64) : Bool := g.getLsbD 16 && !g.getLsbD 17

/-- The group id of a membership register. -/
def gmGroup (g : W64) : W16 := g.setWidth 16

/-- Whether a send, put or get may name a rank at all (R16, R25, R42). -/
def destOk (r : Rank) : Bool :=
  let k := keyOf r
  let i := k % 1024
  pkgOf r != 0xFFFFF && (decide (i < 288) || i == 306 || k == 1023)

/-- Whether a rank is a moon that a moon op may name (R16, R217). -/
def moonRankOk (r : Rank) : Bool := pkgOf r != 0xFFFFF && isMoonKey (keyOf r)

/-- The end of an op that took a slot: the xid goes to its destination, and the checks decide (R198). The checks are a
list of conditions with the details they give; the first that fails completes the transfer FAULT. -/
def firstFault : List (Bool × Nat) → Option Nat
  | [] => none
  | (ok, d) :: r => if ok then firstFault r else some d

/-- An engine op: its slot, its xid, its checks, and what it does when they pass. -/
def State.engineOp (s : State) (a : Attr) (d : Reg) (op : SlotOp) (len : Nat) (uli : Bool) (x : Xfer)
    (checks : List (Bool × Nat)) (go : State → W16 → State) : Except Stop State := do
  let (s1, xid) ← s.allocSlot op len uli x
  let s2 ← s1.wrS a 1 d (xid.setWidth 64)
  match firstFault checks with
  | some r => return s2.faultNow xid (faultDetail r 0)
  | none => return go s2 xid

/-! ### What matrix ops in flight read (R125) -/

/-- The address of element (k, r) of a shape record used by the matrix engine (R237). -/
def Shape.elem (sh : Shape) (k r : Nat) : Int := sh.base + k * sh.str[0] + r * sh.str[1]

/-- The element size of a type (R127). -/
def etypeSize (e : Nat) : Nat :=
  if e = 0 ∨ e = 3 ∨ e = 4 ∨ e = 5 ∨ e = 9 then 1
  else if e = 2 ∨ e = 6 ∨ e = 10 then 2
  else if e = 1 ∨ e = 7 ∨ e = 11 then 4
  else if e = 8 ∨ e = 12 then 8
  else 1

/-- The bytes of a weight block (R239). -/
def blockBytes (wtype : Nat) (gs : Bool) : Nat :=
  if wtype = 2 then 32768
  else if wtype = 3 ∨ wtype = 4 then 16384
  else (if wtype = 13 then 8192 else 6144) + (if gs then 1024 else 256)

/-- `fmt.atype` and `fmt.wtype` of a value of `fmt`. -/
def atypeOf (f : BitVec 11) : Nat := fld f.toNat 0 4
def wtypeOf (f : BitVec 11) : Nat := fld f.toNat 4 4

/-- Whether two ranges share a byte. -/
def overlaps (a n b m : Int) : Bool := decide (a < b + m) && decide (b < a + n)

/-- Whether a matrix op in flight reads a byte of a range of words. -/
def PipeOp.readsRange (p : PipeOp) (a n : Nat) : Bool :=
  match p.op with
  | .mma _ _ r | .mmaw _ _ _ r | .mld _ r =>
    (List.range r.ext[1]).any fun i => (List.range r.ext[0]).any fun k =>
      overlaps (r.elem k i) (etypeSize r.etype.toNat) a n
  | .wld _ gs b => overlaps b (blockBytes (wtypeOf p.fmt) gs) a n
  | .ladd x _ _ _ | .lmadd x _ _ _ _ | .lrnd x _ _ _ => overlaps x 80 a n
  | .lmerge x y => overlaps x 80 a n || overlaps y 80 a n
  | .mzero _ | .mst _ _ | .lclr _ => false

/-- Whether a speculative write reaches a word that a matrix op in flight reads (R125). -/
def Tile.matReads (t : Tile) (a n : Nat) : Bool :=
  (t.mat.arr ++ t.mat.wgt ++ t.mat.wide).any fun p => p.readsRange (a / 16 * 16) ((a + n + 15) / 16 * 16 - a / 16 * 16)

/-! ### What speculation holds back -/

/-- An op that stalls while the thread is speculative (R202, R246, R259, R292). -/
def State.noSpec (s : State) : Except Stop Unit := check (!s.t.isSpec) (.stall 4)

/-- Writes that proceed under speculation only inside the swap region, and where no matrix op in flight reads (R125, R202,
R246). -/
def State.specWrites (s : State) (ws : List (Nat × Nat)) : Except Stop Unit := do
  let t := s.t
  check (!t.isSpec || ws.all fun w => t.rangeInSwap w.1 w.2) (.stall 2)
  check (!t.isSpec || !(ws.any fun w => w.2 != 0 && t.matReads w.1 w.2)) (.stall 5)

/-- A write of [a, a + n) under speculation. -/
def State.specWrite (s : State) (a n : Nat) : Except Stop Unit := s.specWrites [(a, n)]

/-! ### Observation (R104, R226-R229) -/

/-- An xid that an observer names: FREE or stale traps ENGINE_FAULT with kind 0 (R105, R229). -/
def State.named (s : State) (xid : W16) : Except Stop Slot :=
  match s.t.live xid with
  | some c => .ok c
  | none => .error (.trap .engineFault (xid.setWidth 64))

/-- The first observation of a terminal receive whose format bit mismatched traps FMT_MISMATCH, and is spent (R104). -/
def observe (xid : W16) (c : Slot) : Except Stop Unit :=
  check (!(c.terminal && c.nanMis)) (.trap .fmtMismatch (xid.setWidth 64))

end Sys2Proof.Machine
end

