-- ==== Sys2Proof/Machine/Addr.lean ====
section
/-!
DEFINITION. The loads and stores of the A slot (R203-R209), and the delivery of loads (R121).
-/

namespace Sys2Proof.Machine

/-! ### Checks (R203) -/

/-- The range and then the alignment of one access; `tval` is its address. -/
def Tile.accessOk (t : Tile) (a : Int) (n al : Nat) : Except Stop Unit := do
  check (!(decide (a < 0) || decide (0x100000 < a + n)) && !t.hitsHamper a n)
    (.trap .scratchRange (BitVec.ofInt 64 a))
  check (a % al == 0) (.trap .align (BitVec.ofInt 64 a))

/-- A read by a thread op of a word with an uncorrectable error (R118). -/
def Tile.eccOk (t : Tile) (a n : Nat) : Except Stop Unit :=
  match t.badWord a n with
  | some w => .error (.trap .eccUncorr (BitVec.ofNat 64 w))
  | none => .ok ()

/-- One access of a load: checked, then read as the thread reads it (R123). -/
def Tile.loadAt (t : Tile) (a : Int) (n al : Nat) : Except Stop (List Byte) := do
  t.accessOk a n al
  t.eccOk a.toNat n
  return t.spmRead t.isSpec a.toNat n

/-- The signed offset of an A-slot op in its units. -/
def offOf {w : Nat} (o : BitVec w) (unit : Nat) : Int := o.toInt * unit

/-- The element width in bytes of a width code (R196). -/
def widBytes : Wid → Nat
  | .n8 => 1
  | .n16 => 2
  | .n32 => 4

/-! ### Loads -/

/-- A load is on its way: it enters q0, writes its register, or goes nowhere, at the end of cycle c + 4, plus what bank denials add,
and never before an earlier load (R121, R208). -/
def State.pushLoad (s : State) (dst : LoadTo) (v : W512) (extra : Nat) (tag : BitVec 4) :
    Except Stop State := do
  check (decide (s.t.loadCount < 16)) (.stall 0)
  let d := s.delay
  let due := s.t.regs.loads.foldl (fun m (l : Load) => max m l.due) (s.now + 5 + extra + d.1)
  let l : Load := ⟨dst, v, due, tag, s.t.isSpec⟩
  let s2 := d.2.modT fun t => { t with regs := { t.regs with loads := t.regs.loads ++ [l] } }
  return s2.schedule due s.cur .loadDeliver

/-- `vldq` (R204). -/
def execVldq (_a : Attr) (sa : Reg) (off : BitVec 12) (s : State) : Host.Outcome State Fault Refusal :=
  finish s do
    let bs ← s.t.loadAt (sInt (s.rdS sa) + offOf off 16) 64 16
    s.pushLoad .q0 (BitVec.ofNat 512 (ofBytes bs)) 0 0

/-- The elements of a gather, lane by lane: disabled lanes give 0 and are not checked (R203, R205). -/
def State.gatherLanes (s : State) (base : Int) (n : Nat) (en : W64) : List (Nat × Nat) → Except Stop (List Nat)
  | [] => .ok []
  | (i, x) :: r => do
    let v ← if en.getLsbD i then (s.t.loadAt (base + x) n n).map ofBytes else .ok 0
    let vs ← s.gatherLanes base n en r
    return v :: vs

/-- The number of distinct words that enabled lanes need from the bank that serves most of them (R205). -/
def bankLoad (addrs : List Nat) : Nat :=
  let ws := (addrs.map fun a => a / 16).eraseDups
  ((List.range 256).map fun b => (ws.filter fun w => w % 256 == b).length).foldl max 1

/-- `vldqg` (R205). -/
def execVldqg (a : Attr) (w : Wid) (sa vi : Reg) (s : State) : Host.Outcome State Fault Refusal :=
  finish s do
    let en := s.t.enables a
    let base := sInt (s.rdS sa)
    let ix := (lanesOf 32 (s.rdV 32 vi)).zipIdx.map fun p => (p.2, p.1)
    let vs ← s.gatherLanes base (widBytes w) en ix
    let addrs := (ix.filter fun p => en.getLsbD p.1).map fun p => (base + p.2).toNat
    s.pushLoad .q0 (BitVec.ofNat 512 (packLanes (8 * widBytes w) vs)) (bankLoad addrs - 1) 0

/-- `sld` (R208). To `zero` it delivers nothing, and counts as the other A-slot loads do. -/
def execSld (a : Attr) (size : BitVec 2) (signed : Bool) (d sa : Reg) (off : BitVec 9) (s : State) :
    Host.Outcome State Fault Refusal :=
  finish s do
    let n := 2 ^ size.toNat
    let bs ← s.t.loadAt (sInt (s.rdS sa) + offOf off n) n n
    let v : W64 := if signed then BitVec.ofInt 64 (signExtend (ofBytes bs) (8 * n)) else BitVec.ofNat 64 (ofBytes bs)
    match d with
    | .s k => s.pushLoad (.s k) (v.setWidth 512) 0 a.sba
    | .q _ => s.pushLoad .q0 (v.setWidth 512) 0 0
    | _ => s.pushLoad .zero (v.setWidth 512) 0 0

/-- Loads that are due enter q0 or their registers, in issue order (R121, R208). -/
def Tile.deliverLoads (t : Tile) (now : Nat) : Nat → Tile
  | 0 => t
  | n + 1 =>
    match t.regs.loads with
    | [] => t
    | l :: r =>
      if l.due ≤ now then
        let t := { t with regs := { t.regs with loads := r } }
        let t := match l.dst with
          | .q0 => { t with regs := { t.regs with q0 := t.regs.q0 ++ [Q0Ent.mk l.val l.spec] } }
          | .s k => t.land ⟨l.due, .s k, l.val, 0, l.tag, l.spec⟩
          | .zero => t
        t.deliverLoads now n
      else t

/-- LOAD_DELIVER (R121, R204, R208). -/
def execLoadDeliver (s : State) : Host.Outcome State Fault Refusal :=
  .next (s.modT fun t => t.deliverLoads s.now 16)

/-- RESULT_WRITEBACK: register results whose landing cycle has come land (R181). -/
def execResultWriteback (s : State) : Host.Outcome State Fault Refusal := .next (s.modT fun t => t.landDue s.now)

/-! ### Stores -/

/-- The bytes that a store writes, checked under speculation (R125, R202), then written in order. -/
def State.storeAll (s : State) (ws : List (Nat × List Byte)) : Except Stop State := do
  s.specWrites (ws.map fun w => (w.1, w.2.length))
  return s.modT fun t => ws.foldl (fun t w => t.spmWrite t.isSpec w.1 w.2) t

/-- `vst` (R206). -/
def execVst (_a : Attr) (sa vd : Reg) (off : BitVec 12) (s : State) : Host.Outcome State Fault Refusal :=
  finish s do
    let addr := sInt (s.rdS sa) + offOf off 16
    s.t.accessOk addr 64 16
    s.storeAll [(addr.toNat, bytesOf (s.rdV 32 vd).toNat 64)]

/-- `vstm`: the elements of enabled lanes; the range is checked whatever the mask (R206). -/
def execVstm (a : Attr) (w : Wid) (sa vd : Reg) (off : BitVec 10) (s : State) : Host.Outcome State Fault Refusal :=
  finish s do
    let addr := sInt (s.rdS sa) + offOf off 16
    s.t.accessOk addr 64 16
    let n := widBytes w
    let en := s.t.enables a
    s.storeAll (((lanesOf (8 * n) (s.rdV 32 vd)).zipIdx.filter fun p => en.getLsbD p.2).map fun p =>
      (addr.toNat + n * p.2, bytesOf p.1 n))

/-- The addresses of a scatter's enabled lanes, checked in ascending order (R203, R207). -/
def State.scatterChecks (s : State) (n : Nat) : List Int → Except Stop Unit
  | [] => .ok ()
  | x :: r => do
    s.t.accessOk x n n
    s.scatterChecks n r

/-- `vsts` (R207). -/
def execVsts (a : Attr) (w : Wid) (sa vi vd : Reg) (s : State) : Host.Outcome State Fault Refusal :=
  finish s do
    let n := widBytes w
    let en := s.t.enables a
    let base := sInt (s.rdS sa)
    let data := lanesOf (8 * n) (s.rdV 32 vd)
    let ls := ((lanesOf 32 (s.rdV 32 vi)).zipIdx.filter fun p => en.getLsbD p.2).map fun p => (base + (p.1 : Int), p.2)
    s.scatterChecks n (ls.map (·.1))
    s.storeAll (ls.map fun p => (p.1.toNat, bytesOf (data.getD p.2 0) n))

/-- `sst` (R208). -/
def execSst (_a : Attr) (size : BitVec 2) (sa sd : Reg) (off : BitVec 9) (s : State) :
    Host.Outcome State Fault Refusal :=
  finish s do
    let n := 2 ^ size.toNat
    let addr := sInt (s.rdS sa) + offOf off n
    s.t.accessOk addr n n
    s.storeAll [(addr.toNat, bytesOf (s.rdS sd).toNat n)]

end Sys2Proof.Machine
end

