-- ==== Sys2Proof/Machine/Flow.lean ====
section
/-!
DEFINITION. Where flow goes: bundles in sequence (R173), the loop sequencer (R286-R290), the checks that several K-slot
ops share.
-/

namespace Sys2Proof.Machine

/-! ### Sequential flow (R173) -/

/-- The heads of a line after the first bundle that starts at the list's head, counted. -/
def bundleLen : List (Nat × Nat) → Nat
  | [] => 0
  | (h, _) :: r => if headE h then 1 else bundleLen r + 1

/-- The address of the bundle that follows the bundle at `a` in sequential flow; 2^17 after the last of line 2047. -/
def Tile.nextAddr (t : Tile) (a : Nat) : Nat :=
  let l := t.line (a / 64)
  let h := a % 64 + bundleLen ((lineOps l (lineCount l) 0 64).drop (a % 64))
  if h < lineCount l then a / 64 * 64 + h else (a / 64 + 1) * 64

/-- The address `n` bundles on in sequential flow. A line that is not well formed, or the end of line 2047, stops the
count: the trap of R189 is taken there. -/
def Tile.skip (t : Tile) (a : Nat) : Nat → Nat
  | 0 => a
  | n + 1 =>
    if 0x20000 ≤ a then a
    else
      match parseLine (t.line (a / 64)) with
      | .ok _ => Tile.skip t (t.nextAddr a) n
      | .error _ => a

/-- The last bundle of line 2047, which `epc` names when flow passes it (R189). -/
def Tile.lastBundle (t : Tile) : IAddr :=
  let l := t.line 2047
  let ops := lineOps l (lineCount l) 0 64
  BitVec.ofNat 26 (2047 * 64 + ((List.range 31).filter fun h => bundleStart ops h).foldl max 0)

/-- Flow continues at an address reached in sequence. -/
def Tile.goto (t : Tile) (a : Nat) : Tile :=
  { t with thr := { t.thr with
      pc := BitVec.ofNat 26 (min a 0x20000)
      badTarget := if a < 0x20000 then none else some t.lastBundle } }

/-! ### The loop sequencer (R286-R289) -/

/-- The depth of the loop sequencer as a `tval` (R363). -/
def Tile.depthVal (t : Tile) : W64 := BitVec.ofNat 64 t.loops.depth

/-- The trap LOOP_DEPTH. -/
def Tile.depthTrap (t : Tile) : Stop := .trap .loopDepth t.depthVal

/-- A level changed. -/
def Loops.modLevel (l : Loops) (k : Nat) (f : Level → Level) : Loops :=
  { l with lv := l.lv.set (Fin.ofNat 6 k) (f l.lv[Fin.ofNat 6 k]) }

/-- The innermost open level, at depth at least 1. -/
def Loops.top (l : Loops) : Level := l.lv[Fin.ofNat 6 (l.depth - 1)]

/-- Every open level has passed `n` more bundles. -/
def Loops.advance (l : Loops) (n : Nat) : Loops :=
  { l with lv := l.lv.map fun x => if x.act then { x with pos := x.pos + n } else x }

/-- The innermost level closes; the strides bound for the level after it are dropped too (R287, R288). -/
def Loops.close (l : Loops) : Loops :=
  let k := l.depth - 1
  let l := l.modLevel k fun _ => Level.closed
  let l := if k + 1 < 6 then l.modLevel (k + 1) fun x => { x with strides := [] } else l
  { l with depth := k }

/-- One stride is added after the writes to its register that land by the end of cycle `now` (R287). -/
def Tile.addStride (t : Tile) (now : Nat) (st : Fin 64 × W32) : Tile :=
  let mine := t.regs.flight.filter fun w => w.dst == .s st.1 && decide (w.due ≤ now + 1)
  let rest := t.regs.flight.filter fun w => !(w.dst == .s st.1 && decide (w.due ≤ now + 1))
  let lds := t.regs.loads.filter fun l => l.dst == .s st.1 && decide (l.due ≤ now + 1)
  let lrest := t.regs.loads.filter fun l => !(l.dst == .s st.1 && decide (l.due ≤ now + 1))
  let t := { t with regs := { t.regs with flight := rest, loads := lrest } }
  let t := (mine ++ lds.filterMap Load.write).foldl Tile.land t
  { t with regs := { t.regs with s := t.regs.s.set st.1 (t.regs.s[st.1] + st.2.signExtend 64) } }

/-- Flow stands after a bundle, or after a body that was passed over, with the counts of the levels advanced: the
iterations that end there end, innermost first (R287). `nxt` is the address that follows in sequence. -/
def Tile.settle (t : Tile) (now nxt : Nat) : Nat → Tile
  | 0 => t.goto nxt
  | fuel + 1 =>
    let l := t.loops
    if l.depth = 0 then t.goto nxt
    else
      let lv := l.top
      if lv.pos < lv.len then t.goto nxt
      else
        let t := lv.strides.foldl (fun t st => t.addStride now st) t
        if lv.left = 1 then Tile.settle { t with loops := l.close } now nxt fuel
        else
          let back := l.lv.map fun x => if x.act then { x with pos := x.pos - lv.len } else x
          let l := ({ l with lv := back } : Loops).modLevel (l.depth - 1) fun x =>
            { x with left := x.left - 1, first := false, pos := 0 }
          ({ t with loops := l } : Tile).goto lv.start.toNat

/-- `loop` with a count, issued at the bundle the thread stands at (R286). -/
def State.openLoop (s : State) (len : Nat) (n : W32) : State :=
  s.modT fun t =>
    let nxt := t.nextAddr t.thr.pc.toNat
    let d := t.loops.depth
    let t := { t with iss := { t.iss with moved := true } }
    if n = 0 then
      let l := (t.loops.advance (1 + len)).modLevel d fun x => { x with strides := [] }
      let t := ({ t with loops := l } : Tile).settle s.now (t.skip nxt len) 7
      { t with thr := { t.thr with base := s.now + 2 } }
    else
      let last := t.skip nxt (len - 1)
      let long := decide (64 < len) && decide (64 ≤ last / 64 - nxt / 64)
      let l := (t.loops.advance 1).modLevel d fun x => ⟨true, BitVec.ofNat 26 nxt, len, n, true, 0, long, x.strides⟩
      let t := ({ t with loops := { l with depth := d + 1 } } : Tile).goto nxt
      { t with thr := { t.thr with base := s.now } }

/-- The checks of `loop` (R286). -/
def State.loopChecks (s : State) (len : Nat) : Except Stop Unit := do
  let t := s.t
  check (decide (t.loops.depth < 6) && !t.thr.inHandler) t.depthTrap
  check (t.loops.depth == 0 || decide (t.loops.top.pos + 1 + len ≤ t.loops.top.len)) t.depthTrap

/-- `lbrk` when its condition holds (R289). -/
def State.breakLoop (s : State) : State :=
  s.modT fun t =>
    let lv := t.loops.top
    let nxt := t.skip lv.start.toNat lv.len
    let l := (t.loops.advance (lv.len - lv.pos)).close
    let t := ({ t with loops := l, iss := { t.iss with moved := true } } : Tile).settle s.now nxt 7
    { t with thr := { t.thr with base := s.now + 2 } }

/-- `lstr`: a stride bound to the next level to open (R288). -/
def State.bindStride (s : State) (d : Reg) (incr : W32) : Except Stop State := do
  let l := s.t.loops
  check (decide (l.depth < 6)) s.t.depthTrap
  check (decide ((l.lv[Fin.ofNat 6 l.depth]).strides.length < 8)) s.t.depthTrap
  match d with
  | .s n => return s.modT fun t => { t with
      loops := t.loops.modLevel t.loops.depth fun x => { x with strides := x.strides ++ [(n, incr)] } }
  | _ => return s

/-- A taken transfer (R283, R284). -/
def State.jump (s : State) (a : Nat) : Except Stop State := do
  check (s.t.loops.depth == 0) s.t.depthTrap
  return s.transfer a

/-! ### Checks -/

/-- The trap ILLEGAL with reason 0x10 CONTEXT, naming the op (R190). -/
def State.context (s : State) (opc : Nat) : Stop :=
  .trap .illegal (BitVec.ofNat 64 (0x10 + 2 ^ 8 * s.t.iss.head + 2 ^ 16 * opc))

/-- Ops that `fence.eng` waits for: all that take a slot but those whose completion rests on other threads (R297). -/
def SlotOp.fenced : SlotOp → Bool
  | .recv | .recvr | .gbar | .join => false
  | _ => true

/-- Moon ops (R297). -/
def SlotOp.moonOp : SlotOp → Bool
  | .mget | .mput | .matom | .exget => true
  | _ => false

/-- Slots in use and BUSY of an op kind. Held sends have not left the thread (R292). -/
def Tile.busy (t : Tile) (p : SlotOp → Bool) : Bool :=
  (List.finRange 64).any fun k =>
    let c := t.cpl[k]
    c.used && !c.terminal && p c.op &&
      !((t.spec.map fun sp => sp.sends.any fun h => slotIx h.xid == k).getD false)

/-- What `fence.eng`, `fence.moon`, `fence.all` (0, 1, 2) wait for has finished (R297). -/
def Tile.fenceDone (t : Tile) (kind : Nat) : Bool :=
  (kind == 1 || (!t.busy SlotOp.fenced && t.mat.arr.isEmpty && t.mat.wgt.isEmpty && t.mat.wide.isEmpty)) &&
    (kind == 0 || !t.busy SlotOp.moonOp) &&
    (kind != 2 || (t.regs.flight.isEmpty && t.regs.loads.all fun l => l.write.isNone))

end Sys2Proof.Machine
end

