-- ==== Sys2Proof/Machine/Ctl.lean ====
section
/-!
DEFINITION. K-slot instructions: transfers, loops, formats, control registers, fences, traps (R281-R301, R314).
-/

namespace Sys2Proof.Machine

/-! ### Control registers (R145-R147) -/

/-- `feat0` under a pin (R146). -/
def feat0 (pin : Nat) : Nat := if 3 ≤ pin then 0xFFF else if pin = 2 then 0x01F else 0x001

/-- `chtab`: the valid channel entries (R145). -/
def Tile.chtab (t : Tile) : W64 :=
  BitVec.ofNat 64 (packLanes 1 ((List.finRange 64).map fun k => if t.msg.chan[k].v then 1 else 0))

/-- The control register numbered `n` of a tile, as `csrr` and RDCSR read it. -/
def State.csrRead (s : State) (k : Nat) (n : Nat) : W64 :=
  let t := s.tile k
  let c := t.csr
  match n with
  | 0x000 => 3
  | 0x001 => BitVec.ofNat 64 (feat0 c.isapin.toNat)
  | 0x002 => BitVec.ofNat 64 (3 + 16 * Config.stepping.toNat + 1024 * 2 ^ 16)
  | 0x003 => (s.rankOf k).setWidth 64
  | 0x004 => c.fmt.setWidth 64
  | 0x005 => if c.chk then 1 else 0
  | 0x006 => c.isapin.setWidth 64
  | 0x007 => c.eagerlim.setWidth 64
  | 0x008 => c.hampbase.setWidth 64
  | 0x009 => c.hampsize.setWidth 64
  | 0x00A => c.swapbase.setWidth 64
  | 0x00B => c.ulivec
  | 0x00C => c.cbrto.setWidth 64
  | 0x00D => t.specst
  | 0x00E => c.rowprog.setWidth 64
  | 0x010 => c.cause.setWidth 64
  | 0x011 => c.epc.setWidth 64
  | 0x012 => c.tval
  | 0x013 => s.cyc t
  | 0x014 => BitVec.ofNat 64 s.wclk
  | 0x015 => t.chtab
  | 0x016 => c.xbase.setWidth 64
  | n => if 0x20 ≤ n ∧ n < 0x28 then c.gm[Fin.ofNat 8 n] else 0

/-- Whether a value of `fmt` has an atype and a wtype of its lists (R145). -/
def fmtOk (v : BitVec 11) : Bool :=
  let a := fld v.toNat 0 4
  let w := fld v.toNat 4 4
  (a == 2 || a == 3 || a == 4) && (w == 2 || w == 3 || w == 4 || w == 0xD || w == 0xE)

/-- A write of `fmt`: it waits four issue cycles (R160). -/
def State.writeFmt (s : State) (opc : Nat) (x : W64) (rsvOk : Bool) : Except Stop State := do
  s.noSpec
  check (!s.t.thr.inHandler) (s.context opc)
  check (rsvOk && fmtOk (x.setWidth 11)) (.trap .illegal x)
  return s.modT fun t => { t with csr := { t.csr with fmtPend := some (x.setWidth 11, 4) } }

/-- A write of another control register (R145, R149). Read-only registers and reserved bits ignore it (R5, R6). -/
def State.writeCsr (s : State) (n : Nat) (x : W64) : Except Stop State := do
  check (!(s.t.isSpec && (n == 5 || n == 7 || n == 0xB || n == 0xC))) (.stall 4)
  return s.modT fun t =>
    let c := t.csr
    { t with csr := match n with
      | 0x005 => { c with chk := x.getLsbD 0 }
      | 0x007 =>
        let v := fld x.toNat 0 15
        if 256 ≤ v ∧ v ≤ 16384 then { c with eagerlim := BitVec.ofNat 15 v } else c
      | 0x00B => { c with ulivec := x &&& 0x1FFC1#64 }
      | 0x00C => if fld x.toNat 0 32 = 0 then c else { c with cbrto := x.setWidth 32 }
      | _ => c }

/-- `fmt` takes effect when its delay has run out (R160). -/
def execFmtDelayExpire (s : State) : Host.Outcome State Fault Refusal :=
  .next (s.modT fun t =>
    match t.csr.fmtPend with
    | some (v, 0) => { t with csr := { t.csr with fmt := v, fmtPend := none } }
    | _ => t)

/-! ### The instructions -/

def execNop (_a : Attr) (s : State) : Host.Outcome State Fault Refusal := finish s (.ok s)

def execBr (_a : Attr) (target : BitVec 17) (s : State) : Host.Outcome State Fault Refusal :=
  finish s (s.jump target.toNat)
def execBrIndirect (_a : Attr) (sa : Reg) (s : State) : Host.Outcome State Fault Refusal :=
  finish s (s.jump (s.rdS sa).toNat)
def execBz (_a : Attr) (sa : Reg) (target : BitVec 17) (s : State) : Host.Outcome State Fault Refusal :=
  finish s (if s.rdS sa = 0 then s.jump target.toNat else .ok s)
def execBnz (_a : Attr) (sa : Reg) (target : BitVec 17) (s : State) : Host.Outcome State Fault Refusal :=
  finish s (if s.rdS sa ≠ 0 then s.jump target.toNat else .ok s)
def execBm (_a : Attr) (cc : BmCc) (w : MWid) (ma : Reg) (target : BitVec 17) (s : State) :
    Host.Outcome State Fault Refusal :=
  finish s (if bmCond cc w (s.rdM ma) then s.jump target.toNat else .ok s)

/-- The address of the bundle after the current one (R283). -/
def State.link (s : State) : W64 := BitVec.ofNat 64 (s.t.nextAddr s.t.thr.pc.toNat)

def execCall (a : Attr) (d : Reg) (target : BitVec 17) (s : State) : Host.Outcome State Fault Refusal :=
  finish s do
    let s1 ← s.wrS a 1 d s.link
    s1.jump target.toNat
def execCallIndirect (a : Attr) (d sa : Reg) (s : State) : Host.Outcome State Fault Refusal :=
  finish s do
    let s1 ← s.wrS a 1 d s.link
    s1.jump (s.rdS sa).toNat
def execRet (_a : Attr) (sa : Reg) (s : State) : Host.Outcome State Fault Refusal :=
  finish s (s.jump (s.rdS sa).toNat)

def execLoop (_a : Attr) (len : BitVec 12) (count : BitVec 24) (s : State) : Host.Outcome State Fault Refusal :=
  finish s do
    s.loopChecks len.toNat
    return s.openLoop len.toNat (count.setWidth 32)
def execLoopScalar (_a : Attr) (len : BitVec 12) (sc : Reg) (s : State) : Host.Outcome State Fault Refusal :=
  finish s do
    s.loopChecks len.toNat
    return s.openLoop len.toNat ((s.rdS sc).setWidth 32)
def execLoopQ1 (_a : Attr) (len : BitVec 12) (s : State) : Host.Outcome State Fault Refusal :=
  finish s do
    s.loopChecks len.toNat
    let s ← s.popQ1
    return s.openLoop len.toNat ((s.rdS (.q 1)).setWidth 32)

def execLstr (_a : Attr) (d sa : Reg) (s : State) : Host.Outcome State Fault Refusal :=
  finish s (s.bindStride d ((s.rdS sa).setWidth 32))
def execLstrImm (_a : Attr) (d : Reg) (imm : BitVec 12) (s : State) : Host.Outcome State Fault Refusal :=
  finish s (s.bindStride d (imm.signExtend 32))

/-- `lbrk` under a condition (R289). -/
def State.lbrkIf (s : State) (c : Bool) : Except Stop State := do
  check (s.t.loops.depth != 0) s.t.depthTrap
  return if c then s.breakLoop else s

def execLbrk (_a : Attr) (s : State) : Host.Outcome State Fault Refusal := finish s (s.lbrkIf true)
def execLbrkZ (_a : Attr) (sa : Reg) (s : State) : Host.Outcome State Fault Refusal :=
  finish s (s.lbrkIf (s.rdS sa == 0))
def execLbrkNz (_a : Attr) (sa : Reg) (s : State) : Host.Outcome State Fault Refusal :=
  finish s (s.lbrkIf (s.rdS sa != 0))

def execFmt (_a : Attr) (sa : Reg) (s : State) : Host.Outcome State Fault Refusal :=
  finish s (s.writeFmt 0x0C (s.rdS sa) (fld (s.rdS sa).toNat 11 53 == 0))
def execFmtImm (_a : Attr) (v : BitVec 11) (s : State) : Host.Outcome State Fault Refusal :=
  finish s (s.writeFmt 0x0C (v.setWidth 64) true)

def execCsrr (a : Attr) (d : Reg) (n : BitVec 12) (s : State) : Host.Outcome State Fault Refusal :=
  finish s (s.wrS a 1 d (s.csrRead s.cur n.toNat))
def execCsrw (_a : Attr) (n : BitVec 12) (sa : Reg) (s : State) : Host.Outcome State Fault Refusal :=
  finish s (s.writeCsr n.toNat (s.rdS sa))
def execCsrwFmt (_a : Attr) (sa : Reg) (s : State) : Host.Outcome State Fault Refusal :=
  finish s (s.writeFmt 0x11 (s.rdS sa) true)
def execCsrwEagerlim (_a : Attr) (sa : Reg) (s : State) : Host.Outcome State Fault Refusal :=
  finish s (s.writeCsr 0x007 (s.rdS sa))
def execCsrwCbrto (_a : Attr) (sa : Reg) (s : State) : Host.Outcome State Fault Refusal :=
  finish s (s.writeCsr 0x00C (s.rdS sa))

/-- A fence holds its bundle until what it names has finished (R297). -/
def State.fence (s : State) (kind : Nat) : Except Stop State := do
  check (s.t.iss.clear || s.t.fenceDone kind) (.stall 0)
  return s

def execFenceEng (_a : Attr) (s : State) : Host.Outcome State Fault Refusal := finish s (s.fence 0)
def execFenceMoon (_a : Attr) (s : State) : Host.Outcome State Fault Refusal := finish s (s.fence 1)
def execFenceAll (_a : Attr) (s : State) : Host.Outcome State Fault Refusal := finish s (s.fence 2)

/-- `trap` (R298): the trap SW_TRAP; `step` lets the other ops of the bundle issue. -/
def execTrap (_a : Attr) (code : BitVec 12) (s : State) : Host.Outcome State Fault Refusal :=
  finish s do
    s.noSpec
    .error (.trap .swTrap (code.setWidth 64))

/-- Registers s48-s63 change banks (R136). -/
def Tile.swapBank (t : Tile) : Tile :=
  { t with regs := { t.regs with
      s := (List.finRange 16).foldl (fun v i => v.set (48 + i.val) t.regs.shadow[i]) t.regs.s
      shadow := Vector.ofFn fun i : Fin 16 => t.regs.s[48 + i.val] } }

/-- Whether an `lrnd` that has issued has still to write its register. -/
def Tile.rounds (t : Tile) : Bool := t.mat.wide.any fun p => match p.op with
  | .lrnd _ _ _ d => d.isSome
  | _ => false

/-- `uliret` (R136, R301): every write in flight lands, that of an `lrnd` when it has run, the thread's s48-s63 come back, and flow
resumes at the interrupted bundle 3 cycles later, whose pdist counts from there (R186, log 18). -/
def execUliret (_a : Attr) (s : State) : Host.Outcome State Fault Refusal :=
  finish s do
    check s.t.thr.inHandler (s.context 0x0D)
    check (!s.t.rounds) (.stall 0)
    return s.modT fun t =>
      let t := t.landAll.swapBank
      { t with
        thr := { t.thr with inHandler := false, pc := t.thr.uliRet, base := s.now + 2 }
        iss := { t.iss with moved := true } }

/-- The oldest pending interrupt: the slot whose completion is earliest, the lowest of equals (R135). -/
def Tile.oldestUli (t : Tile) : Option (Fin 64 × Nat) :=
  (List.finRange 64).foldl (fun m k =>
    match t.cpl[k].uliAt, m with
    | some c, some (_, b) => if c < b then some (k, c) else m
    | some c, none => some (k, c)
    | none, _ => m) none

/-- Whether an interrupt is taken at this bundle boundary (R136). -/
def Tile.uliDue (t : Tile) (now : Nat) : Option (Fin 64) :=
  if t.csr.ulivec.getLsbD 0 && !t.thr.inHandler && t.spec.isNone then
    match t.oldestUli with
    | some (k, c) => if c + 2 ≤ now then some k else none
    | none => none
  else none

/-- ULI_ENTRY (R136): writes in flight land, s48-s63 change to their shadow bank, which receives the xid, the status
and the interrupted address, and the thread continues at the handler after 3 cycles. The entry is the observation of
the transfer (R104). -/
def execUliEntry (s : State) : Host.Outcome State Fault Refusal :=
  match s.t.uliDue s.now with
  | none => .next s
  | some k =>
    let c := s.t.cpl[k]
    if c.nanMis then .next (s.takeTrap s.cur .fmtMismatch ((mkXid k c.seq).setWidth 64))
    else
      .next (s.modT fun t =>
        let t := t.landAll.swapBank
        let st := c.status
        let handler := fld t.csr.ulivec.toNat 6 11 * 64
        let r := (((t.regs.s.set 48 ((mkXid k c.seq).setWidth 64)).set 49 (st.setWidth 64)).set 50
          ((st >>> 64).setWidth 64)).set 51 (t.thr.pc.setWidth 64)
        { t with
          regs := { t.regs with s := r }
          cpl := t.cpl.set k { c with uliAt := none }
          thr := { t.thr with
            inHandler := true
            tbar := none
            creditSince := none
            uliRet := t.thr.pc
            pc := if t.targetOk handler then BitVec.ofNat 26 handler else t.thr.pc
            badTarget := if t.targetOk handler then none else some t.thr.pc
            base := s.now + 2
            drain := true } })

/-- `eret` leaves the supervisor's handler (R314). -/
def execEret (_a : Attr) (sa : Reg) (s : State) : Host.Outcome State Fault Refusal :=
  finish s do
    s.noSpec
    check (isSupervisor s.cur && s.t.thr.svHandler) (s.context 0x1D)
    let s1 := s.transfer (s.rdS sa).toNat
    return s1.modT fun t => { t with thr := { t.thr with svHandler := false } }

end Sys2Proof.Machine
end

