-- ==== Sys2Proof/Machine/Jobs.lean ====
section
/-!
DEFINITION. Moon requests (R43): their headers and pieces, and the requests that units of the module send of their own: page-in
engines (R24), placement and resumption (R351, R377), save images (R375), routed rows (R358), spares (R371).
-/

namespace Sys2Proof.Machine

/-! ### Headers and pieces (R43, R217) -/

/-- The bytes of a request's header (R43). -/
def mreqHeader (op : Nat) (phys : Bool) (asid : Byte) (len addr : Nat) (reply : Rank) (xid : W16) (chunk : Nat) :
    List Byte :=
  bytesOf (op + 16 * phys.toNat + 2 ^ 8 * asid.toNat + 2 ^ 16 * (len - 1) + 2 ^ 64 * addr + 2 ^ 128 * reply.toNat +
    2 ^ 160 * xid.toNat + 2 ^ 176 * chunk) 32

/-- The pieces of [va, va + len) from offset `off` of the transfer up: each ends 4096 bytes on, at a 64 KiB boundary of the
address, or at the end. -/
def cutPieces (moon : Rank) (va len off : Nat) : Nat → List Piece
  | 0 => []
  | fuel + 1 =>
    if len = 0 then []
    else
      let n := min (min 4096 len) (65536 - va % 65536)
      ⟨off, n, moon, va, true, none⟩ :: cutPieces moon (va + n) (len - n) (off + n) fuel

/-- More pieces than any transfer of 1.5 MiB has. -/
def cutFuel : Nat := 1000

/-- The requests of a transfer's pieces leave in ascending offset, each with its ordinal (R43). -/
def State.sendPieces (s : State) (owner : Rank) (asid : Byte) (xid : W16) (op : Nat) (phys : Bool)
    (body : Piece → List Byte) (ps : List Piece) : State :=
  (ps.zipIdx).foldl (fun s p =>
    s.send (mkPacket owner p.1.moon 0x10 0 xid 0 0
      (mreqHeader op phys asid p.1.len (p.1.addr % 2 ^ 64) owner xid p.2 ++ body p.1))) s

/-- The reply code of a piece that was abandoned under R73. -/
def abandoned : Byte := 0xFF

/-! ### Requests of the module's units -/

/-- Every request has its answer. -/
def Job.done (j : Job) : Bool := j.pieces.all fun p => p.reply.isSome

/-- The first piece that faulted: its reason and offset. -/
def Job.fault (j : Job) : Option (Nat × Nat) :=
  (j.pieces.find? fun p => p.reply != some 0 && p.reply.isSome).map fun p => (((p.reply).getD 0).toNat, p.off)

/-- What the requests brought. -/
def Job.bytes (j : Job) : List Byte := j.data.flatten

/-- Whether a job belongs to a step of a unit. -/
def Job.isOf (j : Job) (unit : Nat) (ev : Instr) : Bool := !j.dead && j.unit == unit && j.ev == ev

/-- The jobs of a step. -/
def State.jobsOf (s : State) (unit : Nat) (ev : Instr) : List Job := s.jobs.filter fun j => j.isOf unit ev

/-- A unit sends requests under a transfer id of their own. When the last is answered, its step is due; `tag` is its own mark. -/
def State.startJob (s : State) (owner : Rank) (unit : Nat) (ev : Instr) (tag : Nat) (op : Nat) (phys : Bool) (asid : Byte)
    (body : Piece → List Byte) (ps : List Piece) : State :=
  let xid := s.nextJob
  let j : Job := ⟨owner, xid, unit, ev, tag, ps, ps.map fun _ => [], false⟩
  ({ s with jobs := s.jobs ++ [j], nextJob := s.nextJob + 1 } : State).sendPieces owner asid xid op phys body ps

/-- The jobs of a step are over: those with answers to come stay to receive them, and nothing follows. -/
def State.endJobs (s : State) (unit : Nat) (ev : Instr) : State :=
  { s with jobs := (s.jobs.map fun j => if j.isOf unit ev then { j with dead := true } else j).filter fun j => !(j.dead && j.done) }

/-- The answer to one request of a unit, none where the transfer id is no job's. -/
def State.jobAnswer (s : State) (owner : Rank) (xid : W16) (i : Nat) (code : Byte) (data : List Byte) : Option State :=
  match s.jobs.find? fun j => j.owner == owner && j.xid == xid with
  | none => none
  | some j =>
    some (match j.pieces[i]? with
      | none => s
      | some p =>
        if p.reply.isSome then s
        else
          let j' := { j with pieces := j.pieces.set i { p with reply := some code }, data := j.data.set i data }
          let s1 := { s with jobs := (s.jobs.map fun x => if x.owner == owner && x.xid == xid then j' else x).filter fun x =>
            !(x.dead && x.done) }
          if j'.done && !j'.dead then s1.schedule s1.now j.unit j.ev else s1)

/-- A read from a moon: whether its address is physical, the address space, the pieces. -/
abbrev MoonRead := Bool × Byte × List Piece

/-- The reads of one rank, one after another: what they have brought once all are answered. Their jobs' marks count from `n`. -/
def State.readOn (s : State) (owner : Rank) (unit : Nat) (ev : Instr) : Nat → List MoonRead → State × Option (List (List Byte))
  | _, [] => (s, some [])
  | n, x :: rest =>
    match (s.jobsOf unit ev).find? fun j => j.owner == owner && j.tag == n with
    | some j =>
      if !j.done || j.fault.isSome then (s, none)
      else
        let y := State.readOn s owner unit ev (n + 1) rest
        (y.1, y.2.map fun l => j.bytes :: l)
    | none =>
      if x.2.2.isEmpty then
        let y := State.readOn s owner unit ev (n + 1) rest
        (y.1, y.2.map fun l => [] :: l)
      else (s.startJob owner unit ev n 0 x.1 x.2.1 (fun _ => []) x.2.2, none)

/-- The reads of several ranks, side by side: what they have brought once all are answered. -/
def State.readAll (s : State) (unit : Nat) (ev : Instr) (reads : Rank → List MoonRead) :
    List Rank → State × Option (List (Rank × List (List Byte)))
  | [] => (s, some [])
  | r :: rest =>
    let x := s.readOn r unit ev 0 (reads r)
    let y := State.readAll x.1 unit ev reads rest
    (y.1, match x.2, y.2 with
      | some a, some b => some ((r, a) :: b)
      | _, _ => none)

/-- The first fault among a step's jobs. A request abandoned by the fabric (R73) counts as one without a route: DESIGN CHOICE (log 44). -/
def State.jobFault (s : State) (unit : Nat) (ev : Instr) : Option Nat :=
  (s.jobsOf unit ev).findSome? fun j => j.fault.map fun f => if f.1 = abandoned.toNat then 0x82 else f.1

end Sys2Proof.Machine
end

