-- ==== Sys2Proof/Machine/Shapes.lean ====
section
/-!
DEFINITION. Shape records (R127-R130): their fields, elements in linear order, spans and checks.
-/

namespace Sys2Proof.Machine

/-- The two fields of a dimension that are unused must be 0 (R127). -/
def unusedZero (x k ndm1 : Nat) : Bool :=
  decide (k ≤ ndm1) || (fld x (32 + 16 * k) 16 == 0 && fld x (96 + 32 * k) 32 == 0)

/-- A shape record decoded from its 32 bytes; `rsv` says that row 2 of R129 refuses it. -/
def Shape.of (x : Nat) : Shape where
  base := fld x 0 20
  etype := BitVec.ofNat 4 (fld x 20 4)
  ndm1 := fld x 24 2
  pad := fld x 26 1 == 1
  rsv := fld x 27 5 != 0 || decide (0xD ≤ fld x 20 4) ||
    !((List.range 4).all fun k => unusedZero x k (fld x 24 2))
  ext := Vector.ofFn fun k : Fin 4 => fld x (32 + 16 * k.val) 16
  str := Vector.ofFn fun k : Fin 4 => signExtend (fld x (96 + 32 * k.val) 32) 32
  padval := BitVec.ofNat 32 (fld x 224 32)

/-- The element size of a record. -/
def Shape.size (r : Shape) : Nat := etypeSize r.etype.toNat

/-- The extent of a dimension, 1 for an unused one (R128). -/
def Shape.extent (r : Shape) (k : Fin 4) : Nat := if k.val ≤ r.ndm1 then r.ext[k] else 1

/-- The number of elements (R128). -/
def Shape.count (r : Shape) : Nat := r.extent 0 * r.extent 1 * r.extent 2 * r.extent 3

/-- The address of the element with given indices (R128). -/
def Shape.at (r : Shape) (i0 i1 i2 i3 : Nat) : Int :=
  r.base + i0 * r.str[0] + i1 * r.str[1] + i2 * r.str[2] + i3 * r.str[3]

/-- The indices of the element with an ordinal, dimension 0 fastest. -/
def Shape.index (r : Shape) (o : Nat) : Nat × Nat × Nat × Nat :=
  let a := o / r.extent 0
  let b := a / r.extent 1
  (o % r.extent 0, a % r.extent 1, b % r.extent 2, b / r.extent 2)

/-- The address of the element with an ordinal. -/
def Shape.addr (r : Shape) (o : Nat) : Int :=
  let i := r.index o
  r.at i.1 i.2.1 i.2.2.1 i.2.2.2

/-- The least element address, and the end of the greatest element (R128). -/
def Shape.spanLo (r : Shape) : Int :=
  (List.finRange 4).foldl (fun m k => m + min 0 (((r.extent k : Int) - 1) * r.str[k])) r.base
def Shape.spanHi (r : Shape) : Int :=
  (List.finRange 4).foldl (fun m k => m + max 0 (((r.extent k : Int) - 1) * r.str[k])) (r.base : Int) + r.size

/-- Whether a range leaves the scratchpad or reaches the hamper. -/
def Tile.outside (t : Tile) (a n : Int) : Bool :=
  decide (a < 0) || decide (0x100000 < a + n) || t.hitsHamper a n

/-- Row 3 of R129: the first offending address, in linear order; where only the span reaches the hamper, its base. -/
def Tile.spanBad (t : Tile) (r : Shape) : Option Int :=
  if r.count = 0 || !t.outside r.spanLo (r.spanHi - r.spanLo) then none
  else
    some ((((List.range r.count).find? fun o => t.outside (r.addr o) r.size).map r.addr).getD
      t.csr.hampbase.toNat)

/-- Row 4 of R129: the first address in linear order that is no multiple of the element size. -/
def Shape.alignBad (r : Shape) : Option Int :=
  if r.count = 0 then none
  else if r.base % r.size ≠ 0 then some r.base
  else
    ((List.finRange 4).find? fun k => decide (1 < r.extent k) && r.str[k] % r.size != 0).map fun k =>
      (r.base : Int) + r.str[k]

/-- Row 1 of R129: the address of a record or list, aligned and inside the scratchpad. -/
def recAddrOk (a : Nat) (al n : Nat) : Except Stop Unit := do
  check (a % al == 0) (.trap .align (BitVec.ofNat 64 a))
  check (decide (a + n ≤ 0x100000)) (.trap .scratchRange (BitVec.ofNat 64 a))

/-- Row 1 for a shape record, which must not reach the hamper either (R93). -/
def Tile.recordOk (t : Tile) (a : Nat) : Except Stop Unit := do
  recAddrOk a 16 32
  check (!t.hitsHamper a 32) (.trap .scratchRange (BitVec.ofNat 64 a))

/-- The pad value of a record as the bytes of one element (R130). -/
def Shape.padBytes (r : Shape) : List Byte :=
  bytesOf (if r.etype = 8 then (r.padval.signExtend 64).toNat else r.padval.toNat) r.size

end Sys2Proof.Machine
end

