-- ==== Sys2Proof/Machine/Message.lean ====
section
/-!
DEFINITION. Matched messages (R83-R104, R213-R216) and the observation of transfers (R226-R229).
-/

namespace Sys2Proof.Machine

/-! ### Envelopes (R83) -/

/-- An envelope as its 32 bytes. -/
def Env.bytes (e : Env) : List Byte :=
  bytesOf (e.src.toNat + 2 ^ 32 * e.tag.toNat + 2 ^ 64 * e.group.toNat + 2 ^ 80 * e.etype.toNat + 2 ^ 84 * e.nan.toNat +
    2 ^ 85 * e.rdv.toNat + 2 ^ 86 * e.sync.toNat + 2 ^ 96 * e.len + 2 ^ 128 * e.dst.toNat + 2 ^ 160 * e.sxid.toNat) 32

/-- The envelope that 32 bytes hold; none where it is corrupted. -/
def Env.of (bs : List Byte) : Option Env :=
  let x := ofBytes (bs.take 32)
  if fld x 87 9 != 0 || decide (1048576 < fld x 96 32) || fld x 80 4 == 15 || fld x 176 80 != 0 then none
  else
    some ⟨BitVec.ofNat 32 x, BitVec.ofNat 32 (fld x 32 32), BitVec.ofNat 16 (fld x 64 16), BitVec.ofNat 4 (fld x 80 4),
      fld x 84 1 == 1, fld x 85 1 == 1, fld x 86 1 == 1, fld x 96 32, BitVec.ofNat 32 (fld x 128 32),
      BitVec.ofNat 16 (fld x 160 16)⟩

/-- The packet that posts a message: EAGER with its data, or RTS (R86). -/
def Env.packet (e : Env) (data : List Byte) : Packet :=
  mkPacket e.src e.dst (if e.rdv then 1 else 0) e.group e.sxid 0 0 (e.bytes ++ if e.rdv then [] else data)

/-- The predicate of R87. -/
def envMatches (src tag tmask : W32) (group : W16) (e : Env) : Bool :=
  e.group == group && (src == BitVec.allOnes 32 || e.src == src) && (e.tag ^^^ tag) &&& tmask == 0

/-! ### Replies and refusals (R86, R97) -/

/-- A control packet back to the sender of a message. -/
def State.replyTo (s : State) (e : Env) (kind aux off : Nat) : State :=
  s.send (mkPacket e.dst e.src kind e.group e.sxid aux off [])

/-- A message is refused. One refused STOPPED or SUSPENDED keeps later messages of its source out until it is accepted
(R90). -/
def State.refuseMsg (s : State) (e : Env) (reason : Nat) : State :=
  let s := s.replyTo e 0x08 reason 0
  if reason ≤ 2 then
    s.modT fun t =>
      if t.msg.refused.contains (e.src, e.sxid) then t
      else { t with msg := { t.msg with refused := t.msg.refused ++ [(e.src, e.sxid)] } }
  else s

/-- Whether an uncorrectable error in one of its tables has stopped the message engine (R372, R373). -/
def Tile.engineStopped (t : Tile) : Bool :=
  t.msg.dead || t.bad.any fun x => decide (0x300000 ≤ x) && decide (x < 0x300006)

/-- Whether the engines of a tile act: no pre-emption has frozen them, and no error has stopped the message engine (R372, R374). -/
def Tile.engineRuns (t : Tile) : Bool := t.thr.preempt == .none && !t.engineStopped

/-- Whether a thread was expelled from a group (R144, R339). -/
def Tile.expelledFrom (t : Tile) (group : W16) : Bool :=
  (List.finRange 8).any fun k => (t.csr.gm[k]).getLsbD 17 && gmGroup t.csr.gm[k] == group

/-- Why a tile refuses an envelope, if it does: an expelled member's group first (R339), then the groups of suspended
members (R376), then the state of the engine and of the thread (R97, R372). While messages of its source that were refused are awaited,
only one of those is taken: a sender sends none but the oldest again (R90, R97). -/
def Tile.refusal (t : Tile) (e : Env) : Option Nat :=
  if t.expelledFrom e.group then some 3
  else if t.msg.filter.contains e.group then some 2
  else if t.engineStopped then some 1
  else
    match t.thr.st with
    | .none | .halted => some 3
    | .stopped => some 1
    | .suspended => some 2
    | .running =>
      if t.thr.preempt != .none then some 2
      else if (t.msg.refused.any fun r => r.1 == e.src) && !t.msg.refused.contains (e.src, e.sxid) then some 1 else none

/-! ### Completing receives (R98, R99, R104) -/

/-- A matched receive completes: DONE, or TRUNC where its capacity is short, with the message's true length. -/
def State.completeRecv (s : State) (xid : W16) (e : Env) (n : Nat) : State :=
  let mis := e.etype != 0 && e.nan != s.t.csr.fmt.getLsbD 8
  (s.modSlot s.cur xid fun c => { c with nanMis := mis }).complete s.cur xid (if n = e.len then 1 else 3) (some e.len) e.src

/-- Bytes of a message written to its receive's buffer. -/
def State.deliver (s : State) (buf : Nat) (bs : List Byte) (marks : List Nat := []) : State :=
  s.modT fun t => (t.spmWrite false buf bs).markBad false buf bs.length marks

/-- A receive has matched a message: its geometry is that of the bytes it takes, and its length is the message's (R107, R108). -/
def State.matched (s : State) (xid : W16) (e : Env) (n : Nat) : State :=
  (s.fixGeom s.cur xid n).modSlot s.cur xid fun c => { c with length := BitVec.ofNat 32 e.len }

/-- A receive has matched an RTS: it completes at once where nothing is pulled, else a PULL asks for the bytes (R96). -/
def State.startPull (s : State) (xid : W16) (e : Env) (n : Nat) : State :=
  if n = 0 then (s.completeRecv xid e 0).replyTo e 0x07 0 0
  else
    (s.modT fun t => { t with msg := { t.msg with pulls := t.msg.pulls ++ [Pulling.mk e xid n 0] } }).replyTo e 0x02 0 n

/-! ### The hamper (R92-R95) -/

/-- Whether granules [g, g + n) are free. -/
def MsgEng.granFree (m : MsgEng) (g n : Nat) : Bool :=
  !(m.hamper.any fun h => h.ngran != 0 && n != 0 && overlaps g n h.gran h.ngran)

/-- The lowest granule where `n` contiguous granules fit (R92). -/
def Tile.findGran (t : Tile) (n : Nat) : Option Nat :=
  let total := t.csr.hampsize.toNat / 64
  if n = 0 then some 0
  else (List.range total).find? fun g => decide (g + n ≤ total) && t.msg.granFree g n

def granulesOf (len : Nat) : Nat := (len + 63) / 64

/-- A held envelope is appended to the hamper. -/
def State.hold (s : State) (h : HeldEnv) : State :=
  s.modT fun t => { t with msg := { t.msg with hamper := t.msg.hamper ++ [h] } }

/-- An arrival that no posted receive envMatches (R94). -/
def State.holdArrival (s : State) (e : Env) (data : List Byte) (marks : List Nat) : State :=
  let t := s.t
  if 256 ≤ t.msg.hamper.length then s.refuseMsg e 4
  else if e.rdv then (s.hold ⟨.rts, e, none, 0, 0, 0, none, 0⟩).replyTo e 0x06 0 0
  else
    match t.findGran (granulesOf e.len) with
    | some g =>
      ((s.hold ⟨.eager, e, none, g, granulesOf e.len, e.len, none, 0⟩).deliver (t.csr.hampbase.toNat + 64 * g) data
        marks).replyTo e 0x04 0 0
    | none => (s.hold ⟨.rts, e, none, 0, 0, 0, none, 0⟩).replyTo e 0x05 0 0

/-- An envelope enters matching (R89): the earliest-posted matching receive takes it, else the hamper does. -/
def State.enterMatching (s : State) (e : Env) (data : List Byte) (marks : List Nat) : State :=
  match s.t.msg.posted.find? fun r => envMatches r.src r.tag r.tmask r.group e with
  | none => s.holdArrival e data marks
  | some r =>
    let n := min e.len r.cap
    let s := s.modT fun t => { t with msg := { t.msg with posted := t.msg.posted.erase r } }
    let s := s.matched r.xid e n
    if e.rdv then s.startPull r.xid e n
    else ((s.deliver r.buf (data.take n) marks).completeRecv r.xid e n).replyTo e 0x04 0 0

/-- A message is taken: it is awaited no longer, nor is any of its source that was refused before it. -/
def Tile.acceptFrom (t : Tile) (e : Env) : Tile :=
  let later := ((t.msg.refused.filter fun r => r.1 == e.src).dropWhile fun r => r.2 != e.sxid).tail
  { t with msg := { t.msg with refused := t.msg.refused.filter fun r => r.1 != e.src || later.contains r } }

/-- The engine takes an envelope, with its data when eager (R83, R94, R97, R103). -/
def State.tileEnvelope (s : State) (p : Packet) : State :=
  match Env.of p.payload with
  | none =>
    let s := s.send (mkPacket p.dst p.src 0x08 p.group p.xid 5 0 [])
    s.reportEvent (dieOf s.cur) p.dst 0x2E p.src.toNat
  | some e =>
    let gone := s.sched.saves.any fun v => v.rank == s.rankOf s.cur && v.tile.expelledFrom e.group
    match if gone then some 3 else s.t.refusal e with
    | some r => s.refuseMsg e r
    | none =>
      if keyOf e.src % 1024 = 1023 then
        if 16 ≤ s.t.msg.ingress.length then s.refuseMsg e 1
        else s.modT fun t =>
          let t := t.acceptFrom e
          { t with msg := { t.msg with ingress := t.msg.ingress ++ [e] } }
      else (s.modT fun t => t.acceptFrom e).enterMatching e (p.payload.drop 32) (packetBad p 2)

/-- An arrival is taken in this cycle (R89). -/
def State.takes (s : State) : State := s.modT fun t => { t with msg := { t.msg with tookAt := some s.now } }

/-- An envelope arrives at a tile: it is taken at once, or waits while another arrival is taken in this cycle or waits (R89). -/
def State.tileArrival (s : State) (p : Packet) : State :=
  let m := s.t.msg
  if m.tookAt == some s.now || !m.inbox.isEmpty || (!m.released.isEmpty && s.t.engineRuns) then
    s.modT fun t => { t with msg := { t.msg with inbox := t.msg.inbox ++ [{ p with sv := false }] } }
  else s.takes.tileEnvelope p

/-- The engine of the current tile takes the arrival of this cycle: a host envelope that `hwin` released, ahead of those of the
network (R89, R294). -/
def State.takeArrival (s : State) : State :=
  let m := s.t.msg
  match m.released with
  | e :: r =>
    if s.t.engineRuns then
      (s.takes.modT fun t => { t with msg := { t.msg with released := r } }).enterMatching e [] []
    else
      match m.inbox with
      | p :: q => (s.takes.modT fun t => { t with msg := { t.msg with inbox := q } }).tileEnvelope p
      | [] => s
  | [] =>
    match m.inbox with
    | p :: q => (s.takes.modT fun t => { t with msg := { t.msg with inbox := q } }).tileEnvelope p
    | [] => s

/-- `hwin` (R103, R294): every host envelope held at its issue is let into matching, in arrival order. -/
def State.openIngress (s : State) : State :=
  s.modT fun t => { t with msg := { t.msg with ingress := [], released := t.msg.released ++ t.msg.ingress } }

def execHwin (_a : Attr) (s : State) : Host.Outcome State Fault Refusal :=
  finish s do
    s.noSpec
    return s.openIngress

/-- A held message, changed where it stands. -/
def MsgEng.modHeld (m : MsgEng) (h h' : HeldEnv) : MsgEng :=
  { m with hamper := m.hamper.map fun x => if x = h then h' else x }

/-- HAMPER_COPY_DONE (R95): up to 64 bytes of a held eager message have reached its receive's buffer, with their chunk bits; after
the last of them its granules and slot are free and the receive completes. -/
def execHamperCopyDone (xid : W16) (s : State) : Host.Outcome State Fault Refusal :=
  match s.t.msg.hamper.find? fun h => h.taken == some xid with
  | none => .next s
  | some h =>
    if s.t.engineStopped then .next s
    else
      let t := s.t
      let free := s.modT fun t => { t with msg := { t.msg with hamper := t.msg.hamper.erase h } }
      match t.live xid with
      | none => .next free
      | some c =>
        let n := min h.env.len c.x.len
        let m := min 64 (n - h.copied)
        let from_ := t.csr.hampbase.toNat + 64 * h.gran + h.copied
        if (t.badWord from_ m false).isSome then .next (free.complete s.cur xid 2 none (faultDetail 0x85 0))
        else
          let put (s : State) : State :=
            (s.deliver (c.x.buf + h.copied) (t.spmRead false from_ m)).markPrefix s.cur xid (h.copied + m)
          if n ≤ h.copied + m then .next ((put free).completeRecv xid h.env n)
          else
            .next ((put (s.modT fun t => { t with msg := t.msg.modHeld h { h with copied := h.copied + m } })).after 1 s.cur
              (.hamperCopyDone xid))

/-! ### Posting (R88, R214) -/

/-- A receive is posted: the earliest-arrived matching envelope is taken, else it joins the list. -/
def State.postRecv (s : State) (r : Posted) : State :=
  match s.t.msg.hamper.find? fun h =>
      h.kind != .result && h.taken.isNone && envMatches r.src r.tag r.tmask r.group h.env with
  | some h =>
    let n := min h.env.len r.cap
    let s := s.matched r.xid h.env n
    if h.kind = .rts then
      (s.modT fun t => { t with msg := { t.msg with hamper := t.msg.hamper.erase h } }).startPull r.xid h.env n
    else if n = 0 then
      (s.modT fun t => { t with msg := { t.msg with hamper := t.msg.hamper.erase h } }).completeRecv r.xid h.env 0
    else
      (s.modT fun t => { t with msg := t.msg.modHeld h { h with taken := some r.xid } }).after 1 s.cur (.hamperCopyDone r.xid)
  | none =>
    if 256 ≤ s.t.msg.posted.length then s.complete s.cur r.xid 5 none 0
    else s.modT fun t => { t with msg := { t.msg with posted := t.msg.posted ++ [r] } }

/-- The shared checks of R198 on a buffer word and a membership register, with the detail they give. -/
def State.bufChecks (s : State) (b : BufWord) (rsv : Bool) (gm : Option (Fin 8)) : List (Bool × Nat) :=
  [(b.rsvOk && rsv, 0x81), (decide (b.len ≤ 1048576), 0x81), (!outOfSpm b.addr b.len, 0x81),
    (!s.t.hitsHamper b.addr b.len, 0x81),
    ((gm.map fun g => gmJoined s.t.csr.gm[g]).getD true, 0x81)]

/-- `recv` (R214). -/
def execRecv (a : Attr) (gm : Fin 8) (uli : Bool) (d sr sb sm : Reg) (s : State) : Host.Outcome State Fault Refusal :=
  finish s do
    s.noSpec
    let b := BufWord.of (s.rdS sb)
    let m := s.rdS sm
    let r := s.rdS sr
    let g := gmGroup s.t.csr.gm[gm]
    s.engineOp a d .recv b.len uli { Xfer.empty with buf := b.addr, len := b.len, group := g, gm := gm }
      (s.bufChecks b (hiHalf m == 0) (some gm)) fun s xid =>
        s.postRecv ⟨loHalf r, hiHalf r, loHalf m, g, b.addr, b.len, xid⟩

/-- `probe` (R102, R215). -/
def execProbe (a : Attr) (gm : Fin 8) (d sr sm : Reg) (s : State) : Host.Outcome State Fault Refusal :=
  finish s do
    s.noSpec
    let g := s.t.csr.gm[gm]
    let r := s.rdS sr
    let hit := if gmJoined g then s.t.msg.hamper.find? fun h =>
        h.kind != .result && h.taken.isNone && envMatches (loHalf r) (hiHalf r) (loHalf (s.rdS sm)) (gmGroup g) h.env
      else none
    let w : Nat × Nat := match hit with
      | some h => (h.env.src.toNat + 2 ^ 32 * h.env.tag.toNat,
          1 + 2 * h.env.etype.toNat + 32 * h.env.len + (if h.kind = .rts then 2 ^ 26 else 0))
      | none => (0, 0)
    let s1 ← s.wrS a 1 d (BitVec.ofNat 64 w.1)
    s1.wrS a 1 (match d with
      | .s n => .s (n + 1)
      | r => r) (BitVec.ofNat 64 w.2)

/-- `cancel` (R101, R216). -/
def execCancel (a : Attr) (d sx : Reg) (s : State) : Host.Outcome State Fault Refusal :=
  finish s do
    s.noSpec
    let xid : W16 := (s.rdS sx).setWidth 16
    match s.t.live xid with
    | none => s.wrS a 1 d 2
    | some c =>
      if c.op != .recv then s.wrS a 1 d 2
      else
        match s.t.msg.posted.find? fun r => r.xid == xid with
        | some r =>
          let s1 := s.modT fun t => { t with msg := { t.msg with posted := t.msg.posted.erase r } }
          (s1.complete s.cur xid 4 none 0).wrS a 1 d 0
        | none => s.wrS a 1 d 1

/-! ### Sending (R85, R213) -/

/-- The messages that the current engine keeps: a tile's, or the host engine's (R97, R385). -/
def State.keptOf (s : State) : List Kept := if isHostKey s.cur then s.host.kept else s.t.msg.kept

def State.setKept (s : State) (l : List Kept) : State :=
  if isHostKey s.cur then { s with host := { s.host with kept := l } }
  else s.modT fun t => { t with msg := { t.msg with kept := l } }

/-- A message leaves its engine, unless an earlier one to the same destination is kept (R97). -/
def State.emit (s : State) (p : Packet) : State :=
  if s.keptOf.any fun (k : Kept) => k.pkt.dst == p.dst then s.setKept (s.keptOf ++ [Kept.mk p false 0])
  else s.send p

/-- A `send`, `ssend` or `sendr` of a speculative thread is held: the limits of R335. -/
def State.holdRoom (s : State) (len : Nat) : Except Stop Unit :=
  match s.t.spec with
  | some sp =>
    check (sp.wait || (decide (sp.sends.length < 16) && decide (sp.bytes + len ≤ 65536))) (.stall 3)
  | none => .ok ()

/-- A speculative send whose own length could never be held traps SPEC_LIMIT (R363). -/
def State.specLimit (s : State) (len : Nat) : Except Stop Unit :=
  check (!s.t.isSpec || decide (len ≤ 65536)) (.trap .specLimit (BitVec.ofNat 64 len))

/-- A packet held until resolution. -/
def State.holdSend (s : State) (h : HeldSend) : State :=
  s.modT fun t => { t with spec := t.spec.map fun sp => { sp with sends := sp.sends ++ [h] } }

/-- `send` and `ssend` (R213). -/
def State.sendOp (s : State) (a : Attr) (sync : Bool) (t : Ety) (gm : Fin 8) (uli : Bool) (d sr sb : Reg) :
    Except Stop State := do
  let b := BufWord.of (s.rdS sb)
  let r := s.rdS sr
  let dst : Rank := loHalf r
  s.specLimit b.len
  let rdv := sync || decide (s.t.csr.eagerlim.toNat < b.len)
  let checks := s.bufChecks b true (some gm) ++
    [(t == .raw || b.len % etypeSize t.code == 0, 0x81), (destOk dst, 0x82),
      ((rdv && !s.t.isSpec) || !(s.t.badWord b.addr b.len).isSome, 0x85)]
  if (firstFault checks).isNone then s.holdRoom b.len
  let nan := s.t.csr.fmt.getLsbD 8
  let g := gmGroup s.t.csr.gm[gm]
  let src := s.rankOf s.cur
  let spec := s.t.isSpec
  let data := if rdv && !spec then [] else s.t.spmRead spec b.addr b.len
  let x : Xfer := { Xfer.empty with buf := b.addr, len := b.len, peer := dst, tag := hiHalf r, group := g, gm := gm,
                                    hold := if spec then some data else none }
  s.engineOp a d (if sync then .ssend else .send) b.len uli x checks fun s xid =>
    let e : Env := ⟨src, hiHalf r, g, BitVec.ofNat 4 t.code, nan, rdv, sync, b.len, dst, xid⟩
    let s := (s.fixGeom s.cur xid b.len).modXfer s.cur xid fun x => { x with env := some e }
    if spec then s.holdSend ⟨xid, e.packet data, b.len⟩ else s.emit (e.packet data)

def execSend (a : Attr) (t : Ety) (gm : Fin 8) (uli : Bool) (d sr sb : Reg) (s : State) :
    Host.Outcome State Fault Refusal := finish s (s.sendOp a false t gm uli d sr sb)
def execSsend (a : Attr) (t : Ety) (gm : Fin 8) (uli : Bool) (d sr sb : Reg) (s : State) :
    Host.Outcome State Fault Refusal := finish s (s.sendOp a true t gm uli d sr sb)

/-- A kept message is sent again. -/
def State.resend (s : State) (k : Kept) : State :=
  (s.setKept (s.keptOf.map fun (x : Kept) => if x = k then { x with away := true } else x)).send k.pkt

/-- A message to a destination was taken: it is no longer kept, and the next kept one goes at once (R97). -/
def State.unkeep (s : State) (xid : W16) : State :=
  match s.keptOf.find? fun (k : Kept) => k.away && k.pkt.xid == xid with
  | none => s
  | some k =>
    let s := s.setKept (s.keptOf.erase k)
    match s.keptOf.find? fun (q : Kept) => q.pkt.dst == k.pkt.dst with
    | some q => s.resend q
    | none => s

/-- A message was refused STOPPED or SUSPENDED: it is kept in its original order, behind those of its destination that were
refused before it and ahead of those not sent yet, and the oldest is sent again after 1024 cycles (R97). -/
def State.keep (s : State) (xid : W16) (p : Packet) : State :=
  let l := s.keptOf
  let l' :=
    if l.any fun (k : Kept) => k.pkt.xid == xid then
      l.map fun (x : Kept) => if x.pkt.xid == xid then { x with away := false, due := s.now + 1024 } else x
    else
      l.filter (fun (k : Kept) => k.pkt.dst == p.dst && k.due != 0) ++ [Kept.mk p false (s.now + 1024)] ++
        l.filter fun (k : Kept) => !(k.pkt.dst == p.dst && k.due != 0)
  (s.setKept l').schedule (s.now + 1024) s.cur .refusedResend

/-- The message of a send in flight, built again (R97). -/
def Tile.message (t : Tile) (c : Slot) : Option Packet :=
  c.x.env.map fun e => e.packet (match c.x.hold with
    | some h => h
    | none => if e.rdv then [] else t.spmRead false c.x.buf c.x.len)

/-- The oldest kept message of each destination. -/
def oldestKept (l : List Kept) : List Kept :=
  l.foldl (fun acc k => if acc.any fun x => x.pkt.dst == k.pkt.dst then acc else acc ++ [k]) []

/-- REFUSED_RESEND (R97): the oldest kept message of a destination is sent again, unless an error has stopped the engine (R372). -/
def execRefusedResend (s : State) : Host.Outcome State Fault Refusal :=
  .next (if !isHostKey s.cur && s.t.engineStopped then s
    else ((oldestKept s.keptOf).filter fun k => !k.away && decide (k.due ≤ s.now)).foldl State.resend s)

/-! ### What comes back to a sender (R96, R100) -/

/-- A send in flight by its transfer id. -/
def Tile.sendSlot (t : Tile) (xid : W16) : Option Slot :=
  match t.live xid with
  | some c => if (c.op == .send || c.op == .ssend) && !c.terminal then some c else none
  | none => none

/-- The next RDATA piece of [0, n) at or after an offset: its offset and length, at most 4096 bytes within a chunk of the
transfer, those of skipped chunks left out (R96, R376). -/
def nextPiece (skip : W64) (n off : Nat) : Nat → Option (Nat × Nat)
  | 0 => none
  | fuel + 1 =>
    if n ≤ off then none
    else
      let cs := 512 * 2 ^ chunkExp n
      let m := min (min 4096 (n - off)) (cs - off % cs)
      if skip.getLsbD (off / cs) then nextPiece skip n (off + (cs - off % cs)) fuel else some (off, m)

/-- The RDATA packet of one piece. -/
def rdataPacket (e : Env) (off : Nat) (bs : List Byte) : Packet := mkPacket e.src e.dst 0x03 e.group e.sxid 0 off bs

/-- Every RDATA packet of [0, n) (R96). -/
def rdataPieces (e : Env) (bs : Nat → Nat → List Byte) (skip : W64) (n : Nat) : Nat → Nat → List Packet
  | 0, _ => []
  | fuel + 1, off =>
    match nextPiece skip n off 65 with
    | none => []
    | some (o, m) => rdataPacket e o (bs o m) :: rdataPieces e bs skip n fuel (o + m)

/-- A stream sends its next piece, and the one after it follows when the flits of this one have left (R65, R96). A source word with
an uncorrectable error ends the send FAULT (R118). A stream with nothing left to send is over. -/
def State.streamPiece (s : State) (xid : W16) : State :=
  let finish (s : State) : State := s.modT fun t => { t with msg := { t.msg with streams := t.msg.streams.erase xid } }
  match s.t.sendSlot xid with
  | none => finish s
  | some c =>
    match c.x.env, nextPiece c.x.skip c.x.pulled c.x.sent 65 with
    | some e, some (off, m) =>
      if !c.x.streaming then finish s
      else if s.now < c.x.nextAt then s
      else if c.x.hold.isNone && (s.t.badWord (c.x.buf + off) m false).isSome then
        (finish s).complete s.cur xid 2 none (faultDetail 0x85 0)
      else
        let bs : List Byte := match c.x.hold with
          | some h => (h.drop off).take m
          | none => s.t.spmRead false (c.x.buf + off) m
        (s.modXfer s.cur xid fun x => { x with sent := off + m, nextAt := s.now + flitsOf m }).send (rdataPacket e off bs)
    | _, _ => finish s

/-- The engine of the current tile goes on with its streams. -/
def State.streamAll (s : State) : State :=
  if s.t.engineRuns then s.t.msg.streams.foldl State.streamPiece s else s

/-- The REFUSE that answers a PULL. DESIGN CHOICE (log 48): that it answers a PULL, and no message, stands beside its header, in the
model's `ext`. -/
def pullRefused (p : Packet) (reason : Nat) : Packet := { mkPacket p.dst p.src 0x08 p.group p.xid reason 0 [] with ext := 1 }

/-- A PULL reaches the sender: it streams [0, n) from the start, without the chunks that the PULL leaves out (R96, R376). The PULL of a
send that was withdrawn is refused DEST_GONE (R370). -/
def State.tilePull (s : State) (p : Packet) : State :=
  match s.t.sendSlot p.xid with
  | none => s.send (pullRefused p 3)
  | some _ =>
    let s := (s.unkeep p.xid).modXfer s.cur p.xid fun x =>
      { x with streaming := true, pulled := p.off.toNat, sent := 0, skip := p.ext, nextAt := s.now }
    (s.modT fun t => { t with msg := { t.msg with
      streams := if t.msg.streams.contains p.xid then t.msg.streams else t.msg.streams ++ [p.xid] } }).streamPiece p.xid

/-- ACCEPT (R100). -/
def State.tileAccept (s : State) (p : Packet) : State :=
  let s := s.unkeep p.xid
  match s.t.sendSlot p.xid with
  | some _ => s.complete s.cur p.xid 1 none 0
  | none => s

/-- KEEPHDR: the send goes on as a rendezvous (R94); HELD: the RTS waits. -/
def State.tileKeephdr (s : State) (p : Packet) : State :=
  (s.unkeep p.xid).modXfer s.cur p.xid fun x => { x with env := x.env.map fun e => { e with rdv := true } }
def State.tileHeld (s : State) (p : Packet) : State := s.unkeep p.xid

/-- FIN (R96). -/
def State.tileFin (s : State) (p : Packet) : State :=
  let s := s.unkeep p.xid
  match s.t.sendSlot p.xid with
  | some _ => s.complete s.cur p.xid 1 none 0
  | none => s

/-- REFUSE (R83, R94, R97, R75, R376). -/
def State.tileRefuse (s : State) (p : Packet) : State :=
  if p.ext.getLsbD 0 then
    match s.t.msg.pulls.find? fun q => q.env.src == p.src && q.env.sxid == p.xid with
    | some q =>
      let s := s.modT fun t => { t with msg := { t.msg with pulls := t.msg.pulls.erase q } }
      if p.aux = 6 then s.complete s.cur q.xid 2 (some q.env.len) (faultDetail 0x82 0)
      else s.complete s.cur q.xid 7 (some q.env.len) 0
    | none => s
  else match (s.t.sendSlot p.xid).filter fun c => c.x.peer == p.src with
  | none => s
  | some c =>
    match p.aux.toNat with
    | 1 | 2 =>
      if c.x.streaming then s.modXfer s.cur p.xid fun x => { x with streaming := false }
      else (s.t.message c).elim s (s.keep p.xid)
    | 3 => (s.unkeep p.xid).complete s.cur p.xid 7 none 0
    | 4 => (s.unkeep p.xid).complete s.cur p.xid 5 none 0
    | 5 => (s.unkeep p.xid).complete s.cur p.xid 2 none (faultDetail 0x83 0)
    | 6 => (s.unkeep p.xid).complete s.cur p.xid 2 none (faultDetail 0x82 0)
    | _ => s

/-- RDATA lands at the receive that pulls it (R96). -/
def State.tileRdata (s : State) (p : Packet) : State :=
  match s.t.msg.pulls.find? fun q => q.env.src == p.src && q.env.sxid == p.xid with
  | none => s
  | some q =>
    match s.t.live q.xid with
    | none => s
    | some c =>
      let hi := p.off.toNat + p.payload.length
      let s := (s.deliver (c.x.buf + p.off.toNat) p.payload (packetBad p 0)).markPrefix s.cur q.xid hi
      if q.n ≤ hi || (s.t.live q.xid).any fun c => c.bits == BitVec.allOnes 64 then
        ((s.modT fun t => { t with msg := { t.msg with pulls := t.msg.pulls.erase q } }).completeRecv q.xid q.env
          q.n).replyTo q.env 0x07 0 0
      else
        s.modT fun t => { t with msg := { t.msg with
          pulls := t.msg.pulls.map fun x => if x = q then { x with got := hi } else x } }

/-! ### Observing and releasing (R226-R229) -/

/-- The xid in a scalar. -/
def State.xidOf (s : State) (sx : Reg) : W16 := (s.rdS sx).setWidth 16

/-- `xtst` (R226). -/
def execXtst (a : Attr) (d sx sm : Reg) (s : State) : Host.Outcome State Fault Refusal :=
  finish s do
    let c ← s.named (s.xidOf sx)
    observe (s.xidOf sx) c
    s.wrS a 1 d (xtstWord c (s.rdS sm))

/-- `xwait` (R227). -/
def execXwait (_a : Attr) (sx sm : Reg) (s : State) : Host.Outcome State Fault Refusal :=
  finish s do
    let c ← s.named (s.xidOf sx)
    let m := s.rdS sm
    check (c.terminal || (m != 0 && c.bits &&& m == m)) (.stall 0)
    observe (s.xidOf sx) c
    return s

/-- `xinfo` (R228): latency 2 to 6. -/
def execXinfo (a : Attr) (hi : Bool) (d sx : Reg) (s : State) : Host.Outcome State Fault Refusal :=
  finish s do
    let c ← s.named (s.xidOf sx)
    observe (s.xidOf sx) c
    let dl := s.delay
    dl.2.wrS a (2 + min 4 dl.1) d (if hi then (c.status >>> 64).setWidth 64 else c.status.setWidth 64)

/-- `xfree` (R229). -/
def execXfree (_a : Attr) (sx : Reg) (s : State) : Host.Outcome State Fault Refusal :=
  finish s do
    let xid := s.xidOf sx
    let c ← s.named xid
    check c.terminal (.trap .engineFault (BitVec.ofNat 64 (xid.toNat + 3 * 2 ^ 16)))
    return s.modSlot s.cur xid Slot.freed

end Sys2Proof.Machine
end

