-- ==== Sys2Proof/Machine/HostMsg.lean ====
section
/-!
DEFINITION. The host engine of the switch die: its completion rings (R380, R383), its transfers and its side of matched
messages (R382, R385).
-/

namespace Sys2Proof.Machine

/-! ### Completion entries (R383) -/

/-- A host queue pair, and the state with one changed. -/
def State.pair (s : State) (q : Fin 64) : Pair := s.host.pair[q]
def State.setPair (s : State) (q : Fin 64) (p : Pair) : State :=
  { s with host := { s.host with pair := s.host.pair.set q p } }

/-- Entries of a ring. -/
def Pair.size (p : Pair) : Nat := 2 ^ p.lsize.toNat

/-- Host memory, written. Host addresses are 64 bits wide. -/
def State.hostWrite (s : State) (a : Nat) (bs : List Byte) : State :=
  { s with host := { s.host with mem := s.host.mem.write (a % 2 ^ 64) bs } }

/-- A completion entry is written to a pair's ring. -/
def State.hostComplete (s : State) (q : Fin 64) (tag : W16) (status : Nat) (aux : W32) (value : W64) : State :=
  let p := s.pair q
  let e := tag.toNat + 2 ^ 16 * status + 2 ^ 24 * (p.phase != Config.firstPhase).toNat + 2 ^ 32 * aux.toNat +
    2 ^ 64 * value.toNat
  let wrap := p.cidx + 1 = p.size
  (s.hostWrite (p.cpl.toNat + 16 * p.cidx) (bytesOf e 16)).setPair q
    { p with cidx := if wrap then 0 else p.cidx + 1, phase := if wrap then !p.phase else p.phase }

/-! ### Transfers (R382) -/

/-- The host transfer id of a slot. -/
def hxidOf (k : Nat) (x : HXfer) : Nat := k + 2 ^ 12 * x.seq.toNat

/-- The slot that a transfer id of 16 bits on the wire names, when it is in use. -/
def State.hostSlot (s : State) (xid : W16) : Option (Nat × HXfer) :=
  let k := xid.toNat % 4096
  match s.host.xfer.find k with
  | some x => if x.used && hxidOf k x % 2 ^ 16 == xid.toNat then some (k, x) else none
  | none => none

def State.setHXfer (s : State) (k : Nat) (x : HXfer) : State :=
  { s with host := { s.host with xfer := s.host.xfer.put k x } }

/-- A transfer of the host engine is terminal: its second completion entry (R382), and its slot is free. -/
def State.hostEnd (s : State) (k : Nat) (x : HXfer) (status len : Nat) (aux : W32) : State :=
  (s.setHXfer k { x with used := false }).hostComplete x.q x.tag status aux
    (BitVec.ofNat 64 (hxidOf k x % 2 ^ 32 + 2 ^ 32 * len))

/-- The envelope of a host SEND (R85: always a rendezvous). -/
def State.hostEnv (s : State) (k : Nat) (x : HXfer) : Env :=
  ⟨s.rankOf 1023, x.mtag, x.group, x.etype, x.nan, true, false, x.len, x.peer, BitVec.ofNat 16 (hxidOf k x)⟩

/-! ### The host as a receiver (R385) -/

/-- A matched host receive completes. -/
def State.hostRecvEnd (s : State) (k : Nat) (x : HXfer) (e : Env) (n : Nat) : State :=
  s.hostEnd k x (if n = e.len then 1 else 3) e.len e.src

/-- A host receive has matched an RTS (R96). -/
def State.hostPull (s : State) (k : Nat) (x : HXfer) (e : Env) (n : Nat) : State :=
  if n = 0 then (s.hostRecvEnd k x e 0).replyTo e 0x07 0 0
  else
    ({ s with host := { s.host with pulls := s.host.pulls ++ [(k, e.src, e.sxid, n, e.len)] } } : State).setHXfer k
      { x with matched := true } |>.replyTo e 0x02 0 n

/-- The earliest-posted host receive that matches an envelope. -/
def State.hostPosted (s : State) (e : Env) : Option (Nat × HXfer) :=
  s.host.posted.findSome? fun k =>
    match s.host.xfer.find k with
    | some x => if envMatches x.peer x.mtag x.tmask x.group e then some (k, x) else none
    | none => none

/-- The lowest granule of the host hamper where `n` fit (R92, R385). -/
def State.hostGran (s : State) (n : Nat) : Option Nat :=
  let used := s.host.headers.filterMap fun h => h.2.map fun g => (g, granulesOf h.1.len)
  (List.range (s.host.hampSize.toNat / 64)).find? fun g =>
    decide (64 * (g + n) ≤ s.host.hampSize.toNat) && !(used.any fun u => overlaps g n u.1 u.2)

/-- A held envelope of the host engine. -/
def State.hostHold (s : State) (e : Env) (g : Option Nat) : State :=
  { s with host := { s.host with headers := s.host.headers ++ [(e, g)] } }

/-- An envelope arrives at the host engine (R89, R94, R385). -/
def State.hostEnvelope (s : State) (p : Packet) : State :=
  match Env.of p.payload with
  | none =>
    let s := s.send (mkPacket p.dst p.src 0x08 p.group p.xid 5 0 [])
    s.reportEvent 0 p.dst 0x2E p.src.toNat
  | some e =>
    let data := p.payload.drop 32
    match s.hostPosted e with
    | some (k, x) =>
      let n := min e.len x.len
      let s := { s with host := { s.host with posted := s.host.posted.erase k } }
      if e.rdv then s.hostPull k x e n
      else ((s.hostWrite x.haddr (data.take n)).hostRecvEnd k x e n).replyTo e 0x04 0 0
    | none =>
      if 1024 ≤ s.host.headers.length then s.replyTo e 0x08 4 0
      else if e.rdv then (s.hostHold e none).replyTo e 0x06 0 0
      else if e.len = 0 then (s.hostHold e (some 0)).replyTo e 0x04 0 0
      else
        match s.hostGran (granulesOf e.len) with
        | some g => ((s.hostHold e (some g)).hostWrite (s.host.hampBase.toNat + 64 * g) data).replyTo e 0x04 0 0
        | none => (s.hostHold { e with rdv := true } none).replyTo e 0x05 0 0

/-- A host receive is posted (R89); with 1024 posted it completes POOL_FULL (R88, R385). -/
def State.hostPost (s : State) (k : Nat) (x : HXfer) : State :=
  match s.host.headers.find? fun h => envMatches x.peer x.mtag x.tmask x.group h.1 with
  | some h =>
    let n := min h.1.len x.len
    let s := { s with host := { s.host with headers := s.host.headers.erase h } }
    match h.2 with
    | none => s.hostPull k x h.1 n
    | some g => (s.hostWrite x.haddr (s.host.mem.read (s.host.hampBase.toNat + 64 * g) n)).hostRecvEnd k x h.1 n
  | none =>
    if 1024 ≤ s.host.posted.length then s.hostEnd k x 5 x.len 0
    else { s with host := { s.host with posted := s.host.posted ++ [k] } }

/-- RDATA for a host receive (R96). -/
def State.hostRdata (s : State) (p : Packet) : State :=
  match s.host.pulls.find? fun u => u.2.1 == p.src && u.2.2.1 == p.xid with
  | none => s
  | some u =>
    match s.host.xfer.find u.1 with
    | none => s
    | some x =>
      let s := s.hostWrite (x.haddr + p.off.toNat) p.payload
      let e : Env := { s.hostEnv u.1 x with src := p.src, dst := p.dst, len := u.2.2.2.2, sxid := p.xid }
      if u.2.2.2.1 ≤ p.off.toNat + p.payload.length then
        (({ s with host := { s.host with pulls := s.host.pulls.erase u } } : State).hostRecvEnd u.1 x e u.2.2.2.1).replyTo e
          0x07 0 0
      else s

/-! ### The host as a sender -/

/-- The host engine streams RDATA from host memory (R385). -/
def State.hostPulled (s : State) (p : Packet) : State :=
  match s.hostSlot p.xid with
  | none => s.send (pullRefused p 3)
  | some (k, x) =>
    if x.recv then s
    else
      let s := (s.unkeep p.xid).setHXfer k { x with streaming := true }
      let n := p.off.toNat
      (rdataPieces { s.hostEnv k x with dst := p.src } (fun off m => s.host.mem.read (x.haddr + off) m) p.ext n 2100
        0).foldl State.send s

/-- ACCEPT or FIN: a host SEND is DONE. -/
def State.hostFin (s : State) (p : Packet) : State :=
  let s := s.unkeep p.xid
  match s.hostSlot p.xid with
  | some (k, x) => if x.recv then s else s.hostEnd k x 1 x.len 0
  | none => s

/-- REFUSE answers the PULL of a host RECV: NO_ROUTE ends it FAULT, DEST_GONE so, with the matched message's length (R75, R370, R382,
R385). -/
def State.hostPullLost (s : State) (p : Packet) : State :=
  match s.host.pulls.find? fun u => u.2.1 == p.src && u.2.2.1 == p.xid with
  | none => s
  | some u =>
    match s.host.xfer.find u.1 with
    | none => s
    | some x =>
      let s := { s with host := { s.host with pulls := s.host.pulls.erase u } }
      if p.aux = 6 then s.hostEnd u.1 x 2 u.2.2.2.2 (faultDetail 0x82 0) else s.hostEnd u.1 x 7 u.2.2.2.2 0

/-- REFUSE reaches a host SEND (R94, R96, R97, R75), or the host RECV whose PULL it answers. -/
def State.hostRefuse (s : State) (p : Packet) : State :=
  if p.ext.getLsbD 0 then s.hostPullLost p
  else match (s.hostSlot p.xid).filter fun u => !u.2.recv && u.2.peer == p.src with
  | none => s
  | some (k, x) =>
    if x.recv then s
    else
      match p.aux.toNat with
      | 1 => s.keep p.xid ((s.hostEnv k x).packet [])
      | 2 => if x.streaming then s.setHXfer k { x with streaming := false } else s.keep p.xid ((s.hostEnv k x).packet [])
      | 3 => (s.unkeep p.xid).hostEnd k x 7 x.len 0
      | 4 => (s.unkeep p.xid).hostEnd k x 5 x.len 0
      | 5 => (s.unkeep p.xid).hostEnd k x 2 x.len (faultDetail 0x83 0)
      | 6 => (s.unkeep p.xid).hostEnd k x 2 x.len (faultDetail 0x82 0)
      | _ => s

/-! ### Message packets at their endpoint (R86) -/

/-- An event put off by 1024 cycles at the current unit (R97, R376). -/
def State.putOff (s : State) (ev : Instr) : State := s.schedule (s.now + 1024) s.cur ev

/-- Whether a tile takes no packet of a message now: it is suspended for the packet's group, or frozen, or its engine has stopped
(R372, R374, R376). -/
def State.filtered (s : State) (p : Packet) : Bool := s.t.msg.filter.contains p.group || !s.t.engineRuns

/-- A reply to a sender, put off while the sender's tile takes none (R376). -/
def State.atSender (s : State) (p : Packet) (ev : Instr) (tile host : State → State) : State :=
  if isHostKey s.cur then host s else if s.filtered p then s.putOff ev else tile s

def execEager (p : Packet) (s : State) : Host.Outcome State Fault Refusal :=
  .next (s.arrive p 0x00 fun s => if isHostKey s.cur then s.hostEnvelope p else s.tileArrival p)
def execRts (p : Packet) (s : State) : Host.Outcome State Fault Refusal :=
  .next (s.arrive p 0x01 fun s => if isHostKey s.cur then s.hostEnvelope p else s.tileArrival p)
def execPull (p : Packet) (s : State) : Host.Outcome State Fault Refusal :=
  .next (s.arrive p 0x02 fun s =>
    s.atSender p (.pull { p with sv := false }) (fun s => s.tilePull p) (fun s => s.hostPulled p))

/-- RDATA whose receiver is suspended is refused SUSPENDED, which stops the stream (R376), STOPPED where its engine has
stopped (R372). -/
def execRdata (p : Packet) (s : State) : Host.Outcome State Fault Refusal :=
  .next (s.arrive p 0x03 fun s =>
    if isHostKey s.cur then s.hostRdata p
    else if s.filtered p then s.send (mkPacket p.dst p.src 0x08 p.group p.xid (if s.t.engineStopped then 1 else 2) 0 [])
    else s.tileRdata p)

def execAccept (p : Packet) (s : State) : Host.Outcome State Fault Refusal :=
  .next (s.arrive p 0x04 fun s =>
    s.atSender p (.accept { p with sv := false }) (fun s => s.tileAccept p) (fun s => s.hostFin p))
def execKeephdr (p : Packet) (s : State) : Host.Outcome State Fault Refusal :=
  .next (s.arrive p 0x05 fun s =>
    s.atSender p (.keephdr { p with sv := false }) (fun s => s.tileKeephdr p) (fun s => s.unkeep p.xid))
def execHeld (p : Packet) (s : State) : Host.Outcome State Fault Refusal :=
  .next (s.arrive p 0x06 fun s =>
    s.atSender p (.held { p with sv := false }) (fun s => s.tileHeld p) (fun s => s.unkeep p.xid))
def execFin (p : Packet) (s : State) : Host.Outcome State Fault Refusal :=
  .next (s.arrive p 0x07 fun s =>
    s.atSender p (.fin { p with sv := false }) (fun s => s.tileFin p) (fun s => s.hostFin p))
def execRefuse (p : Packet) (s : State) : Host.Outcome State Fault Refusal :=
  .next (s.arrive p 0x08 fun s =>
    s.atSender p (.refuse { p with sv := false }) (fun s => s.tileRefuse p) (fun s => s.hostRefuse p))

end Sys2Proof.Machine
end

