-- ==== Sys2Proof/Machine/Ert.lean ====
section
/-!
DEFINITION. The expert residency table (R26-R40): entries, pools, page-ins and their engines, the supervisor's commands.
-/

namespace Sys2Proof.Machine

/-! ### Entries (R26) -/

def State.ertEnt (s : State) (e : W16) : ErtEnt := (s.ert.ent.find e.toNat).getD ErtEnt.reset
def State.setEnt (s : State) (e : W16) (x : ErtEnt) : State :=
  { s with ert := { s.ert with ent := s.ert.ent.put e.toNat x } }

/-- The split count. -/
def ErtEnt.parts (x : ErtEnt) : Nat := x.splitm1.toNat + 1
/-- Whether an image is in HBM: RESIDENT, PINNED or SPLIT. -/
def ErtEnt.present (x : ErtEnt) : Bool := x.state == 2 || x.state == 3 || x.state == 4
/-- The dies of a mask, ascending. -/
def diesOf (m : BitVec 4) : List (Fin 4) := (List.finRange 4).filter fun d => m.getLsbD d.val
/-- The die that holds part `p`. -/
def ErtEnt.dieOfPart (x : ErtEnt) (p : Nat) : Fin 4 := if x.parts = 1 then x.pdie else (diesOf x.diemask).getD p 0
/-- The dies that hold the image. -/
def ErtEnt.dies (x : ErtEnt) : List (Fin 4) := if x.parts = 1 then [x.pdie] else diesOf x.diemask

/-- A wait-queue chain as its 27 bits. DESIGN CHOICE (log 63): head and tail read 0 while valid is 0. -/
def chainBits (c : Chain) : Nat :=
  match c with
  | some (h, t) => 1 + 2 * h.toNat + 2 ^ 14 * t.toNat
  | none => 0

/-- An entry as its 32 bytes. -/
def ErtEnt.bytes (x : ErtEnt) : List Byte :=
  bytesOf (x.state.toNat + 8 * x.err.toNat + 2 ^ 4 * x.pdie.val + 2 ^ 8 * x.asid.toNat + 2 ^ 16 * x.moon.val +
    2 ^ 20 * x.base.toNat + 2 ^ 40 * x.size.toNat + 2 ^ 56 * x.splitm1.toNat + 2 ^ 58 * x.diemask.toNat +
    2 ^ 64 * x.far.toNat + 2 ^ 112 * x.readers.toNat + 2 ^ 128 * x.age.toNat + 2 ^ 144 * chainBits x.wq[0] +
    2 ^ 171 * chainBits x.wq[1] + 2 ^ 198 * chainBits x.wq[2] + 2 ^ 225 * chainBits x.wq[3]) 32

/-! ### Far locations (R22) -/

/-- The unit number of a far location within the far memory's space, LPDDR-6 first, then the two CXL ports. -/
def farUnit (far : BitVec 48) : Nat := (fld far.toNat 46 2) * 2 ^ 40 + fld far.toNat 0 40

/-- The far location's reserved bits are clear and its units lie in its tier (R22, R28). -/
def farOk (far : BitVec 48) (size : Nat) : Bool :=
  let x := far.toNat
  fld x 40 6 == 0 &&
    if fld x 47 1 = 0 then fld x 46 1 == 0 && fld x 25 15 == 0 && decide (fld x 0 25 + size ≤ 2 ^ 25)
    else decide (fld x 0 40 + size ≤ 2 ^ 40)

/-- The rules of R28 on a configuration. -/
def State.configOk (s : State) (x : ErtEnt) : Bool :=
  let n := x.parts
  let ds := diesOf x.diemask
  x.size != 0 && x.diemask != 0 && (n == 1 || (ds.length == n && x.size.toNat % n == 0)) &&
    (ds.all fun d => decide (x.size.toNat / n ≤ s.ert.pool[d].size.toNat)) && farOk x.far x.size.toNat

/-! ### Pools and slots (R29, R31) -/

/-- The slots of a die in number order: moon and base (R29). -/
def Pool.slots (p : Pool) : List (Fin 16 × Nat) :=
  if p.size = 0 then []
  else
    (List.finRange 16).flatMap fun m =>
      (List.range p.moon[m].2.toNat).map fun k => (m, p.moon[m].1.toNat + k * p.size.toNat)

/-- A page-in that has its slot. -/
def State.placedJobs (s : State) : List PageIn :=
  (s.ert.pageq.filter fun j => j.slot.isSome) ++ s.ert.eng.toList.filterMap fun e => e.map (·.job)

/-- Whether an entry holds a slot on a die: its image is there, or a page-in has chosen the slot. -/
def State.holdsOn (s : State) (e : Nat) (x : ErtEnt) (d : Fin 4) : Bool :=
  x.dies.contains d && (x.present || s.placedJobs.any fun j => j.expert.toNat == e)

/-- Whether a slot is in use on a die. -/
def State.slotUsed (s : State) (d : Fin 4) (sl : Fin 16 × Nat) : Bool :=
  s.ert.ent.any fun p => s.holdsOn p.1 p.2 d && p.2.moon == sl.1 && p.2.base.toNat == sl.2

/-- The lowest-numbered slot that is free on every target die (R31). DESIGN CHOICE (log 63): where the pools of the dies differ, the
numbering is the first die's; and an image configured before the slot size was reduced keeps its size, so that its page-in writes
past its slot. -/
def State.freeSlotOn (s : State) (dies : List (Fin 4)) : Option (Fin 16 × Nat) :=
  match dies with
  | [] => none
  | d :: r =>
    (s.ert.pool[d].slots).find? fun sl =>
      !s.slotUsed d sl && r.all fun d' => (s.ert.pool[d'].slots).contains sl && !s.slotUsed d' sl

/-- The target dies of a page-in (R31). -/
def targetDies (x : ErtEnt) (miss : Option (Fin 4)) : List (Fin 4) :=
  let ds := diesOf x.diemask
  if x.parts = 1 then
    match miss with
    | some d => if ds.contains d then [d] else ds.take 1
    | none => ds.take 1
  else ds

/-- The victim on the target dies (R31): the evictable entry of the greatest age distance, the lowest expert of equals.
An entry is evictable under the policy of a target die that is not NONE. -/
def State.victim (s : State) (dies : List (Fin 4)) : Option Nat :=
  let cands := s.ert.ent.filter fun p =>
    (p.2.state == 2 || p.2.state == 4) && p.2.readers == 0 && !s.isFrozen 0 p.1 &&
      dies.any fun d => s.holdsOn p.1 p.2 d && s.ert.pool[d].policy != 2
  (cands.foldl (fun m p =>
    let a := (s.ert.clock - p.2.age).toNat
    match m with
    | some (_, b) => if b < a then some (p.1, a) else m
    | none => some (p.1, a)) none).map (·.1)

/-- An image leaves HBM. -/
def State.evictEnt (s : State) (e : W16) : State := s.setEnt e { s.ertEnt e with state := 0 }

/-! ### Counters and reports (R40) -/

def State.modCnt (s : State) (d : Fin 4) (f : ErtCnt → ErtCnt) : State :=
  { s with ert := { s.ert with cnt := s.ert.cnt.set d (f s.ert.cnt[d]) } }

/-- The die that a page-in reports to: the one that missed, die 0 for a command. -/
def PageIn.reportDie (j : PageIn) : Fin 4 := if j.miss then j.die else 0

/-- The rank under which the units of the switch die report: the supervisor's of the die concerned. -/
def State.svRank (s : State) (d : Fin 4) : Rank := s.rankOf (d.val * 1024 + 306)

/-! ### Page-ins (R31, R37) -/

/-- The order of page-ins that start in one cycle: by die, that of the dispatcher or of the commanding supervisor, then by expert
(R37). -/
def PageIn.key (j : PageIn) : Nat := j.die.val * 65536 + j.expert.toNat

/-- A page-in enters the queue behind those that started before it. -/
def insertPagein (j : PageIn) : List PageIn → List PageIn
  | [] => [j]
  | x :: r =>
    if x.slot.isNone && !x.waiting && x.since == j.since && decide (j.key < x.key) then j :: x :: r
    else x :: insertPagein j r

/-- A page-in joins the queue; slot choice follows (R37). -/
def State.queuePagein (s : State) (e : W16) (die : Fin 4) (miss : Bool) : State :=
  let x := s.ertEnt e
  let s := s.setEnt e { x with state := 1 }
  ({ s with ert := { s.ert with
      pageq := insertPagein ⟨e, die, miss, none, targetDies x (if miss then some die else none), false, s.now⟩ s.ert.pageq } } : State).after 4 0
    .pageinSlotChoice

/-- Every page-in that waits for a slot tries again (R31). -/
def State.retryPageins (s : State) : State :=
  (s.ert.pageq.filter fun j => j.waiting).foldl (fun s j => s.schedule s.now 0 (.pageinRetry j.expert)) s

/-- A page-in in the queue, changed. -/
def State.modPagein (s : State) (e : W16) (f : PageIn → PageIn) : State :=
  { s with ert := { s.ert with pageq := s.ert.pageq.map fun (j : PageIn) => if j.expert == e then f j else j } }

/-- Evictions until a slot is free on every target die, or no victim is left (R31 step 3). -/
def State.makeRoom (s : State) (dies : List (Fin 4)) : Nat → State × Option (Fin 16 × Nat)
  | 0 => (s, s.freeSlotOn dies)
  | n + 1 =>
    match s.freeSlotOn dies with
    | some sl => (s, some sl)
    | none =>
      match s.victim dies with
      | none => (s, none)
      | some v =>
        let x := s.ertEnt (BitVec.ofNat 16 v)
        let s1 := s.evictEnt (BitVec.ofNat 16 v)
        (s1.modCnt (x.dies.headD 0) fun c => { c with evictions := sat32 c.evictions }).makeRoom dies n

/-- Slot choice for a page-in (R31): its slot is chosen, which takes 22 cycles and 4 to an engine (R37), or it waits and tells after
65,536 cycles (R40). DESIGN CHOICE (log 63): a slot whose base needs more than 20 bits is entered with its low 20 bits. -/
def State.chooseSlot (s : State) (j : PageIn) : State :=
  let r := s.makeRoom j.dies s.ert.ent.length
  match r.2 with
  | some sl =>
    let x := r.1.ertEnt j.expert
    let s1 := r.1.setEnt j.expert { x with moon := sl.1, base := BitVec.ofNat 20 sl.2, pdie := j.dies.headD 0 }
    (s1.modPagein j.expert fun j => { j with slot := some sl.2, waiting := false }).after 26 0 .pageinEngineStart
  | none =>
    if j.waiting then r.1
    else
      (r.1.modPagein j.expert fun j => { j with waiting := true, since := s.now }).schedule (s.now + 65536) 0
        (.noVictim j.expert)

/-- PAGEIN_SLOT_CHOICE (R31, R37): the first page-in in the queue that has no slot and does not wait for one. -/
def execPageinSlotChoice (s : State) : Host.Outcome State Fault Refusal :=
  match s.ert.pageq.find? fun j => j.slot.isNone && !j.waiting with
  | some j => .next (s.chooseSlot j)
  | none => .next s

/-- PAGEIN_RETRY (R31). -/
def execPageinRetry (expert : W16) (s : State) : Host.Outcome State Fault Refusal :=
  match s.ert.pageq.find? fun j => j.expert == expert && j.waiting with
  | some j => .next (s.chooseSlot j)
  | none => .next s

/-- NO_VICTIM (R40): a page-in has waited another 65,536 cycles. The timer of an earlier wait does nothing. -/
def execNoVictim (expert : W16) (s : State) : Host.Outcome State Fault Refusal :=
  match s.ert.pageq.find? fun j =>
      j.expert == expert && j.waiting && j.since != s.now && (s.now - j.since) % 65536 == 0 &&
        !(s.agenda.any fun e => e.ev == .noVictim expert && e.due == s.now) with
  | some j =>
    .next ((s.reportEvent j.reportDie (s.svRank j.reportDie) 0x24 expert.toNat).schedule (s.now + 65536) 0
      (.noVictim expert))
  | none => .next s

/-- PAGEIN_ENGINE_START (R24, R37): the first page-in with a slot takes the lowest-numbered free engine. -/
def execPageinEngineStart (s : State) : Host.Outcome State Fault Refusal :=
  match s.ert.pageq.find? fun j => j.slot.isSome, (List.finRange 8).find? fun k => (s.ert.eng[k]).isNone with
  | some j, some k =>
    .next (({ s with ert := { s.ert with
        pageq := s.ert.pageq.erase j
        eng := s.ert.eng.set k (some ⟨j, 0⟩) } } : State).after 300 0 (.farUnitTransfer k))
  | _, _ => .next s

/-- The far tile of a die that writes a unit: 304 for even units, 305 for odd ones (R24). -/
def State.farTile (s : State) (d : Fin 4) (u : Nat) : Rank := s.rankOf (d.val * 1024 + 304 + u % 2)

/-- FAR_UNIT_TRANSFER (R23, R24): a 64 KiB unit is read and handed to a far tile of its part's die, which writes it behind the slot's
moon by physical PUTs. A far error, or a CXL unit out of the decoded range, fails the page-in. -/
def execFarUnitTransfer (engine : Fin 8) (s : State) : Host.Outcome State Fault Refusal :=
  match s.ert.eng[engine] with
  | none => .next s
  | some g =>
    let x := s.ertEnt g.job.expert
    let psize := x.size.toNat / x.parts
    let u := g.moved
    let p := u / psize
    let d := x.dieOfPart p
    let off := (x.base.toNat + (u - p * psize)) * 65536
    let fu := farUnit x.far + u
    if s.farBad.contains fu then .next (s.schedule (s.now + 1) 0 (.pageinFailed engine u))
    else
      let s1 := ({ s with ert := { s.ert with eng := s.ert.eng.set engine (some { g with moved := u + 1 }) } } : State).modCnt d
        fun c => { c with units := sat32 c.units }
      let s2 := s1.startJob (s.farTile d u) 0 (.pageinComplete engine) u 1 true 0
        (fun q => s.far.read (fu * 65536 + q.off) q.len)
        (cutPieces (s.rankOf (d.val * 1024 + 288 + x.moon.val)) off 65536 0 cutFuel)
      .next (if u + 1 = x.size.toNat then s2 else s2.after 342 0 (.farUnitTransfer engine))

/-- The chain of an entry on one die starts to be released, one record a cycle (R35). -/
def State.releaseOn (s : State) (d : Fin 4) (e : W16) (discard : Bool) : State :=
  if ((s.ertEnt e).wq[d]).isSome then
    let idle := (s.ert.rel[d]).isEmpty
    let s := { s with ert := { s.ert with rel := s.ert.rel.set d (s.ert.rel[d] ++ [(e, discard)]) } }
    if idle then s.schedule (s.now + 1) d.val .waitqRelease else s
  else s

/-- The chains of an entry start to be released on every die (R35, R38). -/
def State.startRelease (s : State) (e : W16) (discard : Bool) : State :=
  (List.finRange 4).foldl (fun s d => s.releaseOn d e discard) s

/-- PAGEIN_COMPLETE (R32, R35, R37): once every unit of the page-in is acknowledged; a unit that its moon refused fails it (R40).
DESIGN CHOICE (log 63): `err` stays as it is, and a split page-in is counted once, on its lowest die. -/
def execPageinComplete (engine : Fin 8) (s : State) : Host.Outcome State Fault Refusal :=
  match s.ert.eng[engine] with
  | none => .next s
  | some g =>
    let e := g.job.expert
    let units := s.jobsOf 0 (.pageinComplete engine)
    match units.find? fun j => j.fault.isSome with
    | some j => .next ((s.endJobs 0 (.pageinComplete engine)).schedule (s.now + 1) 0 (.pageinFailed engine j.tag))
    | none =>
    if g.moved < (s.ertEnt e).size.toNat || !(units.all Job.done) then .next s
    else if s.isFrozen 0 e.toNat then .next (s.schedule (s.now + 1) 0 (.pageinComplete engine))
    else
      let x := s.ertEnt e
      let s1 := s.setEnt e { x with state := if x.parts = 1 then 2 else 4, age := s.ert.clock }
      let s2 := { s1 with ert := { s1.ert with eng := s1.ert.eng.set engine none } }
      let s3 := (s2.modCnt (x.dies.headD 0) fun c => { c with pageins := sat32 c.pageins }).endJobs 0 (.pageinComplete engine)
      .next (((s3.startRelease e false).retryPageins).schedule (s.now + 4) 0 .pageinEngineStart)

/-- PAGEIN_FAILED (R32, R40): the slot is freed, `err` set, the parked records kept. DESIGN CHOICE (log 63): the page-ins that wait for
a slot try again. -/
def execPageinFailed (engine : Fin 8) (unit : Nat) (s : State) : Host.Outcome State Fault Refusal :=
  match s.ert.eng[engine] with
  | none => .next s
  | some g =>
    let e := g.job.expert
    let s1 := s.setEnt e { s.ertEnt e with state := 0, err := true }
    let s2 := { s1 with
      ert := { s1.ert with eng := s1.ert.eng.set engine none }
      agenda := s1.agenda.filter fun x => !(x.ev == Instr.farUnitTransfer engine || x.ev == Instr.pageinComplete engine) }
    .next ((((s2.endJobs 0 (.pageinComplete engine)).reportEvent g.job.reportDie (s.svRank g.job.reportDie) 0x21 (e.toNat + 2 ^ 16 * unit)).retryPageins).schedule
      (s.now + 4) 0 .pageinEngineStart)

/-! ### Reader counts (R33) -/

/-- A reader count goes down by `n`: at 0 the page-ins that wait for a slot try again, and records held at the limit are
tried again. -/
def State.dropReaders (s : State) (e : W16) (n : Nat) : State :=
  if n = 0 then s
  else
    let x := s.ertEnt e
    let r := x.readers.toNat - n
    let s1 := s.setEnt e { x with readers := BitVec.ofNat 16 r }
    let s2 := if r = 0 then s1.retryPageins else s1
    if x.readers = BitVec.allOnes 16 then
      (List.finRange 4).foldl (fun s d => s.schedule s.now d.val (.readerLimitRetry d e)) s2
    else s2

/-! ### Pool registers (R29) -/

/-- A write of a pool register: 0 `xpslot`, 1-16 `xpmoon0`-`xpmoon15`, 17 `xppol`. DESIGN CHOICE (log 63): POOL_BUSY of any die goes to
the supervisor of die 0, under that supervisor's rank. -/
def execPoolRegisterWrite (die : Fin 4) (reg : Fin 18) (v : W32) (s : State) : Host.Outcome State Fault Refusal :=
  let p := s.ert.pool[die]
  let put (p : Pool) : State := { s with ert := { s.ert with pool := s.ert.pool.set die p } }
  if reg = 17 then .next (if fld v.toNat 0 2 = 3 then s else put { p with policy := v.setWidth 2 })
  else if s.ert.ent.any fun e => s.holdsOn e.1 e.2 die then
    .next (s.reportEvent 0 (s.svRank 0) 0x23 reg.val)
  else if reg = 0 then .next (put { p with size := v.setWidth 16 })
  else
    .next (put { p with
      moon := p.moon.set (Fin.ofNat 16 (reg.val - 1)) (v.setWidth 20, (v >>> 20).setWidth 12) })

/-! ### Supervisor commands (R38, R316) -/

/-- A status that a command returns. -/
def cmdOk : W64 := 0
def cmdBusy : W64 := 1
def cmdRefused : W64 := 2

/-- An `ertw` op: its checks, then its command, which gives the state and the status. The result is of variable latency. -/
def State.ertw (s : State) (a : Attr) (d sa sb : Reg) (len : Nat) (cmd : State → W16 → BufWord → State × W64) :
    Except Stop State := do
  s.noSpec
  let e : W16 := (s.rdS sa).setWidth 16
  let b := BufWord.of (s.rdS sb)
  let dl := s.delay
  check (!s.isFrozen 0 e.toNat || len != 0) (.stall 0)
  if fld (s.rdS sa).toNat 16 48 != 0 || !b.rsvOk || b.len != len ||
      (len != 0 && (b.addr % 16 != 0 || outOfSpm b.addr len || s.t.hitsHamper b.addr len)) then
    dl.2.wrS a (1 + dl.1) d cmdRefused
  else
    let r := cmd dl.2 e b
    r.1.wrS a (1 + dl.1) d r.2

/-- READ (R28, R38): expert 0xFFFF reads all zero. -/
def execRead (a : Attr) (d sa sb : Reg) (s : State) : Host.Outcome State Fault Refusal :=
  finish s (s.ertw a d sa sb 32 fun s e b =>
    (s.modT fun t => t.spmWrite false b.addr (if e = 0xFFFF#16 then bytesOf 0 32 else (s.ertEnt e).bytes), cmdOk))

/-- The entry that a CONFIG record sets: the RW fields, the rest as it stands. -/
def ErtEnt.configured (x : ErtEnt) (v : Nat) : ErtEnt :=
  { x with
    asid := BitVec.ofNat 8 (fld v 8 8)
    size := BitVec.ofNat 16 (fld v 40 16)
    splitm1 := BitVec.ofNat 2 (fld v 56 2)
    diemask := BitVec.ofNat 4 (fld v 58 4)
    far := BitVec.ofNat 48 (fld v 64 48) }

/-- CONFIG (R28, R32, R38). It rewrites a frozen entry (R372). -/
def execConfig (a : Attr) (d sa sb : Reg) (s : State) : Host.Outcome State Fault Refusal :=
  finish s (s.ertw a d sa sb 32 fun s e b =>
    let x := s.ertEnt e
    let v := s.t.spmNat false b.addr 32
    let y := x.configured v
    if e = 0xFFFF#16 then (s, cmdRefused)
    else if x.state != 0 then (s, cmdBusy)
    else if decide (5 ≤ fld v 0 3) || fld v 6 2 != 0 || fld v 62 2 != 0 || fld v 252 4 != 0 || !s.configOk y then
      (s, cmdRefused)
    else ({ s.setEnt e y with frozen := s.frozen.filter fun f => f != (0, e.toNat) }, cmdOk))

/-- A command of length 0 on an entry other than 0xFFFF, done when `ok` holds, else refused BUSY (R32, R38). -/
def State.ertCmd (s : State) (a : Attr) (d sa sb : Reg) (ok : ErtEnt → Bool) (act : State → W16 → ErtEnt → State) :
    Except Stop State :=
  s.ertw a d sa sb 0 fun s e _ =>
    let x := s.ertEnt e
    if e = 0xFFFF#16 then (s, cmdRefused) else if ok x then (act s e x, cmdOk) else (s, cmdBusy)

def execPagein (a : Attr) (d sa sb : Reg) (s : State) : Host.Outcome State Fault Refusal :=
  finish s (s.ertCmd a d sa sb (fun x => x.state == 0 && x.size != 0) fun s e _ =>
    s.queuePagein e (dieOf s.cur) false)

def execEvict (a : Attr) (d sa sb : Reg) (s : State) : Host.Outcome State Fault Refusal :=
  finish s (s.ertCmd a d sa sb (fun x => (x.state == 2 || x.state == 4) && x.readers == 0) fun s e x =>
    ((s.evictEnt e).modCnt (x.dies.headD 0) fun c => { c with evictions := sat32 c.evictions }).retryPageins)

def execPin (a : Attr) (d sa sb : Reg) (s : State) : Host.Outcome State Fault Refusal :=
  finish s (s.ertCmd a d sa sb (fun x => x.state == 2 || x.state == 4) fun s e x => s.setEnt e { x with state := 3 })

def execUnpin (a : Attr) (d sa sb : Reg) (s : State) : Host.Outcome State Fault Refusal :=
  finish s (s.ertCmd a d sa sb (fun x => x.state == 3) fun s e x =>
    s.setEnt e { x with state := if x.parts = 1 then 2 else 4 })

def execDiscard (a : Attr) (d sa sb : Reg) (s : State) : Host.Outcome State Fault Refusal :=
  finish s (s.ertCmd a d sa sb (fun x => x.state == 0) fun s e _ => s.startRelease e true)

end Sys2Proof.Machine
end

