-- ==== Sys2Proof/Machine/Moon.lean ====
section
/-!
DEFINITION. Moons (R42-R60): requests, translation, the order of performance, atomics, the trace ring, errors.
-/

namespace Sys2Proof.Machine

/-! ### Requests (R43, R46) -/

/-- The key of the moon that the current unit is. -/
def State.moonKey (s : State) : Nat := moonKeyOf (s.cur)

/-- A request decoded from its packet. -/
def MReq.of (id : Nat) (p : Packet) : MReq :=
  let h := ofBytes (p.payload.take 32)
  let d := p.payload.drop 32
  { id := id
    op := BitVec.ofNat 4 (fld h 0 4)
    phys := fld h 4 1 == 1
    asid := BitVec.ofNat 8 (fld h 8 8)
    len := fld h 16 12 + 1
    addr := fld h 64 64
    reply := BitVec.ofNat 32 (fld h 128 32)
    src := p.src
    xid := BitVec.ofNat 16 (fld h 160 16)
    chunk := BitVec.ofNat 16 (fld h 176 16)
    data := d
    a := BitVec.ofNat 64 (ofBytes (d.take 8))
    b := BitVec.ofNat 64 (ofBytes ((d.drop 8).take 8))
    pa := none
    walking := false
    own := none
    header := BitVec.ofNat 256 h
    bad := packetBad p 2 }

/-- An atomic, and its width in bytes (R44). -/
def MReq.atomic (r : MReq) : Bool := decide (2 ≤ r.op.toNat)
def MReq.atomBytes (r : MReq) : Nat := if r.op.toNat % 2 = 1 then 8 else 4
/-- Whether a request writes. -/
def MReq.writes (r : MReq) : Bool := r.op != 0

/-- Reserved fields of the header and the atomic payload (R43). -/
def MReq.rsv (r : MReq) (p : Packet) : Bool :=
  let h := ofBytes (p.payload.take 32)
  fld h 5 3 != 0 || fld h 28 36 != 0 || fld h 192 64 != 0 ||
    (r.atomic && ((r.atomBytes == 4 && (fld r.a.toNat 32 32 != 0 || fld r.b.toNat 32 32 != 0)) ||
      (decide (r.op.toNat < 14) && r.b != 0)))

/-- The region of a moon, in bytes (R42). -/
def moonRegion : Nat := 0x180000000

/-- The checks of R46, with the reasons of R48. -/
def MReq.refusal (r : MReq) (p : Packet) : Option Nat :=
  if r.rsv p || (r.atomic && r.len != r.atomBytes) then some 0x09
  else if r.atomic && r.addr % r.atomBytes != 0 then some 0x07
  else if r.addr / 65536 != (r.addr + r.len - 1) / 65536 || (r.phys && decide (moonRegion < r.addr + r.len)) ||
      (!r.phys && decide (2 ^ 42 ≤ r.addr)) then some 0x06
  else none

/-! ### Replies and faults (R47, R48) -/

/-- The reply to a request. -/
def State.mreply (s : State) (r : MReq) (status reason : Nat) (value : W64) (data : List Byte) : State :=
  let h := status + 2 ^ 8 * reason + 2 ^ 16 * r.chunk.toNat + 2 ^ 32 * r.xid.toNat + 2 ^ 64 * value.toNat
  s.send (mkPacket (s.rankOf s.cur) r.reply 0x11 0 r.xid 0 0 (bytesOf h 16 ++ data))

/-- A fault is kept in `mfault` and reported to the die's supervisor. -/
def State.noteFault (s : State) (r : MReq) (reason : Nat) : State :=
  (s.modMoon s.moonKey fun m => { m with mfault := r.header }).reportEvent (dieOf s.cur) (s.rankOf s.cur) 0x26
    (reason + 2 ^ 8 * r.op.toNat + 2 ^ 32 * r.src.toNat)

/-- A request faults: it is noted, and the reply says so. -/
def State.moonFault (s : State) (r : MReq) (reason : Nat) : State := (s.noteFault r reason).mreply r 2 reason 0 []

/-! ### Translation (R49-R52) -/

/-- An ASID table entry. -/
def Moon.asidEnt (m : Moon) (a : Byte) : W64 := (m.asid.find a.toNat).getD 0

/-- The TLB entry that translates an address. -/
def Moon.hit (m : Moon) (a : Byte) (va : Nat) : Option TlbEnt :=
  m.tlb.find? fun t => t.asid == a && (if t.big then va / 2 ^ 21 == t.va / 2 ^ 21 else va / 2 ^ 16 == t.va / 2 ^ 16)

/-- The physical offset under a TLB entry. -/
def TlbEnt.phys (t : TlbEnt) (va : Nat) : Nat := t.pa + va % (if t.big then 2 ^ 21 else 2 ^ 16)

/-- The rights of a leaf against a request (R48). -/
def TlbEnt.denies (t : TlbEnt) (r : MReq) : Option Nat :=
  if r.writes && !t.w then some 0x03 else if r.atomic && !t.a then some 0x04 else none

/-- An 8-byte table entry of a moon's region, or why it cannot be used: outside the region (log 30), an uncorrectable
error, not mapped. -/
def State.tableEntry (s : State) (mk base index : Nat) : Except Nat Nat :=
  let off := base + 8 * index
  let a := mk * moonRegion + off
  if moonRegion < off + 8 then .error 0x05
  else if s.hbmBad.any fun b => decide (a ≤ b) && decide (b < a + 8) then .error 0x08
  else
    let e := s.hbm.readNat a 8
    if fld e 0 1 = 0 then .error 0x02 else .ok e

/-- The offset that a table entry holds. -/
def ptePa (e : Nat) : Nat := fld e 8 32 * 256

/-- A pointer to a table of `size` bytes (R51). `leafRsv`: the leaf bit is reserved here. -/
def ptrOk (e size : Nat) (leafRsv : Bool) : Bool :=
  fld e 2 6 == 0 && fld e 40 24 == 0 && !(leafRsv && fld e 1 1 == 1) && ptePa e % size == 0 &&
    decide (ptePa e + size ≤ moonRegion)

/-- A leaf for a page of `size` bytes. -/
def leafOk (e size : Nat) (leafRsv : Bool) : Bool :=
  fld e 4 4 == 0 && fld e 40 24 == 0 && !(leafRsv && fld e 1 1 == 1) && ptePa e % size == 0 &&
    decide (ptePa e + size ≤ moonRegion)

/-- A TLB entry from a leaf. -/
def tlbOf (a : Byte) (va e : Nat) (big : Bool) : TlbEnt :=
  ⟨a, if big then va / 2 ^ 21 * 2 ^ 21 else va / 2 ^ 16 * 2 ^ 16, big, ptePa e, fld e 2 1 == 1, fld e 3 1 == 1⟩

/-- The entry of a level-3 table: its leaf, or why it faults (R50, R51). -/
def State.leaf3 (s : State) (mk base : Nat) (a : Byte) (va : Nat) : Except Nat TlbEnt :=
  match s.tableEntry mk base (va / 2 ^ 16 % 32) with
  | .error r => .error r
  | .ok e3 => if leafOk e3 (2 ^ 16) true then .ok (tlbOf a va e3 false) else .error 0x05

/-- A walk down to level 2 (R50): the 2 MiB leaf, or the level-3 table that goes on, or the reason it faults. -/
def State.walk2 (s : State) (mk : Nat) (a : Byte) (va : Nat) : Except Nat (TlbEnt ⊕ Nat) :=
  let ae := ((s.moon mk).asidEnt a).toNat
  if fld ae 0 1 = 0 then .error 0x01
  else
    match s.tableEntry mk (fld ae 15 25 * 32768) (va / 2 ^ 30) with
    | .error r => .error r
    | .ok e1 =>
      if !ptrOk e1 4096 true then .error 0x05
      else
        match s.tableEntry mk (ptePa e1) (va / 2 ^ 21 % 512) with
        | .error r => .error r
        | .ok e2 =>
          if fld e2 1 1 = 1 then
            if leafOk e2 (2 ^ 21) false then .ok (.inl (tlbOf a va e2 true)) else .error 0x05
          else if !ptrOk e2 256 false then .error 0x05
          else .ok (.inr (ptePa e2))

/-- The TLB with a leaf; of 4096 entries the oldest gives way (R52: which one is not visible). -/
def Moon.fill (m : Moon) (t : TlbEnt) : Moon :=
  { m with tlb := (if m.tlb.length < 4096 then m.tlb else m.tlb.tail) ++ [t] }

/-! ### Order (R53-R56) -/

/-- Requests that wait for one walk: ASID and addr[41:21] agree. -/
def MReq.sameWalk (r q : MReq) : Bool := !r.phys && !q.phys && r.asid == q.asid && r.addr / 2 ^ 21 == q.addr / 2 ^ 21

/-- A request that still waits for its translation. -/
def MReq.waits (r : MReq) : Bool := r.pa.isNone

/-- Whether two translated requests touch a common byte. -/
def MReq.meets (r q : MReq) : Bool :=
  match r.pa, q.pa with
  | some a, some b => overlaps a r.len b q.len
  | _, _ => false

/-- Whether an earlier request that is not to be performed yet holds back a later one: by its walk, by a byte of both, or because
the later one is physical and the earlier one's bytes are not known (R55, R56). -/
def MReq.holds (q r : MReq) : Bool := if q.waits then r.phys || q.sameWalk r else q.meets r

/-- The requests of a list in arrival order that may be performed: translated, and held back by no earlier one, those of `held`
among them. -/
def readyFrom (held : List MReq) : List MReq → List MReq
  | [] => []
  | r :: rs => if r.waits || held.any fun q => q.holds r then readyFrom (held ++ [r]) rs else r :: readyFrom held rs

/-- The requests of a moon, in arrival order, that may be performed (R55, R56). -/
def Moon.ready (m : Moon) : List MReq := readyFrom [] m.queue

/-- The event that performs a request. -/
def MReq.event (mk : Nat) (r : MReq) : Instr :=
  let k := Fin.ofNat 64 mk
  match r.op.toNat with
  | 0 => .moonGet k r.id
  | 1 => .moonPut k r.id
  | 2 | 3 => .moonAdd k r.id
  | 4 | 5 => .moonSmin k r.id
  | 6 | 7 => .moonUmin k r.id
  | 8 | 9 => .moonSmax k r.id
  | 10 | 11 => .moonUmax k r.id
  | 12 | 13 => .moonXchg k r.id
  | _ => .moonCas k r.id

/-- The cycles at which a moon is to perform requests. -/
def State.performDues (s : State) (mk : Nat) : List (Nat × Nat) :=
  s.agenda.filterMap fun e =>
    match e.ev with
    | .moonGet k i | .moonPut k i | .moonAdd k i | .moonSmin k i | .moonUmin k i | .moonSmax k i | .moonUmax k i
    | .moonXchg k i | .moonCas k i => if k.val = mk then some (i, e.due) else none
    | _ => none

/-- Requests that have become ready get their cycles of performance, at most one a cycle, each after those given before
(R54, R55). -/
def State.startReady (s : State) : State :=
  let mk := s.moonKey
  ((s.moon mk).ready).foldl (fun s r =>
    let dues := s.performDues mk
    if dues.any fun d => d.1 == r.id then s
    else
      let dl := s.delay
      dl.2.schedule (max (s.now + 1 + dl.1) (dues.foldl (fun m d => max m (d.2 + 1)) 0)) s.cur (r.event mk)) s

/-- Walks start for the requests that need one, share none under way, and find fewer than 16 running (R53). -/
def State.startWalks (s : State) : State :=
  let mk := s.moonKey
  ((s.moon mk).queue.filter MReq.waits).foldl (fun s r =>
    let walks := (s.moon mk).queue.filter fun q => q.walking
    if r.walking || r.own.isSome || (walks.any fun q => q.sameWalk r) || 16 ≤ walks.length then s
    else
      (s.modMoon mk fun m => { m with queue := m.queue.map fun q => if q.id = r.id then { q with walking := true } else q
        }).after 1 s.cur (.translationWalk (Fin.ofNat 64 mk) r.id)) s

/-- A request leaves a moon's queue; each TLBINV that waited for it last completes (R52). -/
def State.leaveMoon (s : State) (id : Nat) : State :=
  let mk := s.moonKey
  let left := (s.moon mk).inval.map fun l => l.erase id
  let s1 := s.modMoon mk fun m =>
    { m with queue := m.queue.filter (fun q => q.id != id), inval := left.filter fun l => !l.isEmpty }
  (left.filter fun l => l.isEmpty).foldl (fun s _ => s.schedule s.now s.cur .tlbinvComplete) s1

/-- A request whose translation is known: rights are checked, and it joins those that may be performed. -/
def State.translated (s : State) (r : MReq) (t : TlbEnt) : State :=
  match t.denies r with
  | some reason => (s.leaveMoon r.id).moonFault r reason
  | none => s.modMoon s.moonKey fun m => { m with
      queue := m.queue.map fun q => if q.id = r.id then { q with pa := some (t.phys r.addr), walking := false } else q }

/-- A request is accepted: checked, then placed in the moon's order (R46, R54). -/
def State.acceptReq (s : State) (p : Packet) : State :=
  let mk := s.moonKey
  let m := s.moon mk
  let r := MReq.of m.nextId p
  match r.refusal p with
  | some reason => s.moonFault r reason
  | none =>
    let r := if r.phys then { r with pa := some r.addr } else r
    let s1 := s.modMoon mk fun m => { m with nextId := m.nextId + 1, queue := m.queue ++ [r] }
    let s2 :=
      if r.phys then s1
      else if (m.asidEnt r.asid).getLsbD 0 == false then (s1.leaveMoon r.id).moonFault r 0x01
      else
        match m.hit r.asid r.addr with
        | some t => s1.translated r t
        | none => s1
    s2.startWalks.startReady

/-- Whether a moon waits with a report that finds its queue full: it stays as it is (R366). -/
def State.moonHeld (s : State) : Bool := s.reportWaits (dieOf s.cur) (s.rankOf s.cur)

/-- Whether a moon takes no request now: it has stopped, waits with a report, has 512 requests, or has taken one in this cycle (R53, R54,
R60, R366). -/
def State.moonFull (s : State) : Bool :=
  let m := s.moon s.moonKey
  m.stopped || s.moonHeld || decide (512 ≤ m.queue.length) || m.tookAt == some s.now

/-- A request is taken in this cycle (R54). -/
def State.takesReq (s : State) : State := s.modMoon s.moonKey fun m => { m with tookAt := some s.now }

/-- MREQ: a request arrives at the ingress. It waits outside, in order, where the moon takes none now. -/
def execMreq (p : Packet) (s : State) : Host.Outcome State Fault Refusal :=
  .next (s.arrive p 0x10 fun s =>
    let m := s.moon s.moonKey
    if s.moonFull || !m.ingress.isEmpty then
      let s1 := s.modMoon s.moonKey fun m => { m with ingress := m.ingress ++ [p] }
      if m.ingress.isEmpty then s1.after (if m.stopped then 1024 else 1) s.cur (.moonIngressRetry p) else s1
    else s.takesReq.acceptReq p)

/-- MOON_INGRESS_RETRY (R53, R60): the oldest waiting request is offered again. -/
def execMoonIngressRetry (p : Packet) (s : State) : Host.Outcome State Fault Refusal :=
  let m := s.moon s.moonKey
  match m.ingress with
  | [] => .next s
  | q :: r =>
    if s.moonFull then
      .next (s.after (if m.stopped then 1024 else 1) s.cur (.moonIngressRetry p))
    else
      let s1 := (s.modMoon s.moonKey fun m => { m with ingress := r }).takesReq.acceptReq q
      .next (if r.isEmpty then s1 else s1.after 1 s.cur (.moonIngressRetry p))

/-- A leaf is known: it enters the TLB, and the requests that it translates go on. -/
def State.leafFound (s : State) (t : TlbEnt) (rs : List MReq) : State :=
  rs.foldl (fun s q => s.translated q t) (s.modMoon s.moonKey fun m => m.fill t)

/-- The requests whose translation faults are answered. -/
def State.walkFault (s : State) (reason : Nat) (rs : List MReq) : State :=
  rs.foldl (fun s q => (s.leaveMoon q.id).moonFault q reason) s

/-- The entry of a level-3 table has been read for the requests of one 64 KiB page. -/
def State.endLeaf (s : State) (base : Nat) (r : MReq) (rs : List MReq) : State :=
  match s.leaf3 s.moonKey base r.asid r.addr with
  | .ok t => s.leafFound t rs
  | .error reason => s.walkFault reason rs

/-- TRANSLATION_WALK (R50-R53): a walk, or the read of a request's own level-3 entry, ends. A leaf or fault met down to level 2
serves every request that shares the walk. Past it, the walk serves those of its own 64 KiB page, and each of the others reads its
own level-3 entry. -/
def execTranslationWalk (moon : Fin 64) (id : Nat) (s : State) : Host.Outcome State Fault Refusal :=
  let mk := moon.val
  let m := s.moon mk
  let s := { s with cur := rankKeyOfMoon mk }
  match m.queue.find? fun r => r.id == id && (r.walking || r.own.isSome) with
  | none => .next s
  | some r =>
    if m.stopped then .next s
    else if s.moonHeld then .next (s.after 1 s.cur (.translationWalk moon id))
    else
      match r.own with
      | some base => .next (s.endLeaf base r [r]).startWalks.startReady
      | none =>
        let sharers := m.queue.filter fun q => q.waits && q.own.isNone && q.sameWalk r
        match s.walk2 mk r.asid r.addr with
        | .error reason => .next (s.walkFault reason sharers).startWalks.startReady
        | .ok (.inl t) => .next (s.leafFound t sharers).startWalks.startReady
        | .ok (.inr base) =>
          let mine := sharers.filter fun q => q.addr / 2 ^ 16 == r.addr / 2 ^ 16
          let rest := sharers.filter fun q => q.addr / 2 ^ 16 != r.addr / 2 ^ 16
          let s1 := s.endLeaf base r mine
          let s2 := rest.foldl (fun s q =>
            (s.modMoon mk fun m => { m with queue := m.queue.map fun x => if x.id = q.id then { x with own := some base } else x
              }).after 1 s.cur (.translationWalk moon q.id)) s1
          .next s2.startWalks.startReady

/-! ### Performance (R45, R47, R57) -/

/-- Ops that `mtrctl.ops` lets into the ring. -/
def traceOps (ops : Nat) (r : MReq) : Bool := if ops = 0 then true else if ops = 1 then r.writes else r.atomic

/-- A traced request writes one entry of the ring (R57-R59). -/
def Moon.traceEntry (m : Moon) (now : Nat) (r : MReq) (result : Nat) : Moon :=
  let c := m.mtrctl.toNat
  let wp := fld c 16 12
  if fld c 0 1 = 0 || r.phys || !(m.asidEnt r.asid).getLsbD 1 || !traceOps (fld c 2 2) r then m
  else if fld c 1 1 = 1 && fld c 28 1 = 1 then { m with mtrctl := m.mtrctl ||| 0x20000000#32 }
  else
    let e : BitVec 128 := BitVec.ofNat 128 (r.src.toNat + 2 ^ 32 * r.addr + 2 ^ 74 * r.op.toNat + 2 ^ 78 * result +
      2 ^ 80 * (now % 2 ^ 40) + 2 ^ 120 * r.asid.toNat)
    let wp' := (wp + 1) % 4096
    let full := if wp' = 0 then 1 else fld c 28 1
    { m with
      ring := m.ring.put wp e
      mtrctl := BitVec.ofNat 32 (c % 2 ^ 16 + 2 ^ 16 * wp' + 2 ^ 28 * full + 2 ^ 29 * fld c 29 1) }

/-- What an atomic leaves (R45). -/
def atomNew (op n : Nat) (old a b : Nat) : Nat :=
  let so := signExtend old n
  let sa := signExtend a n
  match op / 2 with
  | 1 => wrapInt ((old : Int) + a) n
  | 2 => wrapInt (min so sa) n
  | 3 => min old a
  | 4 => wrapInt (max so sa) n
  | 5 => max old a
  | 6 => a
  | _ => if old = b then a else old

/-- The moon performs the request with an id, if its op is one of `ops` (R44, R45, R47, R48, R57). -/
def State.performReq (s : State) (mk id : Nat) (ops : List Nat) : State :=
  let s := { s with cur := rankKeyOfMoon mk }
  let m := s.moon mk
  match m.queue.find? fun r => r.id == id && ops.contains r.op.toNat with
  | none => s
  | some r =>
    match r.pa with
    | none => s
    | some pa =>
      if m.stopped then s
      else if s.moonHeld then s.startReady
      else
        let at_ := mk * moonRegion + pa
        let bad := r.op != 1 && s.hbmBad.any fun b => decide (at_ ≤ b) && decide (b < at_ + r.len)
        let out :=
          if bad then ((s.modMoon mk fun m => m.traceEntry s.now r 1).leaveMoon id).moonFault r 0x08
          else if r.op = 0 then
            ((s.modMoon mk fun m => m.traceEntry s.now r 0).leaveMoon id).mreply r 1 0 0 (s.hbm.read at_ r.len)
          else if r.op = 1 then
            let s1 := { s with
              hbm := s.hbm.write at_ (r.data.take r.len)
              hbmBad := (s.hbmBad.filter fun b => !(decide (at_ ≤ b) && decide (b < at_ + r.len))) ++
                (r.bad.filter fun o => decide (o < r.len)).map (at_ + ·) }
            ((s1.modMoon mk fun m => m.traceEntry s.now r 0).leaveMoon id).mreply r 1 0 0 []
          else
            let n := 8 * r.atomBytes
            let old := s.hbm.readNat at_ r.len
            let a := fld r.a.toNat 0 n
            let b := fld r.b.toNat 0 n
            let miss := decide (14 ≤ r.op.toNat) && old != b
            let s1 := if miss then s
              else { s with hbm := s.hbm.write at_ (bytesOf (atomNew r.op.toNat n old a b) r.len) }
            ((s1.modMoon mk fun m => m.traceEntry s.now r (if miss then 2 else 0)).leaveMoon id).mreply r 1 0
              (BitVec.ofNat 64 old) []
        out.startReady

def execMoonGet (moon : Fin 64) (id : Nat) (s : State) : Host.Outcome State Fault Refusal :=
  .next (s.performReq moon.val id [0])
def execMoonPut (moon : Fin 64) (id : Nat) (s : State) : Host.Outcome State Fault Refusal :=
  .next (s.performReq moon.val id [1])
def execMoonAdd (moon : Fin 64) (id : Nat) (s : State) : Host.Outcome State Fault Refusal :=
  .next (s.performReq moon.val id [2, 3])
def execMoonSmin (moon : Fin 64) (id : Nat) (s : State) : Host.Outcome State Fault Refusal :=
  .next (s.performReq moon.val id [4, 5])
def execMoonUmin (moon : Fin 64) (id : Nat) (s : State) : Host.Outcome State Fault Refusal :=
  .next (s.performReq moon.val id [6, 7])
def execMoonSmax (moon : Fin 64) (id : Nat) (s : State) : Host.Outcome State Fault Refusal :=
  .next (s.performReq moon.val id [8, 9])
def execMoonUmax (moon : Fin 64) (id : Nat) (s : State) : Host.Outcome State Fault Refusal :=
  .next (s.performReq moon.val id [10, 11])
def execMoonXchg (moon : Fin 64) (id : Nat) (s : State) : Host.Outcome State Fault Refusal :=
  .next (s.performReq moon.val id [12, 13])
def execMoonCas (moon : Fin 64) (id : Nat) (s : State) : Host.Outcome State Fault Refusal :=
  .next (s.performReq moon.val id [14, 15])

/-! ### The supervisor's commands (R52, R58-R60, R371) -/

/-- Whether a scope covers an ASID and a virtual page. -/
def InvScope.covers (sc : InvScope) (a : Byte) (va : Nat) (size : Nat) : Bool :=
  match sc with
  | .all => true
  | .asid x => x == a
  | .page x v => x == a && v / size == va / size

/-- TLBINV (R52): entries of the scope are removed; it completes once every request translated through one of them has been
performed. -/
def execTlbinv (moon : Fin 64) (scope : InvScope) (s : State) : Host.Outcome State Fault Refusal :=
  let mk := moon.val
  let m := s.moon mk
  let gone := m.tlb.filter fun t => InvScope.covers scope t.asid t.va (if t.big then 2 ^ 21 else 2 ^ 16)
  let ids := (m.queue.filter fun r => !r.phys && !r.waits && gone.any fun t =>
    t.asid == r.asid && (if t.big then t.va / 2 ^ 21 == r.addr / 2 ^ 21 else t.va / 2 ^ 16 == r.addr / 2 ^ 16)).map (·.id)
  let s1 := s.modMoon mk fun m => { m with
    tlb := m.tlb.filter fun t => !gone.contains t, inval := if ids.isEmpty then m.inval else m.inval ++ [ids] }
  .next (if ids.isEmpty then s1.schedule s.now (rankKeyOfMoon mk) .tlbinvComplete else s1)

/-- TLBINV_COMPLETE (R52): the supervisor is answered. -/
def execTlbinvComplete (s : State) : Host.Outcome State Fault Refusal :=
  .next { s with mgmt := { s.mgmt with replies := s.mgmt.replies ++ [.ok] } }

/-- MTRCTL_WRITE (R59). -/
def execMtrctlWrite (moon : Fin 64) (v : W32) (s : State) : Host.Outcome State Fault Refusal :=
  .next (s.modMoon moon.val fun m =>
    let o := m.mtrctl.toNat
    let x := v.toNat
    let ops := if fld x 2 2 = 3 then fld o 2 2 else fld x 2 2
    let start := fld x 0 1 = 1 ∧ fld o 0 1 = 0
    let wp := if start then 0 else fld o 16 12
    let full := if start then 0 else fld o 28 1
    let lost := if fld x 29 1 = 1 then 0 else fld o 29 1
    { m with mtrctl := BitVec.ofNat 32 (fld x 0 2 + 4 * ops + 2 ^ 16 * wp + 2 ^ 28 * full + 2 ^ 29 * lost) })

/-- An entry of the ring; one never written reads result 3 (R58). -/
def Moon.ringEntry (m : Moon) (i : Nat) : BitVec 128 := (m.ring.find i).getD (BitVec.ofNat 128 (3 * 2 ^ 78))

/-- TRACE_ENTRY_READ (R59): the entry's two words reach the supervisor. -/
def execTraceEntryRead (moon : Fin 64) (i : Fin 4096) (s : State) : Host.Outcome State Fault Refusal :=
  let e := (s.moon moon.val).ringEntry i.val
  .next { s with mgmt := { s.mgmt with readback := s.mgmt.readback ++ [e.setWidth 64, (e >>> 64).setWidth 64] } }

/-- MOON_STOP (R60): 0 TLB, 1 ASID table, 2 request buffers, 3 trace ring. -/
def execMoonStop (moon : Fin 64) (structure_ : Fin 4) (s : State) : Host.Outcome State Fault Refusal :=
  let k := rankKeyOfMoon moon.val
  .next ((s.modMoon moon.val fun m => { m with stopped := true, restarted := false }).reportEvent (dieOf k) (s.rankOf k)
    0x27 structure_.val)

/-- MOON_RELEASE (R371): a moon that the host restarted is released. Every request held inside is answered FAULT with reason
0x08, and refused requests are accepted again. -/
def execMoonRelease (moon : Fin 64) (s : State) : Host.Outcome State Fault Refusal :=
  let mk := moon.val
  let m := s.moon mk
  if !(m.stopped && m.restarted) then .next s
  else
    let s1 := { (s.modMoon mk fun m => { m with stopped := false, restarted := false }) with cur := rankKeyOfMoon mk }
    .next (m.queue.foldl (fun s r => (s.leaveMoon r.id).moonFault r 0x08) s1)

end Sys2Proof.Machine
end

