-- ==== Sys2Proof/Machine/MoonOps.lean ====
section
/-!
DEFINITION. A tile's moon transfers (R217-R220) and the replies that finish them (R218).
-/

namespace Sys2Proof.Machine

/-! ### Pieces (R217) -/

/-- Chunk bits of a transfer whose pieces have partly replied (R107): a chunk is complete once every piece that reaches
into it is DONE. -/
def pieceBits (len : Nat) (ps : List Piece) : W64 :=
  let cs := 512 * 2 ^ chunkExp len
  geomBits len ||| BitVec.ofNat 64 (packLanes 1 ((List.range (min 64 (nchunks len))).map fun (i : Nat) =>
    if ps.all fun p => !overlaps p.off p.len ((i * cs : Nat) : Int) cs || p.reply == some 0 then 1 else 0))

/-! ### Completion (R218) -/

/-- EXGET_FAULT (R40): a fault of an `exget` is counted and reported. -/
def State.exgetFault (s : State) (e : W16) (reason : Nat) : State :=
  let d := dieOf s.cur
  (s.modCnt d fun c => { c with exgetFaults := sat32 c.exgetFaults }).reportEvent d (s.rankOf s.cur) 0x25
    ((s.rankOf s.cur).toNat + 2 ^ 32 * e.toNat + 2 ^ 48 * reason)

/-- Every piece of a transfer has its answer: FAULT with the lowest faulting piece, else TIMEOUT, else DONE. -/
def State.endPieces (s : State) (xid : W16) (c : Slot) : State :=
  let ps := c.x.pieces
  let s1 := c.x.expert.elim s fun e => s.dropReaders e 1
  match ps.find? fun p => p.reply != some 0 && p.reply != some abandoned with
  | some p =>
    let reason := ((p.reply).getD 0).toNat
    let s2 := s1.complete s.cur xid 2 none (faultDetail reason p.off)
    c.x.expert.elim s2 fun e => s2.exgetFault e reason
  | none => if ps.any fun p => p.reply == some abandoned then s1.complete s.cur xid 6 none 0 else s1.complete s.cur xid 1 none 0

/-- The answer to one piece of a moon transfer: a reason, 0 for DONE, with the data or value it brings. -/
def State.pieceAnswer (s : State) (xid : W16) (i : Nat) (code : Byte) (data : List Byte) (marks : List Nat) (value : W64) : State :=
  match s.t.live xid with
  | none => s
  | some c =>
    match c.x.pieces[i]? with
    | none => s
    | some p =>
      if c.terminal || p.reply.isSome then s
      else
        let ps := c.x.pieces.set i { p with reply := some code }
        let spec := c.spec && s.t.isSpec
        let s1 :=
          if code != 0 || c.drop then s
          else if c.op == .mget || c.op == .exget then s.modT fun t =>
            (t.spmWrite spec (c.x.buf + p.off) data).markBad spec (c.x.buf + p.off) data.length marks
          else if c.op == .matom then s.modT fun t => t.spmWrite spec (c.x.buf + 32) (bytesOf value.toNat 8)
          else s
        let c' : Slot := { c with x := { c.x with pieces := ps }, bits := pieceBits c.length.toNat ps }
        let s2 := s1.modSlot s.cur xid fun _ => c'
        if ps.all fun q => q.reply.isSome then s2.endPieces xid c' else s2

/-- An answer of a moon to a request of a unit or of a tile's transfer; one to a thread that is gone is discarded (R370). A unit to which
a word comes marked uncorrectable reads an error: reason 0x08 (R48, R372, log 72). -/
def State.moonAnswer (s : State) (owner moon : Rank) (xid : W16) (i : Nat) (code : Byte) (data : List Byte) (marks : List Nat)
    (value : W64) : State :=
  if s.t.msg.orphans.contains (moon, xid, i) then
    s.modT fun t => { t with msg := { t.msg with orphans := t.msg.orphans.erase (moon, xid, i) } }
  else
    (s.jobAnswer owner xid i (if marks.isEmpty then code else 0x08) data).getD (s.pieceAnswer xid i code data marks value)

/-- MRSP (R47, R218): a moon reply lands at the requester. -/
def execMrsp (p : Packet) (s : State) : Host.Outcome State Fault Refusal :=
  .next (s.arrive p 0x11 fun s =>
    let h := ofBytes (p.payload.take 16)
    s.moonAnswer p.dst p.src (BitVec.ofNat 16 (fld h 32 16)) (fld h 16 16)
      (if fld h 0 4 = 1 then 0 else BitVec.ofNat 8 (fld h 8 8)) (p.payload.drop 16) (packetBad p 1)
      (BitVec.ofNat 64 (fld h 64 64)))

/-- A transfer of pieces starts: its geometry, its requests; one without pieces is DONE. -/
def State.startPieces (s : State) (xid : W16) (op len : Nat) (phys : Bool) (body : Piece → List Byte) (ps : List Piece) :
    State :=
  let s1 := (s.fixGeom s.cur xid len).modXfer s.cur xid fun x => { x with pieces := ps }
  if ps.isEmpty then s1.complete s.cur xid 1 none 0 else s1.sendPieces (s.rankOf s.cur) s.t.thr.asid xid op phys body ps

/-! ### `mget` and `mput` (R217) -/

/-- The checks of R217 after those of R198. -/
def State.moonChecks (s : State) (b : BufWord) (m : W64) : List (Bool × Nat) :=
  s.bufChecks b true none ++ [(hiHalf m == 0, 0x81), (moonRankOk (loHalf m), 0x82)]

def execMget (a : Attr) (uli : Bool) (d sv sb sm : Reg) (s : State) : Host.Outcome State Fault Refusal :=
  finish s do
    let b := BufWord.of (s.rdS sb)
    let m := s.rdS sm
    let checks := s.moonChecks b m
    if (firstFault checks).isNone then s.specWrite b.addr b.len
    let va := (s.rdS sv).toNat
    s.engineOp a d .mget b.len uli { Xfer.empty with buf := b.addr, len := b.len, peer := loHalf m } checks fun s xid =>
      s.startPieces xid 0 b.len false (fun _ => []) (cutPieces (loHalf m) va b.len 0 cutFuel)

def execMput (a : Attr) (uli : Bool) (d sv sb sm : Reg) (s : State) : Host.Outcome State Fault Refusal :=
  finish s do
    s.noSpec
    let b := BufWord.of (s.rdS sb)
    let m := s.rdS sm
    let va := (s.rdS sv).toNat
    let checks := s.moonChecks b m ++ [((s.t.badWord b.addr b.len).isNone, 0x85)]
    s.engineOp a d .mput b.len uli { Xfer.empty with buf := b.addr, len := b.len, peer := loHalf m } checks fun s xid =>
      s.startPieces xid 1 b.len false (fun p => s.t.spmRead false (b.addr + p.off) p.len)
        (cutPieces (loHalf m) va b.len 0 cutFuel)

/-! ### `matom` (R219) -/

/-- The code of an atomic (R44). -/
def AtomOp.code (op : AtomOp) (wide : Bool) : Nat :=
  (match op with
    | .add => 2
    | .smin => 4
    | .umin => 6
    | .smax => 8
    | .umax => 10
    | .xchg => 12
    | .cas => 14) + wide.toNat

def execMatom (a : Attr) (op : AtomOp) (wide : Bool) (uli : Bool) (d sa : Reg) (s : State) :
    Host.Outcome State Fault Refusal :=
  finish s do
    s.noSpec
    let x := s.rdS sa
    let addr := fld x.toNat 0 20
    let n := if wide then 8 else 4
    let r := s.t.spmNat false addr 48
    let A := fld r 128 64
    let B := fld r 192 64
    let moon : Rank := BitVec.ofNat 32 (fld r 0 32)
    let rsv := fld r 32 32 == 0 && fld r 320 64 == 0 && (wide || fld A 32 32 == 0) &&
      (if op = .cas then wide || fld B 32 32 == 0 else B == 0)
    let checks : List (Bool × Nat) :=
      [(fld x.toNat 20 44 == 0 && !outOfSpm addr 48 && !s.t.hitsHamper addr 48 && addr % 16 == 0, 0x81),
        ((s.t.badWord addr 48).isNone, 0x85), (rsv, 0x81), (moonRankOk moon, 0x82)]
    s.engineOp a d .matom n uli { Xfer.empty with buf := addr, len := n, peer := moon } checks fun s xid =>
      s.startPieces xid (AtomOp.code op wide) n false (fun _ => bytesOf (A + 2 ^ 64 * B) 16)
        [⟨0, n, moon, fld r 64 64, true, none⟩]

/-! ### `exget` (R41, R220) -/

/-- The parts of [off, off + len) of an expert's image, from `done` bytes of the transfer up, cut into pieces. -/
def State.expertPieces (s : State) (x : ErtEnt) (psize off len done : Nat) : Nat → List Piece
  | 0 => []
  | fuel + 1 =>
    if len = 0 ∨ psize = 0 then []
    else
      let p := off / psize
      let n := min len (psize - off % psize)
      let d := x.dieOfPart p
      cutPieces (s.rankOf (d.val * 1024 + 288 + x.moon.val)) (x.base.toNat * 65536 + (off - p * psize)) n done cutFuel ++
        s.expertPieces x psize (off + n) (len - n) (done + n) fuel

/-- The conditions of R41 under which an expert's range resolves. -/
def State.expertOk (s : State) (e : W16) (x : ErtEnt) (off len : Nat) : Bool :=
  e != 0xFFFF#16 && x.present && x.asid == s.t.thr.asid && x.readers != BitVec.allOnes 16 &&
    decide (off + len ≤ x.size.toNat * 65536)

def execExget (a : Attr) (uli : Bool) (d se sb so : Reg) (s : State) : Host.Outcome State Fault Refusal :=
  finish s do
    let b := BufWord.of (s.rdS sb)
    let ev := s.rdS se
    let e : W16 := ev.setWidth 16
    let ov := s.rdS so
    let off := fld ov.toNat 0 32
    check (!s.isFrozen 0 e.toNat) (.stall 0)
    let x := s.ertEnt e
    let checks := s.bufChecks b true none ++
      [(fld ev.toNat 16 48 == 0, 0x81), (hiHalf ov == 0, 0x81), (s.expertOk e x off b.len, 0x80)]
    if (firstFault checks).isNone then s.specWrite b.addr b.len
    let s1 ← s.engineOp a d .exget b.len uli
      { Xfer.empty with buf := b.addr, len := b.len, expert := if (firstFault checks).isNone then some e else none } checks
      fun s xid =>
        let ps := s.expertPieces x (x.size.toNat * 65536 / x.parts) off b.len 0 8
        let s1 := s.setEnt e { x with readers := x.readers + 1 }
        let s2 := s1.startPieces xid 0 b.len true (fun _ => []) ps
        if ps.isEmpty then s2.dropReaders e 1 else s2
    return (firstFault checks).elim s1 fun r => s1.exgetFault e r

end Sys2Proof.Machine
end

