-- ==== Sys2Proof/Machine/Link.lean ====
section
/-!
DEFINITION. Packets that leave the module (R74-R76), scale-up ports (R69-R71), end-to-end acknowledgements, retirement and
giving up (R72, R73).
-/

namespace Sys2Proof.Machine

/-! ### Packets and flits as bits (R66, R69) -/

/-- The bytes of a packet: its 32-byte routing header, then its payload. -/
def packetBytes (p : Packet) : List Byte :=
  bytesOf (p.dst.toNat + 2 ^ 32 * p.src.toNat + 2 ^ 64 * p.kind.toNat + 2 ^ 70 * p.cls.toNat + 2 ^ 72 * p.payload.length +
    2 ^ 88 * p.sv.toNat + 2 ^ 89 * p.rsv.toNat + 2 ^ 96 * p.seq.toNat + 2 ^ 128 * p.group.toNat + 2 ^ 144 * p.xid.toNat +
    2 ^ 160 * p.off.toNat + 2 ^ 184 * p.aux.toNat + 2 ^ 192 * p.ext.toNat) 32 ++ p.payload

/-- The payload length that a routing header states. -/
def headerLen (bs : List Byte) : Nat := fld (ofBytes (bs.take 32)) 72 16

/-- The packet whose bytes these are. -/
def packetOf (bs : List Byte) : Packet :=
  let h := ofBytes (bs.take 32)
  { dst := BitVec.ofNat 32 h
    src := BitVec.ofNat 32 (fld h 32 32)
    kind := BitVec.ofNat 6 (fld h 64 6)
    cls := BitVec.ofNat 2 (fld h 70 2)
    sv := fld h 88 1 == 1
    rsv := BitVec.ofNat 7 (fld h 89 7)
    seq := BitVec.ofNat 32 (fld h 96 32)
    group := BitVec.ofNat 16 (fld h 128 16)
    xid := BitVec.ofNat 16 (fld h 144 16)
    off := BitVec.ofNat 24 (fld h 160 24)
    aux := BitVec.ofNat 8 (fld h 184 8)
    ext := BitVec.ofNat 64 (fld h 192 64)
    payload := (bs.drop 32).take (headerLen bs)
    bad := [] }

/-- One step of CRC-32C (Castagnoli, reflected). -/
def crcBit (c : Nat) : Nat := if c % 2 = 1 then (c / 2) ^^^ 0x82F63B78 else c / 2

def crcByte (c : Nat) (b : Byte) : Nat :=
  crcBit (crcBit (crcBit (crcBit (crcBit (crcBit (crcBit (crcBit (c ^^^ b.toNat))))))))

/-- CRC-32C of some bytes. -/
def crc32c (bs : List Byte) : W32 := BitVec.ofNat 32 (bs.foldl crcByte 0xFFFFFFFF ^^^ 0xFFFFFFFF)

/-- Bits [1983:0] of a flit (R69). -/
def flitBody (f : Flit) : List Byte :=
  bytesOf (f.fseq.toNat + 2 ^ 12 * f.ackseq.toNat + 2 ^ 24 * f.ackv.toNat + 2 ^ 25 * f.kind.toNat + 2 ^ 28 * f.ccls.toNat +
    2 ^ 30 * f.ccnt.toNat + 2 ^ 38 * f.qdep.toNat + 2 ^ 54 * f.rsv.toNat) 8 ++ (f.payload ++ List.replicate 240 0).take 240

/-- A flit with its payload filled up and its CRC. -/
def sealFlit (f : Flit) : Flit :=
  { f with
    payload := (f.payload ++ List.replicate 240 0).take 240
    crc := crc32c (flitBody f) }

/-- The view that a TRAIN flit's payload holds (log 71). -/
def flitView (f : Flit) : View := BitVec.ofNat 27 (ofBytes (f.payload.take 4))

/-! ### Scale-up ports (R69-R71) -/

def State.modPort (s : State) (k : Fin 18) (f : Port → Port) : State :=
  { s with net := { s.net with port := s.net.port.set k (f s.net.port[k]) } }

/-- A flit leaves a port. -/
def State.putFlit (s : State) (k : Fin 18) (f : Flit) : State :=
  { s with net := { s.net with flits := s.net.flits ++ [(k, sealFlit f)] } }

/-- A flit of a port with nothing in it but the acknowledgement it carries. The module has no far link whose depth it could tell
(R74): its `qdep` is 0 (log 71). -/
def Port.bare (p : Port) (kind : Nat) : Flit :=
  ⟨0, p.good, p.goodv, BitVec.ofNat 3 kind, 0, 0, 0, 0, [], 0, 0⟩

/-- The flits that a packet fills, at 240 bytes each. -/
def flitCount (p : Packet) : Nat := (pktBytes p + 239) / 240

/-- The DATA flits of a packet. -/
def Port.dataFlits (p : Port) (pkt : Packet) : List Flit :=
  (List.range (flitCount pkt)).map fun i =>
    { p.bare 0 with
      fseq := p.fseq + BitVec.ofNat 12 i
      payload := ((packetBytes pkt).drop (240 * i)).take 240 }

/-- A port sends the packets of a class whose turn has come, as far as its replay buffer and the class's credits let it (R63, R70). -/
def State.pump (s : State) (k : Fin 18) (c : Fin 3) : Nat → State
  | 0 => s
  | fuel + 1 =>
    let p := s.net.port[k]
    match p.queue[c] with
    | [] => s
    | (ready, pkt) :: r =>
      let n := flitCount pkt
      if p.up && decide (ready ≤ s.now) && decide (p.replay.length + n ≤ 512) && decide (n ≤ p.credits[c]) then
        let fs := p.dataFlits pkt
        let s1 := s.modPort k fun p => { p with
          queue := p.queue.set c r
          fseq := p.fseq + BitVec.ofNat 12 n
          replay := p.replay ++ fs
          credits := p.credits.set c (p.credits[c] - n) }
        let s2 := fs.foldl (fun s f => s.putFlit k f) s1
        State.pump { s2 with net := { s2.net with out := s2.net.out ++ [(k.val, pkt)] } } k c fuel
      else s

/-- A port in a cycle: CTL goes first, then RSP, then REQ. -/
def State.pumpPort (s : State) (k : Fin 18) : State :=
  [(2 : Fin 3), 1, 0].foldl (fun s c => s.pump k c (s.net.port[k]).queue[c].length) s

/-- The packets of an Ultra Ethernet port leave in order, one a cycle, when UET's congestion control lets them (R76). -/
def State.uetPort (s : State) (k : Fin 8) : State :=
  match s.net.uet[k] with
  | [] => s
  | (ready, p) :: r =>
    if s.now < ready then s
    else
      let s1 := { s with freeCtr := s.freeCtr + 1 }
      if Config.uetHolds s.freeCtr then s1
      else { s1 with net := { s1.net with uet := s1.net.uet.set k r, out := s1.net.out ++ [(18 + k.val, p)] } }

/-- The ports in a new cycle. -/
def State.portCycle (s : State) : State :=
  (List.finRange 8).foldl State.uetPort ((List.finRange 18).foldl State.pumpPort s)

/-- A port starts to train (R71): it is down, its view is settled, and one TRAIN flit carries it. Its replay buffer is dropped 65,536
cycles after it went down. -/
def State.startTraining (s : State) (k : Fin 18) : State :=
  let view := Config.trainView s.freeCtr
  let wasUp := s.net.port[k].up
  let s1 := ({ s with freeCtr := s.freeCtr + 1 } : State).modPort k fun p => { p with
    up := false
    training := true
    failed := false
    view := view
    naks := 0
    downAt := if p.up then s.now else p.downAt
    trainAt := s.now }
  let s2 := (s1.putFlit k { s1.net.port[k].bare 3 with payload := bytesOf view.toNat 4 }).schedule (s.now + 65536) 0 (.linkTimeout k)
  if wasUp then s2.schedule (s.now + 65536) 0 (.replayBufferDrop k) else s2

/-- Ports stay down in the safe state (R387). -/
def State.safeState (s : State) : Bool := decide (0x80 ≤ s.mgmt.bootst.toNat)

/-- The training that an event starts. -/
def State.train (s : State) (k : Fin 18) : State := if s.safeState then s else s.startTraining k

/-- The training that a change of the link starts: not of a port that failed, which waits for the supervisor (R71). -/
def State.trainSelf (s : State) (k : Fin 18) : State := if (s.net.port[k]).failed then s else s.train k

def execLinkUp (port : Fin 18) (s : State) : Host.Outcome State Fault Refusal := .next (s.trainSelf port)
def execLossOfLock (port : Fin 18) (s : State) : Host.Outcome State Fault Refusal := .next (s.trainSelf port)
def execPortRetrainCommand (port : Fin 18) (s : State) : Host.Outcome State Fault Refusal := .next (s.train port)

/-- The `tval` of a link report (R367). -/
def linkVal (k : Fin 18) (own far : View) : Nat := k.val + 2 ^ 5 * own.toNat + 2 ^ 32 * far.toNat

/-- A training that failed: the port stays down. -/
def State.trainFails (s : State) (k : Fin 18) : State := s.modPort k fun p => { p with training := false, failed := true }

/-- LINK_TIMEOUT (R71). -/
def execLinkTimeout (port : Fin 18) (s : State) : Host.Outcome State Fault Refusal :=
  let p := s.net.port[port]
  if p.training && decide (p.trainAt + 65536 ≤ s.now) then
    .next ((s.trainFails port).reportEvent 0 (s.svRank 0) 0x29 (linkVal port p.view 0))
  else .next s

/-- REPLAY_BUFFER_DROP (R71): the flits of a packet that had not come whole are lost with it. -/
def execReplayBufferDrop (port : Fin 18) (s : State) : Host.Outcome State Fault Refusal :=
  let p := s.net.port[port]
  if !p.up && decide (p.downAt + 65536 ≤ s.now) then .next (s.modPort port fun p => { p with replay := [], part := [] }) else .next s

/-- A flit that counts as corrupted (R69). -/
def badFlit (f : Flit) : Bool :=
  f.crc != crc32c (flitBody f) || f.rsv != 0 || f.rsvEnd != 0 || f.ccls == 3 || decide (4 ≤ f.kind.toNat)

/-- The replay buffer without the flits that an acknowledgement covers (R70). -/
def ackReplay (l : List Flit) (ack : BitVec 12) : List Flit :=
  if l.any fun f => f.fseq == ack then (l.dropWhile fun f => f.fseq != ack).tail else l

/-- What every good flit carries: an acknowledgement, credits, and the far queue's depth. -/
def State.flitHeader (s : State) (k : Fin 18) (f : Flit) : State :=
  s.modPort k fun p =>
    let c := Fin.ofNat 3 f.ccls.toNat
    { p with
      replay := if f.ackv then ackReplay p.replay f.ackseq else p.replay
      credits := p.credits.set c (p.credits[c] + f.ccnt.toNat)
      qdep := f.qdep }

/-- A NAK carries the last good flit's number. -/
def State.sendNak (s : State) (k : Fin 18) : State :=
  (s.modPort k fun p => { p with nakSent := true }).putFlit k ((s.net.port[k]).bare 2)

/-- A bad flit is answered with a NAK: the first that is out of sequence, and each that is corrupted, since a flit that is sent again
may be corrupted again (R70, log 71). -/
def State.badFlit (s : State) (k : Fin 18) (corrupt : Bool) : State :=
  if corrupt || !(s.net.port[k]).nakSent then s.sendNak k else s

/-- The replay buffer is sent again, with the acknowledgement of now (R70, R71). -/
def State.replayAll (s : State) (k : Fin 18) : State :=
  let p := s.net.port[k]
  p.replay.foldl (fun s f => s.putFlit k { f with ackseq := p.good, ackv := p.goodv }) s

/-- A packet that the switch die passes to an endpoint of the module. -/
def State.fromSwitch (s : State) (p : Packet) : State :=
  match pktEvent p with
  | some ev => s.depart p (keyOf p.dst) ev (s.wayOf p switchKey (keyOf p.dst))
  | none => s.reportEvent (dieOf (keyOf p.dst)) p.dst 0x33 (p.src.toNat + 2 ^ 32 * p.kind.toNat)

/-- A packet that a port takes in goes to its endpoint, or on to another module. -/
def State.takeIn (s : State) (p : Packet) : State :=
  if s.isLocal p.dst then s.fromSwitch p else s.schedule s.now switchKey (.switchDieForward p)

/-- DATA (R69, R70): accepted in sequence, else discarded with a NAK. An IDLE flit acknowledges it and returns its credit; the flit that
completes a packet delivers it. -/
def execData (port : Fin 18) (f : Flit) (s : State) : Host.Outcome State Fault Refusal :=
  let p := s.net.port[port]
  let expected := if p.goodv then p.good + 1 else 0
  if !p.up then .next s
  else if badFlit f then .next (s.badFlit port true)
  else if f.fseq != expected then .next (s.badFlit port false)
  else
    let bs := p.part ++ f.payload
    let whole := decide (32 + headerLen bs ≤ bs.length)
    let s1 := (s.modPort port fun p => { p with
      good := f.fseq
      goodv := true
      nakSent := false
      part := if whole then [] else bs }).flitHeader port f
    let s2 := s1.putFlit port { (s1.net.port[port]).bare 1 with ccls := (packetOf bs).cls, ccnt := 1 }
    .next (if whole then s2.takeIn (packetOf bs) else s2)

/-- IDLE (R69). -/
def execIdle (port : Fin 18) (f : Flit) (s : State) : Host.Outcome State Fault Refusal :=
  if !(s.net.port[port]).up then .next s
  else if badFlit f then .next (s.badFlit port true) else .next (s.flitHeader port f)

/-- NAK (R70): the flits after ackseq go again, all of them where none has come good yet; 8 in a row that name one ackseq retrain the
port. -/
def execNak (port : Fin 18) (f : Flit) (s : State) : Host.Outcome State Fault Refusal :=
  let p := s.net.port[port]
  if !p.up then .next s
  else if badFlit f then .next (s.badFlit port true)
  else
    let n := if p.naks != 0 && p.lastNak == f.ackseq then p.naks + 1 else 1
    let s1 := (s.flitHeader port f).modPort port fun p => { p with naks := n, lastNak := f.ackseq }
    if n = 8 then .next (s1.train port) else .next (s1.replayAll port)

/-- TRAIN (R71): the port comes up only if both views are equal; its replay buffer then goes again, and where that was dropped it goes
on after the far end's last good flit (log 71). -/
def execTrain (port : Fin 18) (f : Flit) (s : State) : Host.Outcome State Fault Refusal :=
  let p := s.net.port[port]
  if !p.training || badFlit f then .next s
  else if (flitView f) = p.view then
    let s1 := (s.flitHeader port f).modPort port fun p => { p with
      up := true
      training := false
      nakSent := false
      naks := 0
      fseq := if p.replay.isEmpty then (if f.ackv then f.ackseq + 1 else 0) else p.fseq
      credits := Vector.replicate 3 Config.portCredits }
    .next (s1.replayAll port)
  else .next ((s.trainFails port).reportEvent 0 (s.svRank 0) 0x28 (linkVal port p.view (flitView f)))

/-! ### Leaving the module (R74-R76) -/

/-- The route entry of a package (R75). -/
def State.route (s : State) (pkg : Nat) : Option W64 :=
  let e := (s.net.srt.find (pkg % 4096)).getD 0
  if e.getLsbD 20 && fld e.toNat 0 20 == pkg && (e.getLsbD 21 || fld e.toNat 23 18 != 0) then some e else none

/-- Queued flits of a port and the depth last received on it (R74). -/
def Port.load (p : Port) : Nat := (p.queue.toList.flatten.map fun x => flitCount x.2).sum + p.qdep.toNat

/-- The credit class of a packet, as a place in `credits` and `queue`. -/
def creditIx (p : Packet) : Fin 3 := Fin.ofNat 3 p.cls.toNat

/-- The cycle at which the switch die's core has passed a packet on whose head flit comes now (R68). -/
def State.throughCore (s : State) (p : Packet) : Nat := s.now + 16 + (flitsOf p.payload.length - 1)

/-- The listed port that is up with the least load, the lowest of equals (R74). -/
def State.choosePort (s : State) (e : W64) : Option (Fin 18) :=
  ((List.finRange 18).filter fun k => e.getLsbD (23 + k.val) && (s.net.port[k]).up).foldl (fun m k =>
    match m with
    | some j => if (s.net.port[k]).load < (s.net.port[j]).load then some k else some j
    | none => some k) none

/-- A packet without a route is answered or discarded (R75). The answered packet counts as acknowledged. -/
def State.noRoute (s : State) (p : Packet) : State :=
  let s := s.reportEvent 0 (s.svRank 0) 0x32 (pkgOf p.dst)
  let acked := match s.peer p.src p.dst with
    | some q => s.setPeer { q with unacked := q.unacked.filter fun (x : Packet) => x.seq != p.seq }
    | none => s
  let k := p.kind.toNat
  if k ≤ 1 then acked.takeIn (mkPacket p.dst p.src 0x08 p.group p.xid 6 0 [])
  else if k = 2 then acked.takeIn (pullRefused p 6)
  else if k = 0x10 then
    let h := ofBytes (p.payload.take 32)
    acked.takeIn (mkPacket p.dst p.src 0x11 0 p.xid 0 0
      (bytesOf (2 + 2 ^ 8 * 0x82 + 2 ^ 16 * fld h 176 16 + 2 ^ 32 * fld h 160 16) 16))
  else s

/-- SWITCH_DIE_FORWARD (R74-R76): the head flit has come; the packet may leave its port when the core has passed its last flit. -/
def execSwitchDieForward (p : Packet) (s : State) : Host.Outcome State Fault Refusal :=
  match s.route (pkgOf p.dst) with
  | none => .next (s.noRoute p)
  | some e =>
    if e.getLsbD 21 then
      let port := if e.getLsbD 22 then Fin.ofNat 8 (pkgOf p.dst) else Config.sprayPort s.freeCtr
      .next { s with
        freeCtr := if e.getLsbD 22 then s.freeCtr else s.freeCtr + 1
        net := { s.net with uet := s.net.uet.set port (s.net.uet[port] ++ [(s.throughCore p, p)]) } }
    else
      match s.choosePort e with
      | some k => .next (s.modPort k fun q =>
          { q with queue := q.queue.set (creditIx p) (q.queue[creditIx p] ++ [(s.throughCore p, p)]) })
      | none => .next (s.schedule (s.now + 1024) switchKey (.switchDieForward p))

/-! ### End-to-end (R72, R73) -/

/-- Whether a send in flight of a tile went to a rank. -/
def Tile.sendsTo (t : Tile) (xid : W16) (r : Rank) : Bool := (t.sendSlot xid).any fun c => c.x.peer == r

/-- The transfer that a packet belongs to ends TIMEOUT, on its thread's tile or in its saved copy (R73, R330). A message that was kept
after a refusal lets the next one go (R97). -/
def State.abandonPkt (s : State) (p : Packet) : State :=
  let s := { s with cur := keyOf p.src }
  let k := p.kind.toNat
  let pulling (t : Tile) : Option Pulling := t.msg.pulls.find? fun q => q.env.src == p.dst && q.env.sxid == p.xid
  if isHostKey s.cur then
    if k = 2 then
      match s.host.pulls.find? fun u => u.2.1 == p.dst && u.2.2.1 == p.xid with
      | some u =>
        (s.host.xfer.find u.1).elim s fun x =>
          ({ s with host := { s.host with pulls := s.host.pulls.erase u } } : State).hostEnd u.1 x 6 u.2.2.2.2 0
      | none => s
    else if k ≤ 3 then
      match s.hostSlot p.xid with
      | some (i, x) => (s.unkeep p.xid).hostEnd i x 6 x.len 0
      | none => s
    else s
  else if k = 0 ∨ k = 1 ∨ k = 3 then
    let s1 := s.modThread p.src (fun t => t.sendsTo p.xid p.dst) fun t => t.completed s.now p.xid 6 0
    if s.t.sendsTo p.xid p.dst then s1.unkeep p.xid else s1
  else if k = 2 then
    s.modThread p.src (fun t => (pulling t).isSome) fun t =>
      match pulling t with
      | some q => ({ t with msg := { t.msg with pulls := t.msg.pulls.erase q } } : Tile).completed s.now q.xid 6 0
      | none => t
  else if k = 0x10 then
    s.moonAnswer p.src p.dst p.xid (fld (ofBytes (p.payload.take 32)) 176 16) abandoned [] [] 0
  else s

/-- The receives that pull the abandoned messages of a source end TIMEOUT, on the thread's tile or in its saved copy (R73, R330). -/
def State.timeoutPulls (s : State) (src : Rank) (lost : W16 → Bool) : State :=
  if isHostKey s.cur then
    (s.host.pulls.filter fun u => u.2.1 == src && lost u.2.2.1).foldl (fun s u =>
      (s.host.xfer.find u.1).elim s fun x =>
        ({ s with host := { s.host with pulls := s.host.pulls.erase u } } : State).hostEnd u.1 x 6 u.2.2.2.2 0) s
  else
    let mine (t : Tile) : List Pulling := t.msg.pulls.filter fun q => q.env.src == src && lost q.env.sxid
    s.modThread (s.rankOf s.cur) (fun t => !(mine t).isEmpty) fun t =>
      (mine t).foldl (fun t q => ({ t with msg := { t.msg with pulls := t.msg.pulls.erase q } } : Tile).completed s.now q.xid 6 0) t

/-- Packets of a source that wait for a peer entry get another chance. -/
def State.wakeWaiting (s : State) (src : Rank) : State :=
  if s.net.waiting.any fun w => w.2.src == src then s.schedule s.now (keyOf src) (.e2ePeerEntryTake src) else s

/-- E2EACK: acknowledged packets leave the sender (R72). -/
def execE2eack (p : Packet) (s : State) : Host.Outcome State Fault Refusal :=
  .next (s.arrive p 0x20 fun s =>
    match s.peer p.dst p.src with
    | none => s
    | some q =>
      let left := q.unacked.filter fun (x : Packet) => decide (2 ^ 31 ≤ (p.seq - x.seq).toNat)
      let moved := decide (left.length < q.unacked.length)
      let s1 := s.setPeer { q with
        unacked := left, tries := if moved then 0 else q.tries, lastUse := if moved then s.now else q.lastUse }
      if left.isEmpty then s1.wakeWaiting p.dst else s1)

/-- The receiving end of a pair restarts at 0, with nothing held (R72). -/
def State.restartRx (s : State) (q : Peer) : State :=
  let die := dieOf (keyOf q.dst)
  let freed := q.held.foldl (fun n x => n + pktBytes x) 0
  ({ s with net := { s.net with store := s.net.store.set die (s.net.store[die] - freed) } } : State).setPeer
    { q with expected := 0, held := [], rx := false, rxClosing := false, lost := [] }

/-- CLOSE (R72) of the sender: the pair restarts at 0 at this end. Where packets sent before it never came, the receives of the messages
given up end TIMEOUT (R73): those that the sender in this module gave up, or, where the sender is elsewhere and only the gap shows, those
that pull from it (log 70). A CLOSE of the receiver, which the model's `ext` tells, restarts a sender whose packets it has all had. -/
def execClose (p : Packet) (s : State) : Host.Outcome State Fault Refusal :=
  .next (s.arrive p 0x21 fun s =>
    if p.ext = 0 then
      let s1 :=
        match s.peer p.src p.dst with
        | none => s
        | some q =>
          let s1 :=
            if s.isLocal p.src then s.timeoutPulls p.src q.lost.contains
            else if q.expected = p.seq + 1 then s
            else s.timeoutPulls p.src fun _ => true
          s1.restartRx q
      s1.launchPkt (mkPacket p.dst p.src 0x22 0 0 0 0 [])
    else
      match s.peer p.dst p.src with
      | none => s
      | some q =>
        if q.unacked.isEmpty && !q.closing && q.next == p.seq + 1 then
          (s.setPeer { q with next := 0 }).launchPkt { mkPacket p.dst p.src 0x22 0 0 0 0 [] with ext := 1 }
        else s)

/-- CLOSEACK (R72): the entry is free. -/
def execCloseack (p : Packet) (s : State) : Host.Outcome State Fault Refusal :=
  .next (s.arrive p 0x22 fun s =>
    if p.ext = 0 then
      let s1 := { s with net := { s.net with
        peers := s.net.peers.filter fun (q : Peer) => !(q.src == p.dst && q.dst == p.src && q.closing) } }
      s1.wakeWaiting p.dst
    else
      match s.peer p.src p.dst with
      | some q => if q.rxClosing then s.restartRx q else s
      | none => s)

/-- A CLOSE that carries the last number sent. -/
def State.sendClose (s : State) (q : Peer) : State :=
  s.launchPkt { mkPacket q.src q.dst 0x21 0 0 0 0 [] with seq := q.next - 1 }

/-- E2E_RETRANSMIT_TIMEOUT (R73): a resend from the oldest unacknowledged packet, or the end of the pair. -/
def execE2eRetransmitTimeout (src dst : Rank) (s : State) : Host.Outcome State Fault Refusal :=
  match s.peer src dst with
  | none => .next s
  | some q =>
    let e := s.e2e (keyOf src)
    if q.unacked.isEmpty then .next s
    else if s.now < q.lastUse + e.timeout then
      .next (s.schedule (q.lastUse + e.timeout) (keyOf src) (.e2eRetransmitTimeout src dst))
    else if q.tries < e.tries then
      let n := e.retx.toNat + q.unacked.length
      let s1 := (s.setE2e (keyOf src) { e with retx := BitVec.ofNat 32 (min n (2 ^ 32 - 1)) }).setPeer
        { q with tries := q.tries + 1, lastUse := s.now }
      .next ((q.unacked.foldl State.launchPkt s1).schedule (s.now + e.timeout) (keyOf src) (.e2eRetransmitTimeout src dst))
    else
      let s1 := (q.unacked.foldl State.abandonPkt s).sendClose q
      let lost := (q.unacked.filter fun p => p.kind.toNat ≤ 3 && p.kind != 2).map (·.xid)
      .next (((s1.setPeer { q with
        next := 0
        unacked := []
        tries := 0
        lastUse := s.now
        lost := q.lost ++ lost }).reportEvent (dieOf (keyOf src)) src 0x2A dst.toNat).wakeWaiting src)

/-- The waiting packets of a pair leave in order. -/
def State.sendWaiting (s : State) (src dst : Rank) : State :=
  let mine := s.net.waiting.filter fun w => w.2.src == src && w.2.dst == dst
  let s1 := { s with net := { s.net with waiting := s.net.waiting.filter fun w => !(w.2.src == src && w.2.dst == dst) } }
  mine.foldl (fun s w => s.sendSeq ((s.peer src dst).getD (Peer.start src dst s.now)) w.2) s1

/-- E2E_PEER_ENTRY_TAKE (R72): the oldest waiting packet takes a free entry, or the peer idle longest is retired for it. -/
def execE2ePeerEntryTake (src : Rank) (s : State) : Host.Outcome State Fault Refusal :=
  match s.net.waiting.find? fun w => w.2.src == src with
  | none => .next s
  | some w =>
    let mine := s.net.peers.filter fun q => q.src == src
    match s.peer src w.2.dst with
    | some q => if q.closing then .next s else .next ((s.sendWaiting src w.2.dst).wakeWaiting src)
    | none =>
      if mine.length < 1024 then .next ((s.sendWaiting src w.2.dst).wakeWaiting src)
      else if mine.any fun q => q.closing then .next s
      else
        match (mine.filter fun q => q.unacked.isEmpty).foldl (fun (m : Option Peer) q =>
            match m with
            | some x => if q.lastUse < x.lastUse then some q else some x
            | none => some q) none with
        | some q => .next ((s.setPeer { q with closing := true }).sendClose q)
        | none => .next s

/-- E2E_ABANDON (R72): a packet that waited too long for an entry is never sent. -/
def execE2eAbandon (p : Packet) (s : State) : Host.Outcome State Fault Refusal :=
  match s.net.waiting.find? fun w => w.2 = p with
  | none => .next s
  | some w =>
    let s1 := { s with net := { s.net with waiting := s.net.waiting.erase w } }
    .next ((s1.abandonPkt p).reportEvent (dieOf (keyOf p.src)) p.src 0x2A p.dst.toNat)

/-! ### Registers (R73) -/

/-- E2ECTL_WRITE: a timeout of 0 is ignored, reserved bits stay 0. -/
def execE2ectlWrite (rank : Rank) (v : W32) (s : State) : Host.Outcome State Fault Refusal :=
  let e := s.e2e (keyOf rank)
  let to' := if fld v.toNat 0 16 = 0 then fld e.ctl.toNat 0 16 else fld v.toNat 0 16
  .next (s.setE2e (keyOf rank) { e with ctl := BitVec.ofNat 32 (to' + 2 ^ 16 * fld v.toNat 16 3) })

/-- A value read over the service network. -/
def State.readOut (s : State) (v : W64) : State :=
  { s with mgmt := { s.mgmt with readback := s.mgmt.readback ++ [v] } }

/-- E2EDUP_READ and E2ERETX_READ: the count, which is then cleared. -/
def execE2edupRead (rank : Rank) (s : State) : Host.Outcome State Fault Refusal :=
  let e := s.e2e (keyOf rank)
  .next ((s.setE2e (keyOf rank) { e with dup := 0 }).readOut (e.dup.setWidth 64))
def execE2eretxRead (rank : Rank) (s : State) : Host.Outcome State Fault Refusal :=
  let e := s.e2e (keyOf rank)
  .next ((s.setE2e (keyOf rank) { e with retx := 0 }).readOut (e.retx.setWidth 64))

end Sys2Proof.Machine
end

