-- ==== Sys2Proof/Machine/SpecFn.lean ====
section
/-!
DEFINITION. The special functions (R166-R169) and the rounded quotient of `vgate` (R277). The tables hold the
nearest multiples of 2^-26 that R166 prescribes.
-/

namespace Sys2Proof.Machine

/-- T[0..128] of `vrcp`: 1 / (1 + t) in units of 2^-26 (R166, R167). -/
def tableRcp : List Nat :=
  [67108864, 66588640, 66076420, 65572020, 65075262, 64585974, 64103989, 63629145, 63161284, 62700252,
    62245903, 61798091, 61356676, 60921522, 60492497, 60069473, 59652324, 59240928, 58835168, 58434929,
    58040099, 57650568, 57266231, 56886984, 56512728, 56143363, 55778796, 55418933, 55063683, 54712959,
    54366675, 54024746, 53687091, 53353631, 53024288, 52698985, 52377650, 52060210, 51746594, 51436734,
    51130563, 50828015, 50529027] ++
  [50233536, 49941480, 49652801, 49367440, 49085341, 48806447, 48530704, 48258060, 47988461, 47721859,
    47458202, 47197443, 46939533, 46684427, 46432079, 46182444, 45935479, 45691141, 45449389, 45210182,
    44973480, 44739243, 44507433, 44278013, 44050947, 43826197, 43603729, 43383508, 43165500, 42949673,
    42735993, 42524429, 42314949, 42107523, 41902120, 41698712, 41497269, 41297762, 41100166, 40904450,
    40710590, 40518559, 40328331] ++
  [40139881, 39953184, 39768216, 39584952, 39403370, 39223446, 39045157, 38868482, 38693399, 38519886,
    38347922, 38177487, 38008560, 37841122, 37675152, 37510631, 37347542, 37185864, 37025580, 36866672,
    36709122, 36552913, 36398028, 36244450, 36092162, 35941149, 35791394, 35642882, 35495597, 35349525,
    35204650, 35060958, 34918433, 34777063, 34636833, 34497729, 34359738, 34222847, 34087042, 33952311,
    33818640, 33686018, 33554432]

/-- T[0..128] of `vrsq`: 1 / sqrt(1 + 2t), then 1 / sqrt(4t) in units of 2^-26 (R166, R167). -/
def tableRsq : List Nat :=
  [67108864, 66590641, 66084241, 65589221, 65105161, 64631663, 64168347, 63714855, 63270844, 62835987,
    62409976, 61992513, 61583317, 61182119, 60788660, 60402697, 60023993, 59652324, 59287474, 58929238,
    58577419, 58231826, 57892279, 57558603, 57230632, 56908203, 56591163, 56279364, 55972662, 55670920,
    55374007, 55081793, 54794158, 54510982, 54232152, 53957557, 53687091, 53420652, 53158141, 52899463,
    52644524, 52393236, 52145513] ++
  [51901270, 51660428, 51422907, 51188633, 50957532, 50729533, 50504567, 50282568, 50063471, 49847213,
    49633733, 49422973, 49214876, 49009385, 48806447, 48606009, 48408020, 48212431, 48019194, 47828262,
    47639590, 47453133, 47086694, 46728615, 46378583, 46036301, 45701487, 45373874, 45053206, 44739243,
    44431753, 44130517, 43835326, 43545981, 43262291, 42984074, 42711156, 42443372, 42180562, 41922575,
    41669264, 41420490, 41176119] ++
  [40936023, 40700079, 40468168, 40240176, 40015995, 39795520, 39578649, 39365285, 39155336, 38948710,
    38745321, 38545085, 38347922, 38153754, 37962506, 37774106, 37588482, 37405569, 37225300, 37047613,
    36872446, 36699740, 36529439, 36361486, 36195830, 36032416, 35871197, 35712122, 35555145, 35400220,
    35247302, 35096349, 34947320, 34800172, 34654868, 34511369, 34369638, 34229639, 34091337, 33954698,
    33819689, 33686277, 33554432]

/-- T[0..128] of `vexp2`: 2^t in units of 2^-26 (R166, R167). -/
def tableExp2 : List Nat :=
  [67108864, 67473258, 67839632, 68207994, 68578357, 68950730, 69325126, 69701555, 70080027, 70460555,
    70843149, 71227820, 71614580, 72003440, 72394412, 72787506, 73182735, 73580110, 73979643, 74381345,
    74785228, 75191305, 75599586, 76010084, 76422812, 76837780, 77255001, 77674488, 78096253, 78520308,
    78946666, 79375338, 79806339, 80239679, 80675373, 81113432, 81553870, 81996699, 82441933, 82889585,
    83339667, 83792193, 84247176] ++
  [84704630, 85164568, 85627003, 86091949, 86559420, 87029429, 87501990, 87977118, 88454825, 88935126,
    89418035, 89903566, 90391733, 90882551, 91376035, 91872197, 92371054, 92872620, 93376909, 93883937,
    94393717, 94906266, 95421597, 95939727, 96460670, 96984442, 97511058, 98040534, 98572884, 99108125,
    99646272, 100187342, 100731349, 101278310, 101828242, 102381159, 102937078, 103496017, 104057990, 104623014,
    105191107, 105762284, 106336563] ++
  [106913960, 107494492, 108078177, 108665030, 109255071, 109848315, 110444781, 111044485, 111647445, 112253680,
    112863206, 113476042, 114092206, 114711715, 115334589, 115960844, 116590500, 117223575, 117860087, 118500056,
    119143500, 119790437, 120440887, 121094869, 121752403, 122413506, 123078199, 123746502, 124418433, 125094013,
    125773261, 126456197, 127142842, 127833215, 128527337, 129225227, 129926908, 130632398, 131341719, 132054891,
    132771936, 133492875, 134217728]

/-- T[0..128] of `vlog2`: log2(1 + t) in units of 2^-26 (R166, R167). -/
def tableLog2 : List Nat :=
  [0, 753448, 1501079, 2242980, 2979239, 3709941, 4435170, 5155007, 5869532, 6578822,
    7282953, 7982000, 8676036, 9365133, 10049359, 10728784, 11403474, 12073495, 12738911, 13399784,
    14056177, 14708150, 15355762, 15999071, 16638134, 17273006, 17903742, 18530395, 19153019, 19771664,
    20386381, 20997220, 21604229, 22207456, 22806948, 23402750, 23994909, 24583468, 25168470, 25749959,
    26327977, 26902564, 27473761] ++
  [28041608, 28606143, 29167407, 29725435, 30280265, 30831934, 31380477, 31925930, 32468327, 33007703,
    33544090, 34077521, 34608030, 35135648, 35660406, 36182335, 36701466, 37217828, 37731450, 38242363,
    38750593, 39256169, 39759119, 40259469, 40757247, 41252479, 41745191, 42235408, 42723155, 43208457,
    43691339, 44171825, 44649938, 45125701, 45599138, 46070271, 46539122, 47005714, 47470068, 47932205,
    48392147, 48849915, 49305528] ++
  [49759007, 50210372, 50659643, 51106838, 51551977, 51995079, 52436163, 52875246, 53312346, 53747482,
    54180672, 54611931, 55041278, 55468730, 55894303, 56318013, 56739877, 57159911, 57578130, 57994550,
    58409188, 58822057, 59233172, 59642550, 60050204, 60456148, 60860398, 61262966, 61663868, 62063117,
    62460725, 62856708, 63251078, 63643848, 64035030, 64424639, 64812686, 65199184, 65584145, 65967582,
    66349506, 66729930, 67108864]

/-- T[0..128] of `vtanh`: tanh(8t) in units of 2^-26 (R166, R167). -/
def tableTanh : List Nat :=
  [0, 4188851, 8345189, 12437501, 16436213, 20314506, 24048958, 27619999, 31012157, 34214110,
    37218557, 40021952, 42624125, 45027838, 47238305, 49262706, 51109719, 52789095, 54311275, 55687064,
    56927351, 58042901, 59044170, 59941190, 60743471, 61459945, 62098934, 62668139, 63174643, 63624926,
    64024894, 64379902, 64694796, 64973944, 65221276, 65440316, 65634222, 65805814, 65957613, 66091864,
    66210565, 66315494, 66408231] ++
  [66490178, 66562579, 66626539, 66683034, 66732930, 66776994, 66815905, 66850262, 66880597, 66907379,
    66931023, 66951895, 66970320, 66986585, 67000941, 67013614, 67024799, 67034671, 67043385, 67051076,
    67057863, 67063854, 67069141, 67073808, 67077926, 67081560, 67084768, 67087599, 67090097, 67092302,
    67094248, 67095965, 67097481, 67098818, 67099999, 67101040, 67101960, 67102771, 67103487, 67104119,
    67104676, 67105168, 67105602] ++
  [67105986, 67106324, 67106622, 67106886, 67107118, 67107323, 67107504, 67107664, 67107805, 67107930,
    67108039, 67108136, 67108222, 67108297, 67108364, 67108423, 67108474, 67108520, 67108561, 67108596,
    67108628, 67108655, 67108680, 67108702, 67108721, 67108738, 67108752, 67108766, 67108777, 67108787,
    67108796, 67108804, 67108811, 67108817, 67108823, 67108828, 67108832, 67108836, 67108839, 67108842,
    67108845, 67108847, 67108849]

/-- T[0..128] of `vsigm`: 1 / (1 + exp(-16t)) in units of 2^-26 (R166, R167). -/
def tableSigm : List Nat :=
  [33554432, 35648858, 37727026, 39773182, 41772539, 43711685, 45578911, 47364431, 49060511, 50661487,
    52163711, 53565408, 54866494, 56068351, 57173585, 58185785, 59109291, 59948979, 60710070, 61397964,
    62018108, 62575882, 63076517, 63525027, 63926168, 64284404, 64603899, 64888502, 65141753, 65366895,
    65566879, 65744383, 65901830, 66041404, 66165070, 66274590, 66371543, 66457339, 66533239, 66600364,
    66659714, 66712179, 66758547] ++
  [66799521, 66835722, 66867701, 66895949, 66920897, 66942929, 66962384, 66979563, 66994730, 67008121,
    67019943, 67030379, 67039592, 67047724, 67054903, 67061239, 67066831, 67071768, 67076124, 67079970,
    67083364, 67086359, 67089003, 67091336, 67093395, 67095212, 67096816, 67098232, 67099481, 67100583,
    67101556, 67102415, 67103172, 67103841, 67104431, 67104952, 67105412, 67105817, 67106175, 67106491,
    67106770, 67107016, 67107233] ++
  [67107425, 67107594, 67107743, 67107875, 67107991, 67108094, 67108184, 67108264, 67108335, 67108397,
    67108452, 67108500, 67108543, 67108581, 67108614, 67108643, 67108669, 67108692, 67108712, 67108730,
    67108746, 67108760, 67108772, 67108783, 67108792, 67108801, 67108808, 67108815, 67108821, 67108826,
    67108830, 67108834, 67108838, 67108841, 67108843, 67108846, 67108848, 67108850, 67108852, 67108853,
    67108854, 67108855, 67108856]


/-- `approx(t)` of R166 for t = a / 2^lg, as an integer and an exponent. -/
def approx (tab : List Nat) (a lg : Nat) : Int × Int :=
  let i := 128 * a / 2 ^ lg
  let r := 128 * a % 2 ^ lg
  let t0 : Int := tab.getD i 0
  let t1 : Int := tab.getD (i + 1) 0
  (t0 * 2 ^ lg + (t1 - t0) * r, -26 - (lg : Int))

/-- The bits of 1.0. -/
def oneF32 : Nat := 0x3F800000
def infF32 (neg : Bool) : Nat := fF32.withSign neg 0x7F800000
def canonF32 : Nat := 0x7FC00000

/-- `vrcp` (R167, R168). -/
def sfRcp (v : Nat) : Nat :=
  match real32 v with
  | .nan => canonF32
  | .inf s => fF32.withSign s 0
  | .fin s m e =>
    if m = 0 then infF32 s
    else
      let lg := m.log2
      let p := approx tableRcp (m - 2 ^ lg) lg
      roundF32 (.fin s p.1.natAbs (p.2 - (e + lg)))

/-- `vrsq` (R167, R168). -/
def sfRsq (v : Nat) : Nat :=
  match real32 v with
  | .nan => canonF32
  | .inf s => if s then canonF32 else 0
  | .fin s m e =>
    if m = 0 then infF32 s
    else if s then canonF32
    else
      let lg := m.log2
      let ex := e + lg
      let k := (ex % 2).toNat
      let p := approx tableRsq (m - 2 ^ lg + k * 2 ^ lg) (lg + 1)
      roundF32 (.fin false p.1.natAbs (p.2 - (ex - k) / 2))

/-- `vexp2` (R167, R168). -/
def sfExp2 (v : Nat) : Nat :=
  match real32 v with
  | .nan => canonF32
  | .inf s => if s then 0 else infF32 false
  | .fin s m e =>
    if m = 0 then oneF32
    else
      let x : Int := if s then -(m : Int) else (m : Int)
      if 0 ≤ e then roundF32 ((Num.ofDy (approx tableExp2 0 0)).scale (x * 2 ^ e.toNat))
      else
        let k := (-e).toNat
        let n := x / (2 ^ k : Nat)
        let t := (x % (2 ^ k : Nat)).toNat
        roundF32 ((Num.ofDy (approx tableExp2 t k)).scale n)

/-- `vlog2` (R167, R168). -/
def sfLog2 (v : Nat) : Nat :=
  match real32 v with
  | .nan => canonF32
  | .inf s => if s then canonF32 else infF32 false
  | .fin s m e =>
    if m = 0 then infF32 true
    else if s then canonF32
    else
      let lg := m.log2
      roundF32 (Num.ofDy (dyAdd (e + lg, 0) (approx tableLog2 (m - 2 ^ lg) lg)))

/-- `vtanh` (R167, R168). -/
def sfTanh (v : Nat) : Nat :=
  match real32 v with
  | .nan => canonF32
  | .inf s => fF32.withSign s oneF32
  | .fin s m e =>
    if m = 0 then fF32.withSign s 0
    else if !Num.lt (.fin false m e) (.fin false 8 0) then fF32.withSign s oneF32
    else fF32.withSign s (roundF32 (Num.ofDy (approx tableTanh m (3 - e).toNat)))

/-- `vsigm` (R167, R168). -/
def sfSigm (v : Nat) : Nat :=
  match real32 v with
  | .nan => canonF32
  | .inf s => if s then 0 else oneF32
  | .fin s m e =>
    if m = 0 then 0x3F000000
    else if !Num.lt (.fin false m e) (.fin false 16 0) then (if s then 0 else oneF32)
    else
      let p := approx tableSigm m (4 - e).toNat
      if s then roundF32 (Num.ofDy (dyAdd (1, 0) (-p.1, p.2))) else roundF32 (Num.ofDy p)

/-- Whether a refinement returns `y` or a NaN by the four tests of R169. -/
def refineTest (x y : Num) (yb : Nat) : Option Nat :=
  if y.isNan then some canonF32
  else if y.isZero || y.isInf false || y.isInf true then some yb
  else if x.isNan then some canonF32
  else if x.isZero || x.isInf false || x.isInf true then some yb
  else none

/-- `refine_rcp(x, y)` of R169. -/
def refineRcp (xb yb : Nat) : Nat :=
  let x := real32 xb
  let y := real32 yb
  match refineTest x y yb with
  | some r => r
  | none => roundF32 (exactMul y (exactSum [Num.ofInt 2, (exactMul x y).negate]))

/-- `refine_rsq(x, y)` of R169. -/
def refineRsq (xb yb : Nat) : Nat :=
  let x := real32 xb
  let y := real32 yb
  match refineTest x y yb with
  | some r => r
  | none => roundF32 ((exactMul y (exactSum [Num.ofInt 3, (exactMul x (exactMul y y)).negate])).scale (-1))

/-- `round_f32` of the exact quotient of two positive values: 64 quotient bits and a bit that says whether the rest
is zero, which decide every rounding of 24 bits. -/
def roundQuot (a b : Num) : Nat :=
  match a, b with
  | .fin s m e, .fin t n f =>
    if m = 0 || n = 0 then fF32.withSign (s != t) 0
    else
      let k := 64 + n.log2
      let q := m * 2 ^ k / n
      let st := if m * 2 ^ k % n = 0 then 0 else 1
      roundF32 (.fin (s != t) (2 * q + st) (e - f - k - 1))
  | _, _ => canonF32

end Sys2Proof.Machine
end

