-- ==== Sys2Proof/Machine/Vec.lean ====
section
/-!
DEFINITION. The vector instructions of the V slot (R253-R278).
-/

namespace Sys2Proof.Machine

/-! ### Lane functions -/

/-- Float or integer arithmetic on a lane (R260, R261): one rounding under RNE, or a wrapped or saturated integer. -/
def laneArith (t : Ety) (sat : Bool) (ff : List Num → Num) (fi : List Int → Int) (xs : List Nat) : Nat :=
  if t.isF then (laneFmt false t).round false false (ff (xs.map (laneFmt false t).toReal))
  else
    let x := fi (xs.map (laneInt t))
    if sat then satInt x t.width t.isSigned else wrapInt x t.width

def nth {α : Type} (l : List α) (i : Nat) (d : α) : α := l.getD i d

def addF (l : List Num) : Num := exactSum [nth l 0 .nan, nth l 1 .nan]
def subF (l : List Num) : Num := exactSum [nth l 0 .nan, (nth l 1 .nan).negate]
def mulF (l : List Num) : Num := exactMul (nth l 0 .nan) (nth l 1 .nan)
def fmaF (l : List Num) : Num := exactSum [mulF l, nth l 2 .nan]
def fmsF (l : List Num) : Num := exactSum [mulF l, (nth l 2 .nan).negate]
def fnmaF (l : List Num) : Num := exactSum [(mulF l).negate, nth l 2 .nan]
def addI (l : List Int) : Int := nth l 0 0 + nth l 1 0
def subI (l : List Int) : Int := nth l 0 0 - nth l 1 0
def mulI (l : List Int) : Int := nth l 0 0 * nth l 1 0
def fmaI (l : List Int) : Int := mulI l + nth l 2 0
def fmsI (l : List Int) : Int := mulI l - nth l 2 0
def fnmaI (l : List Int) : Int := nth l 2 0 - mulI l

/-- `vmin` and `vmax` on a lane: the lesser or greater operand's encoding, with -0 < +0 (R260, R261). -/
def laneMinMax (mx : Bool) (t : Ety) (x y : Nat) : Nat :=
  if t.isF then
    let f := laneFmt false t
    let a := f.toReal x
    let b := f.toReal y
    if a.isNan || b.isNan then f.canon
    else if Num.lt a b || (Num.eq a b && a.neg) then (if mx then y else x)
    else if mx then x else y
  else if laneInt t x ≤ laneInt t y then (if mx then y else x) else if mx then x else y

/-- `vabs` and `vneg` on a lane. -/
def laneAbsNeg (neg : Bool) (t : Ety) (sat : Bool) (x : Nat) : Nat :=
  if t.isF then
    let f := laneFmt false t
    let m := x % 2 ^ (t.width - 1)
    if (f.toReal x).isNan then f.canon
    else if neg then f.withSign (!x.testBit (t.width - 1)) m else m
  else laneArith t sat (fun _ => .nan) (fun l => if neg then -(nth l 0 0) else (nth l 0 0).natAbs) [x]

/-- The shifts of R263 on a lane. -/
def laneShl (w x c : Nat) : Nat := if w ≤ c then 0 else x * 2 ^ c % 2 ^ w
def laneShr (w x c : Nat) : Nat := if w ≤ c then 0 else x / 2 ^ c
def laneSra (w x c : Nat) : Nat := wrapInt (signExtend x w / 2 ^ min c w) w

/-- `vcvt` on a lane (R268), under `fmt.nan`, `fmt.rnd`, `fmt.sat`. -/
def laneCvt (nan rnd sat : Bool) (d s : Ety) (isat : Bool) (x : Nat) : Nat :=
  if s.isI then
    if d.isI then (if isat then satInt (laneInt s x) d.width d.isSigned else x)
    else (laneFmt nan d).round rnd sat (Num.ofInt (laneInt s x))
  else if d.isI then roundInt rnd ((laneFmt nan s).toReal x) d.width d.isSigned
  else (laneFmt nan d).round rnd sat ((laneFmt nan s).toReal x)

/-- `vpack` on a lane (R269). -/
def lanePack (nan rnd sat : Bool) (d s : Ety) (isat : Bool) (x : Nat) : Nat :=
  if s.isI then (if isat then satInt (laneInt s x) d.width d.isSigned else wrapInt (laneInt s x) d.width)
  else (laneFmt nan d).round rnd sat ((laneFmt nan s).toReal x)

/-- `vunpack` on a lane (R270). -/
def laneUnpack (nan : Bool) (d s : Ety) (x : Nat) : Nat :=
  if s.isI then wrapInt (laneInt s x) d.width
  else if d = .f32 then x * 2 ^ 16
  else fBf16.round false false ((laneFmt nan s).toReal x)

/-- `vscale` on a lane (R271). -/
def laneScale (t : Ety) (x y : Nat) : Nat :=
  let f := laneFmt false t
  f.round false false ((f.toReal x).scale (signExtend y t.width))

/-- `vround` on a lane (R271). -/
def laneRound (rm : RMode) (t : Ety) (x : Nat) : Nat :=
  let f := laneFmt false t
  match f.toReal x with
  | .nan => f.canon
  | .inf _ => x
  | .fin s m e =>
    if m = 0 || 0 ≤ e then x
    else
      let k := (-e).toNat
      let q := m / 2 ^ k
      let r := m % 2 ^ k
      let y := match rm with
        | .rne => shiftRound false m k
        | .rz => q
        | .rdn => if s && r != 0 then q + 1 else q
        | .rup => if !s && r != 0 then q + 1 else q
      f.round false false (.fin s y 0)

/-! ### Shared forms -/

/-- `fmt.nan`, `fmt.rnd` and `fmt.sat` in force (R145). -/
def Tile.fmtNan (t : Tile) : Bool := t.csr.fmt.getLsbD 8
def Tile.fmtRnd (t : Tile) : Bool := t.csr.fmt.getLsbD 9
def Tile.fmtSat (t : Tile) : Bool := t.csr.fmt.getLsbD 10

/-- The pops of several vector sources. -/
def State.popVs (s : State) (rs : List Reg) : Except Stop State := rs.foldlM State.popV s

/-- A merging op: its sources popped, its value written in enabled lanes (R255). -/
def State.vMerge (s : State) (a : Attr) (w lat : Nat) (d : Reg) (srcs : List Reg) (f : State → W512) :
    Except Stop State := do
  let s ← s.popVs srcs
  s.wrV a lat d (f s) (s.t.keepBits a w)

/-- An op that writes its whole destination (R255). -/
def State.vWhole (s : State) (a : Attr) (lat : Nat) (d : Reg) (srcs : List Reg) (f : State → W512) :
    Except Stop State := do
  let s ← s.popVs srcs
  s.wrV a lat d (f s) 0

/-- The lanes of one, two or three sources through a lane function. -/
def State.map1 (s : State) (w : Nat) (x : Reg) (f : Nat → Nat) : W512 := ofLanes w ((lanesOf w (s.rdV w x)).map f)
def State.map2 (s : State) (w : Nat) (x y : Reg) (f : Nat → Nat → Nat) : W512 :=
  ofLanes w (List.zipWith f (lanesOf w (s.rdV w x)) (lanesOf w (s.rdV w y)))
def State.map3 (s : State) (w : Nat) (x y z : Reg) (f : Nat → Nat → Nat → Nat) : W512 :=
  ofLanes w (List.zipWith (fun p c => f p.1 p.2 c) ((lanesOf w (s.rdV w x)).zip (lanesOf w (s.rdV w y)))
    (lanesOf w (s.rdV w z)))

/-- The merging forms with one, two and three vector sources. -/
def State.vop1 (s : State) (a : Attr) (w lat : Nat) (d x : Reg) (f : Nat → Nat) : Except Stop State :=
  s.vMerge a w lat d [x] fun s => s.map1 w x f
def State.vop2 (s : State) (a : Attr) (w lat : Nat) (d x y : Reg) (f : Nat → Nat → Nat) : Except Stop State :=
  s.vMerge a w lat d [x, y] fun s => s.map2 w x y f
def State.vop3 (s : State) (a : Attr) (w lat : Nat) (d x y z : Reg) (f : Nat → Nat → Nat → Nat) :
    Except Stop State :=
  s.vMerge a w lat d [x, y, z] fun s => s.map3 w x y z f

/-- One level of the pairwise tree (R272). -/
def pairUp (node : Nat → Nat → Nat) : List Nat → List Nat
  | x :: y :: r => node x y :: pairUp node r
  | l => l

/-- The pairwise tree over at most 2^fuel lanes (R272). -/
def redTree (node : Nat → Nat → Nat) (l : List Nat) : Nat → Nat
  | 0 => l.headD 0
  | fuel + 1 => if l.length ≤ 1 then l.headD 0 else redTree node (pairUp node l) fuel

/-- A lane reduction: disabled lanes give the identity; lane 0 of the destination holds the result (R272). -/
def State.vRed (s : State) (a : Attr) (t : Ety) (d x : Reg) (ident : Nat) (node : Nat → Nat → Nat) :
    Except Stop State :=
  s.vWhole a 6 d [x] fun s =>
    let en := s.t.enables a
    BitVec.ofNat 512 (redTree node
      ((lanesOf t.width (s.rdV t.width x)).zipIdx.map fun p => if en.getLsbD p.2 then p.1 else ident) 6)

/-- The least or greatest value of a type (R272). -/
def identMinMax (mx : Bool) (t : Ety) : Nat :=
  if t.isF then (laneFmt false t).withSign mx (((laneFmt false t).infB).getD 0)
  else if mx then (if t.isSigned then 2 ^ (t.width - 1) else 0)
  else if t.isSigned then 2 ^ (t.width - 1) - 1 else 2 ^ t.width - 1

/-! ### Top-k and gating (R275-R277) -/

/-- A candidate: its FP32 value and expert id. -/
abbrev Cand := Nat × Nat

/-- Whether `x` comes before `y`: greater value, then lower id. -/
def candBefore (x y : Cand) : Bool :=
  let a := real32 x.1
  let b := real32 y.1
  Num.lt b a || (Num.eq a b && decide (x.2 < y.2))

/-- A candidate put into a sorted list behind its equals. -/
def candInsert (x : Cand) : List Cand → List Cand
  | [] => [x]
  | y :: r => if candBefore x y then x :: y :: r else y :: candInsert x r

/-- The usable slots of a gate list, with their slot numbers (R275). -/
def usable (l : List Nat) (k : Nat) : List (Nat × Cand) :=
  (List.range k).filterMap fun j =>
    let v := nth l j 0
    let id := nth l (8 + j) 0 % 2 ^ 16
    if id != 0xFFFF && !(real32 v).isNan then some (j, (v, id)) else none

/-- `vtopk` (R276): candidates, ids and incoming list as 16 FP32 lanes each, the enabled lanes, and k. -/
def topk (va vb vc : List Nat) (en : W64) (k : Nat) : List Nat :=
  let lanes := (List.range 16).filter fun i => en.getLsbD i
  let nan := (nth vc 8 0).testBit 16 || lanes.any fun i => (real32 (nth va i 0)).isNan
  let new := lanes.filterMap fun i =>
    let id := nth vb i 0 % 2 ^ 16
    if !(real32 (nth va i 0)).isNan && id != 0xFFFF then some (nth va i 0, id) else none
  let cand := (((usable vc k).map (·.2)) ++ new).foldl (fun l x => candInsert x l) []
  let nb := if nan then 2 ^ 16 else 0
  ((List.range 8).map fun j => if j < k then (cand.getD j (canonF32, 0xFFFF)).1 else canonF32) ++
    ((List.range 8).map fun j =>
      (if j < k then (cand.getD j (canonF32, 0xFFFF)).2 else 0xFFFF) + nb + 2 ^ 24 * j)

/-- The constant log2(e) of `vgate`, as FP32. -/
def l2e : Nat := 0x3FB8AA3B

/-- `vgate` (R277). -/
def gate (va : List Nat) (k : Nat) : List Nat :=
  let nan := (nth va 8 0).testBit 16 ||
    (List.range 8).any fun j => nth va (8 + j) 0 % 2 ^ 16 != 0xFFFF && (real32 (nth va j 0)).isNan
  let sel := ((usable va 8).map (·.2)).take k
  let infs := (sel.filter fun c => (real32 c.1).isInf false).length
  let fins := (sel.map fun c => real32 c.1).filter fun x => !(x.isInf false) && !(x.isInf true)
  let ws : List Nat :=
    if infs != 0 then
      sel.map fun c => if (real32 c.1).isInf false then roundQuot (Num.ofInt 1) (Num.ofInt infs) else 0
    else
      match fins with
      | [] => sel.map fun _ => 0
      | x :: r =>
        let m := r.foldl (fun m y => if Num.lt m y then y else m) x
        let es := sel.map fun c =>
          if (real32 c.1).isInf true then 0
          else sfExp2 (roundF32 (exactMul (exactSum [real32 c.1, m.negate]) (real32 l2e)))
        let sum := real32 (roundF32 (exactSum (es.map real32)))
        es.map fun e => roundQuot (real32 e) sum
  let nb := if nan then 2 ^ 16 else 0
  ((List.range 8).map fun j => nth ws j 0) ++
    ((List.range 8).map fun j =>
      if j < sel.length then (sel.getD j (0, 0)).2 + nb + 2 ^ 24 * j
      else if j < k then 0xFFFF + nb + 2 ^ 19 + 2 ^ 24 * j
      else 0xFFFF)

/-! ### Arithmetic -/

def execVadd (a : Attr) (t : Ety) (sat : Bool) (d x y : Reg) (s : State) : Host.Outcome State Fault Refusal :=
  finish s (s.vop2 a t.width 3 d x y fun p q => laneArith t sat addF addI [p, q])
def execVsub (a : Attr) (t : Ety) (sat : Bool) (d x y : Reg) (s : State) : Host.Outcome State Fault Refusal :=
  finish s (s.vop2 a t.width 3 d x y fun p q => laneArith t sat subF subI [p, q])
def execVmul (a : Attr) (t : Ety) (sat : Bool) (d x y : Reg) (s : State) : Host.Outcome State Fault Refusal :=
  finish s (s.vop2 a t.width 4 d x y fun p q => laneArith t sat mulF mulI [p, q])
def execVfma (a : Attr) (t : Ety) (sat : Bool) (d x y z : Reg) (s : State) : Host.Outcome State Fault Refusal :=
  finish s (s.vop3 a t.width 4 d x y z fun p q r => laneArith t sat fmaF fmaI [p, q, r])
def execVfms (a : Attr) (t : Ety) (sat : Bool) (d x y z : Reg) (s : State) : Host.Outcome State Fault Refusal :=
  finish s (s.vop3 a t.width 4 d x y z fun p q r => laneArith t sat fmsF fmsI [p, q, r])
def execVfnma (a : Attr) (t : Ety) (sat : Bool) (d x y z : Reg) (s : State) : Host.Outcome State Fault Refusal :=
  finish s (s.vop3 a t.width 4 d x y z fun p q r => laneArith t sat fnmaF fnmaI [p, q, r])
def execVmin (a : Attr) (t : Ety) (d x y : Reg) (s : State) : Host.Outcome State Fault Refusal :=
  finish s (s.vop2 a t.width 3 d x y (laneMinMax false t))
def execVmax (a : Attr) (t : Ety) (d x y : Reg) (s : State) : Host.Outcome State Fault Refusal :=
  finish s (s.vop2 a t.width 3 d x y (laneMinMax true t))
def execVabs (a : Attr) (t : Ety) (sat : Bool) (d x : Reg) (s : State) : Host.Outcome State Fault Refusal :=
  finish s (s.vop1 a t.width 3 d x (laneAbsNeg false t sat))
def execVneg (a : Attr) (t : Ety) (sat : Bool) (d x : Reg) (s : State) : Host.Outcome State Fault Refusal :=
  finish s (s.vop1 a t.width 3 d x (laneAbsNeg true t sat))

/-! ### Logic and shifts (R262, R263) -/

/-- A bitwise op: the type sets only the lanes of the mask. -/
def State.vLogic (s : State) (a : Attr) (t : Ety) (d x y : Reg) (f : W512 → W512 → W512) : Except Stop State :=
  s.vMerge a t.width 2 d [x, y] fun s => f (s.rdV t.width x) (s.rdV t.width y)

def execVand (a : Attr) (t : Ety) (d x y : Reg) (s : State) : Host.Outcome State Fault Refusal :=
  finish s (s.vLogic a t d x y fun p q => p &&& q)
def execVor (a : Attr) (t : Ety) (d x y : Reg) (s : State) : Host.Outcome State Fault Refusal :=
  finish s (s.vLogic a t d x y fun p q => p ||| q)
def execVxor (a : Attr) (t : Ety) (d x y : Reg) (s : State) : Host.Outcome State Fault Refusal :=
  finish s (s.vLogic a t d x y fun p q => p ^^^ q)
def execVandn (a : Attr) (t : Ety) (d x y : Reg) (s : State) : Host.Outcome State Fault Refusal :=
  finish s (s.vLogic a t d x y fun p q => p &&& ~~~q)
def execVshl (a : Attr) (t : Ety) (d x y : Reg) (s : State) : Host.Outcome State Fault Refusal :=
  finish s (s.vop2 a t.width 2 d x y (laneShl t.width))
def execVshr (a : Attr) (t : Ety) (d x y : Reg) (s : State) : Host.Outcome State Fault Refusal :=
  finish s (s.vop2 a t.width 2 d x y (laneShr t.width))
def execVsra (a : Attr) (t : Ety) (d x y : Reg) (s : State) : Host.Outcome State Fault Refusal :=
  finish s (s.vop2 a t.width 2 d x y (laneSra t.width))
def execVshlImm (a : Attr) (t : Ety) (c : BitVec 7) (d x : Reg) (s : State) : Host.Outcome State Fault Refusal :=
  finish s (s.vop1 a t.width 2 d x fun p => laneShl t.width p c.toNat)
def execVshrImm (a : Attr) (t : Ety) (c : BitVec 7) (d x : Reg) (s : State) : Host.Outcome State Fault Refusal :=
  finish s (s.vop1 a t.width 2 d x fun p => laneShr t.width p c.toNat)
def execVsraImm (a : Attr) (t : Ety) (c : BitVec 7) (d x : Reg) (s : State) : Host.Outcome State Fault Refusal :=
  finish s (s.vop1 a t.width 2 d x fun p => laneSra t.width p c.toNat)

/-! ### Compares, classes, selection (R264-R266) -/

def execVcmp (a : Attr) (cc : VCc) (t : Ety) (d x y : Reg) (s : State) : Host.Outcome State Fault Refusal :=
  finish s do
    let s ← s.popVs [x, y]
    return s.wrM a d (maskOfLanes (s.t.enables a) (List.zipWith (cmpLane s.t.fmtNan cc t)
      (lanesOf t.width (s.rdV t.width x)) (lanesOf t.width (s.rdV t.width y))))

def execVclass (a : Attr) (t : Ety) (set : Byte) (d x : Reg) (s : State) : Host.Outcome State Fault Refusal :=
  finish s do
    let s ← s.popVs [x]
    return s.wrM a d (maskOfLanes (s.t.enables a)
      ((lanesOf t.width (s.rdV t.width x)).map (classLane s.t.fmtNan t set)))

def execVsel (a : Attr) (t : Ety) (d x y : Reg) (s : State) : Host.Outcome State Fault Refusal :=
  finish s (s.vWhole a 3 d [x, y] fun s =>
    mergeBits (s.rdV t.width x) (s.rdV t.width y) (disabledBits t.width (~~~(s.t.enables a))))

def execVmov (a : Attr) (t : Ety) (d x : Reg) (s : State) : Host.Outcome State Fault Refusal :=
  finish s (s.vMerge a t.width 2 d [x] fun s => s.rdV t.width x)

/-! ### Moving lanes (R267) -/

def execVbcast (a : Attr) (t : Ety) (d sa : Reg) (s : State) : Host.Outcome State Fault Refusal :=
  finish s (s.vMerge a t.width 3 d [] fun s => splat t.width (s.rdS sa).toNat)

def execVins (a : Attr) (t : Ety) (k : BitVec 7) (d x sb : Reg) (s : State) : Host.Outcome State Fault Refusal :=
  finish s (s.vWhole a 3 d [x] fun s =>
    ofLanes t.width ((lanesOf t.width (s.rdV t.width x)).set k.toNat ((s.rdS sb).toNat % 2 ^ t.width)))

def execVidx (a : Attr) (t : Ety) (d sa sb : Reg) (s : State) : Host.Outcome State Fault Refusal :=
  finish s (s.vMerge a t.width 3 d [] fun s =>
    ofLanes t.width ((List.range (512 / t.width)).map fun (i : Nat) =>
      wrapInt (sInt (s.rdS sa) + (i : Int) * sInt (s.rdS sb)) t.width))

def execVperm (a : Attr) (t : Ety) (d x vi : Reg) (s : State) : Host.Outcome State Fault Refusal :=
  finish s (s.vMerge a t.width 3 d [x, vi] fun s =>
    let l := lanesOf t.width (s.rdV t.width x)
    s.map1 t.width vi fun j => l.getD j 0)

def execVshuf (a : Attr) (t : Ety) (d x y vi : Reg) (s : State) : Host.Outcome State Fault Refusal :=
  finish s (s.vMerge a t.width 3 d [x, y, vi] fun s =>
    let l := lanesOf t.width (s.rdV t.width x) ++ lanesOf t.width (s.rdV t.width y)
    s.map1 t.width vi fun j => l.getD j 0)

def execVrot (a : Attr) (t : Ety) (d x sk : Reg) (s : State) : Host.Outcome State Fault Refusal :=
  finish s (s.vMerge a t.width 3 d [x] fun s =>
    let l := lanesOf t.width (s.rdV t.width x)
    let n := 512 / t.width
    ofLanes t.width ((List.range n).map fun i => l.getD ((i + (s.rdS sk).toNat % n) % n) 0))

/-! ### Conversions (R268-R271) -/

def execVcvt (a : Attr) (dt st : Ety) (isat : Bool) (d x : Reg) (s : State) : Host.Outcome State Fault Refusal :=
  finish s (s.vop1 a dt.width 3 d x (laneCvt s.t.fmtNan s.t.fmtRnd s.t.fmtSat dt st isat))

def execVpack (a : Attr) (dt st : Ety) (isat : Bool) (d x y : Reg) (s : State) : Host.Outcome State Fault Refusal :=
  finish s (s.vMerge a dt.width 3 d [x, y] fun s =>
    ofLanes dt.width ((lanesOf st.width (s.rdV st.width x) ++ lanesOf st.width (s.rdV st.width y)).map
      (lanePack s.t.fmtNan s.t.fmtRnd s.t.fmtSat dt st isat)))

def execVunpack (a : Attr) (dt st : Ety) (hi : Bool) (d x : Reg) (s : State) : Host.Outcome State Fault Refusal :=
  finish s (s.vMerge a dt.width 3 d [x] fun s =>
    let l := lanesOf st.width (s.rdV st.width x)
    let n := 512 / dt.width
    ofLanes dt.width (((if hi then l.drop n else l).take n).map (laneUnpack s.t.fmtNan dt st)))

def execVscale (a : Attr) (t : Ety) (d x y : Reg) (s : State) : Host.Outcome State Fault Refusal :=
  finish s (s.vop2 a t.width 3 d x y (laneScale t))
def execVround (a : Attr) (rm : RMode) (t : Ety) (d x : Reg) (s : State) : Host.Outcome State Fault Refusal :=
  finish s (s.vop1 a t.width 3 d x (laneRound rm t))

/-! ### Lane reductions (R272) -/

def execVredadd (a : Attr) (t : Ety) (sat : Bool) (d x : Reg) (s : State) : Host.Outcome State Fault Refusal :=
  finish s (s.vRed a t d x (if t.isF then 2 ^ (t.width - 1) else 0) fun p q => laneArith t sat addF addI [p, q])
def execVredmax (a : Attr) (t : Ety) (d x : Reg) (s : State) : Host.Outcome State Fault Refusal :=
  finish s (s.vRed a t d x (identMinMax true t) (laneMinMax true t))
def execVredmin (a : Attr) (t : Ety) (d x : Reg) (s : State) : Host.Outcome State Fault Refusal :=
  finish s (s.vRed a t d x (identMinMax false t) (laneMinMax false t))

/-! ### Special functions and refinements (R273, R274) -/

def execVrcp (a : Attr) (d x : Reg) (s : State) : Host.Outcome State Fault Refusal := finish s (s.vop1 a 32 12 d x sfRcp)
def execVrsq (a : Attr) (d x : Reg) (s : State) : Host.Outcome State Fault Refusal := finish s (s.vop1 a 32 12 d x sfRsq)
def execVexp2 (a : Attr) (d x : Reg) (s : State) : Host.Outcome State Fault Refusal :=
  finish s (s.vop1 a 32 12 d x sfExp2)
def execVlog2 (a : Attr) (d x : Reg) (s : State) : Host.Outcome State Fault Refusal :=
  finish s (s.vop1 a 32 12 d x sfLog2)
def execVtanh (a : Attr) (d x : Reg) (s : State) : Host.Outcome State Fault Refusal :=
  finish s (s.vop1 a 32 12 d x sfTanh)
def execVsigm (a : Attr) (d x : Reg) (s : State) : Host.Outcome State Fault Refusal :=
  finish s (s.vop1 a 32 12 d x sfSigm)
def execVrcpr (a : Attr) (d x y : Reg) (s : State) : Host.Outcome State Fault Refusal :=
  finish s (s.vop2 a 32 4 d x y refineRcp)
def execVrsqr (a : Attr) (d x y : Reg) (s : State) : Host.Outcome State Fault Refusal :=
  finish s (s.vop2 a 32 4 d x y refineRsq)

/-! ### Top-k, gating, histograms (R276-R278) -/

def execVtopk (a : Attr) (k : Fin 8) (d x y z : Reg) (s : State) : Host.Outcome State Fault Refusal :=
  finish s (s.vWhole a 8 d [x, y, z] fun s =>
    ofLanes 32 (topk (lanesOf 32 (s.rdV 32 x)) (lanesOf 32 (s.rdV 32 y)) (lanesOf 32 (s.rdV 32 z)) (s.t.enables a)
      (k.val + 1)))

def execVgate (a : Attr) (k : Fin 8) (d x : Reg) (s : State) : Host.Outcome State Fault Refusal :=
  finish s (s.vWhole a 16 d [x] fun s => ofLanes 32 (gate (lanesOf 32 (s.rdV 32 x)) (k.val + 1)))

/-- `vhist`: entries of A counted into 16 bins from the base in s[sc] (R278). -/
def execVhist (a : Attr) (half : Bool) (d x y sc : Reg) (s : State) : Host.Outcome State Fault Refusal :=
  finish s (s.vWhole a 6 d [x, y] fun s =>
    let w := if half then 16 else 32
    let en := s.t.enables a
    let l := ((lanesOf w (s.rdV w x)).zipIdx.filter fun p => en.getLsbD p.2).map fun p =>
      (p.1 : Int) - sInt (s.rdS sc)
    ofLanes 32 ((lanesOf 32 (s.rdV 32 y)).zipIdx.map fun p => p.1 + l.countP fun j => j == p.2))

end Sys2Proof.Machine
end

