-- ==== Sys2Proof/Machine/Red.lean ====
section
/-!
DEFINITION. Reductions: the folds (R77, R79), the combining points with their timers and late inputs (R78, R80), results
(R81), `sendr`, `recvr` and `gbar` (R224, R225, R311), and the reduction registers (R82).
-/

namespace Sys2Proof.Machine

/-! ### Operations (R79, R81) -/

def RedOp.code : RedOp → Nat
  | .fsum => 0 | .wmerge => 1 | .fmax => 2 | .fmin => 3 | .isum => 4 | .and => 5 | .or => 6

def RedOp.ofCode (n : Nat) : RedOp :=
  match n with
  | 0 => .fsum | 1 => .wmerge | 2 => .fmax | 3 => .fmin | 4 => .isum | 5 => .and | _ => .or

/-- The element size of an operation. -/
def redSize (op : RedOp) (wide : Bool) : Nat :=
  match op with
  | .wmerge => 80
  | .isum => if wide then 8 else 4
  | _ => 4

/-- Whether an operation's elements are FP32 values that may be NaN. -/
def RedOp.fp : RedOp → Bool
  | .fsum | .fmax | .fmin => true
  | _ => false

/-- The fold step on one element. -/
def redStep (op : RedOp) (wide : Bool) (x y : Nat) : Nat :=
  match op with
  | .fsum => roundF32 (exactSum [real32 x, real32 y])
  | .wmerge => (wideMerge (Wide.ofNat x) (Wide.ofNat y)).toNat
  | .fmax => laneMinMax true .f32 x y
  | .fmin => laneMinMax false .f32 x y
  | .isum => (x + y) % 2 ^ (8 * redSize .isum wide)
  | .and => Nat.land x y
  | .or => Nat.lor x y

/-- The first input of a fold: a NaN result is canonical (R79, R154). -/
def redFirst (op : RedOp) (x : Nat) : Nat := if RedOp.fp op && (real32 x).isNan then canonF32 else x

/-- The element of a fold that receives no contribution (R81). -/
def redIdentity (op : RedOp) : Nat :=
  match op with
  | .fsum => 0x80000000
  | .fmax => 0xFF800000
  | .fmin => 0x7F800000
  | .and => 0xFFFFFFFF
  | _ => 0

/-- The elements of a payload. -/
def redElems (n : Nat) (bs : List Byte) : List Nat :=
  (List.range (bs.length / n)).map fun i => ofBytes ((bs.drop (n * i)).take n)

/-- The left fold of payloads in the order given; none where there are none. -/
def redFold (op : RedOp) (wide : Bool) (ps : List (List Byte)) : Option (List Byte) :=
  let n := redSize op wide
  match ps.map (redElems n) with
  | [] => none
  | x :: r =>
    some ((r.foldl (fun acc y => List.zipWith (redStep op wide) acc y) (x.map (redFirst op))).flatMap fun e => bytesOf e n)

/-- The identity payload of a length. -/
def redEmpty (op : RedOp) (wide : Bool) (len : Nat) : List Byte :=
  let n := redSize op wide
  (List.replicate (len / n) (redIdentity op)).flatMap fun e => bytesOf e n

/-- Whether a payload holds a NaN. -/
def redNan (op : RedOp) (bs : List Byte) : Bool := RedOp.fp op && (redElems 4 bs).any fun x => (real32 x).isNan

/-! ### Groups at a combining point (R308) -/

/-- The members not removed. -/
def Group.live (g : Group) : List Rank := g.members.filter fun r => !g.left.contains r

/-- The root package: the lowest of the members' (R77). -/
def Group.root (g : Group) : Nat := g.members.foldl (fun m r => min m (pkgOf r)) 0xFFFFF

/-- The formed group with an id that has a rank among the members not removed. -/
def State.groupAt (s : State) (g : W16) (r : Rank) : Option Group :=
  s.red.groups.find? fun x => x.grp == g && x.formed && x.live.contains r

/-- Whether a key is one of a group's: its id and its root package (R80). -/
def Group.owns (g : Group) (key : RKey) : Bool := g.grp == key.group && BitVec.ofNat 20 g.root == key.root

/-- The formed group of a key. -/
def State.groupOf (s : State) (key : RKey) : Option Group := s.red.groups.find? fun x => x.formed && x.owns key

/-- The mask of members by rank-order ordinal; ordinals of 63 and above share bit 63 (R81). -/
def Group.mask (g : Group) (rs : List Rank) : W64 :=
  (g.members.zipIdx.filter fun m => rs.contains m.1).foldl (fun w m => w ||| BitVec.ofNat 64 (2 ^ min 63 m.2)) 0

/-- The root package of the key that the current tile names. -/
def State.rootOf (s : State) (g : W16) : Nat := ((s.groupAt g (s.rankOf s.cur)).map Group.root).getD s.mgmt.pkg.toNat

/-! ### Key headers (R67) -/

/-- The 16 bytes before a contribution's payload. -/
def keyHeader (k : RKey) (op : RedOp) (missing : W64) : List Byte :=
  bytesOf (k.ident.toNat + 2 ^ 16 * k.root.toNat + 2 ^ 36 * k.branch.toNat + 2 ^ 40 * RedOp.code op +
    2 ^ 64 * missing.toNat) 16

/-- A contribution or partial, decoded. DESIGN CHOICE (log 40): that the elements of an ISUM have 8 bytes is carried beside the packet's
header, in the model's `ext`, since the header has no place for it. -/
structure Contrib where
  key : RKey
  op : RedOp
  wide : Bool
  missing : W64
  data : List Byte
deriving DecidableEq, Repr

def Contrib.of (p : Packet) : Contrib :=
  let h := ofBytes (p.payload.take 16)
  ⟨⟨BitVec.ofNat 20 (fld h 16 20), p.group, BitVec.ofNat 16 h, fld h 36 1 == 1⟩, RedOp.ofCode (fld h 40 4), p.ext.getLsbD 0,
    BitVec.ofNat 64 (fld h 64 64), p.payload.drop 16⟩

/-- The packet of a contribution or partial. -/
def contribPacket (src dst : Rank) (k : RKey) (op : RedOp) (wide : Bool) (xid : W16) (missing : W64) (data : List Byte) :
    Packet :=
  { mkPacket src dst (if k.branch then 0x1A else 0x18) k.group xid
      (if k.branch then (if op = .and then 1 else 0) else RedOp.code op) 0 (keyHeader k op missing ++ data) with
    ext := BitVec.ofNat 64 wide.toNat }

/-- Whether a member's contribution to a key is still on its way to its combining unit. -/
def State.travelling (s : State) (key : RKey) (r : Rank) : Bool :=
  s.inFlight fun e =>
    match e with
    | .rcontrib _ p | .brpred _ p => p.src == r && (Contrib.of p).key == key
    | _ => false

/-! ### Places of inputs (R77, R78) -/

def State.redSlot (s : State) (pt : Point) (key : RKey) : Option RSlot :=
  s.red.slots.find? fun x => x.pt == pt && x.key == key

def State.modRed (s : State) (f : Red → Red) : State := { s with red := f s.red }

def State.putSlot (s : State) (x : RSlot) : State :=
  s.modRed fun r => { r with slots := r.slots.map fun y => if y.pt == x.pt && y.key == x.key then x else y }

/-- Live members on a die of this module, with those whose contribution was sent before they left. -/
def State.onDie (s : State) (g : Group) (key : RKey) (d : Fin 4) : List Rank :=
  g.members.filter fun r => s.isLocal r && dieOf (keyOf r) == d && (!g.left.contains r || s.travelling key r)

/-- Live members in another package. -/
def State.inPkg (s : State) (g : Group) (pkg : Nat) : List Rank :=
  if pkg = s.mgmt.pkg.toNat then [] else g.live.filter fun r => pkgOf r == pkg

/-- The places that a point expects, in fold order, each with the members whose contributions it stands for: at a die its
members by key; at the switch dies 0-3 and, at the root, the other packages as 4 + id. -/
def State.expected (s : State) (g : Group) (key : RKey) : Point → List (Nat × List Rank)
  | .die d => (s.onDie g key d).map fun r => (keyOf r, [r])
  | .switch =>
    ((List.finRange 4).filterMap fun d =>
      let ms := s.onDie g key d
      if ms.isEmpty && (s.redSlot (.die d) key).isNone && !s.red.passed.contains (.die d, key) then none
      else some (d.val, ms)) ++
    if g.root = s.mgmt.pkg.toNat then
      (((g.members.map pkgOf).eraseDups.filter fun k => !(s.inPkg g k).isEmpty).map fun k => (4 + k, s.inPkg g k))
    else []

/-- The place of a source at a point. -/
def State.placeOf (s : State) (pt : Point) (src : Rank) : Nat :=
  match pt with
  | .die _ => keyOf src
  | .switch => if s.isLocal src then keyOf src / 1024 else 4 + pkgOf src

/-- The members of a group that a source speaks for at a point; empty for a source that the point does not know. -/
def State.speaksFor (s : State) (g : Group) (pt : Point) (src : Rank) : List Rank :=
  match pt with
  | .die d => if s.isLocal src && dieOf (keyOf src) == d && g.members.contains src then [src] else []
  | .switch => g.members.filter fun r => pkgOf r == pkgOf src && (!s.isLocal src || keyOf r / 1024 == keyOf src / 1024)

/-- A late input is discarded and counted (R78, R80, R82). -/
def State.lateInput (s : State) : State := s.modRed fun r => { r with redlate := sat32 r.redlate }

/-- Inputs in fold order. -/
def insertPlace (x : RInput) : List RInput → List RInput
  | [] => [x]
  | y :: r => if x.place < y.place then x :: y :: r else y :: insertPlace x r

/-! ### Passing on and results (R78, R80, R81) -/

/-- The places of a slot that got no input, and the members concerned. -/
def State.absent (s : State) (g : Group) (x : RSlot) : List Rank :=
  ((s.expected g x.key x.pt).filter fun e => !x.inputs.any fun i => i.place == e.1).flatMap (·.2)

/-- The full missing list of a slot at the root (R81): the members it did not hear of, those that a point of this module has given up
on, and those of other modules that the masks it received mark. -/
def State.missingList (s : State) (g : Group) (x : RSlot) : List Rank :=
  let marked (m : Rank × Nat) : Bool := x.inputs.any fun i => i.place == 4 + pkgOf m.1 && i.missing.getLsbD (min 63 m.2)
  (s.absent g x ++ ((s.red.gaveUp.filter fun u => u.1 == x.key).map (·.2)) ++
    (g.members.zipIdx.filter fun m => !s.isLocal m.1 && marked m).map (·.1)).eraseDups

/-- The missing mask of a slot: what its inputs bring and the members it did not hear of. -/
def State.missingOf (s : State) (g : Group) (x : RSlot) : W64 :=
  x.inputs.foldl (fun w i => w ||| i.missing) (g.mask (s.absent g x))

def RSlot.folded (x : RSlot) : Option (List Byte) := redFold x.op x.wide (x.inputs.filterMap (·.data))

def State.dropSlot (s : State) (x : RSlot) : State :=
  s.modRed fun r => { r with slots := r.slots.filter fun y => !(y.pt == x.pt && y.key == x.key) }

/-- A packet that leaves after the fold's two cycles. -/
def State.sendFolded (s : State) (p : Packet) : State := { ({ s with now := s.now + 2 } : State).send p with now := s.now }

/-- A reduction key joins the late list after TIMEOUT; the oldest of 4096 is dropped for it (R80). -/
def State.listLate (s : State) (key : RKey) : State :=
  if key.branch then s
  else
    let at_ := s.now + 64 * s.red.rsto.toNat
    let s := match s.red.late with
      | o :: r =>
        if s.red.late.length < 4096 then s
        else (s.modRed fun q => { q with late := r }).reportEvent 0 (s.rankOf 306) 0x2D
          (o.1.group.toNat + 2 ^ 16 * o.1.ident.toNat)
      | [] => s
    (s.modRed fun q => { q with late := q.late ++ [(key, at_)] }).schedule at_ switchKey (.keylistExpire key)

/-- The result header of R81. -/
def resultHeader (key : RKey) (op : RedOp) (expelled nan : Bool) (missing : W64) : List Byte :=
  bytesOf ((if missing = 0 then 1 else 6) + 16 * expelled.toNat + 32 * nan.toNat + 2 ^ 8 * RedOp.code op +
    2 ^ 16 * key.ident.toNat + 2 ^ 32 * key.group.toNat + 2 ^ 64 * missing.toNat) 16

/-- A slot's wait is over at the root: the result goes to every member not removed, and the slot is free. -/
def State.finishSlot (s : State) (g : Group) (x : RSlot) : State :=
  let missing := s.missingOf g x
  let datas := x.inputs.filterMap (·.data)
  let payload := x.folded.getD (redEmpty x.op x.wide x.len)
  let expelled := x.expelled || s.red.expelledKeys.contains x.key
  let head := resultHeader x.key x.op expelled (datas.any (redNan x.op)) missing
  let pkt (r : Rank) : Packet :=
    if x.key.branch then
      mkPacket (s.rankOf switchKey) r 0x1B x.key.group 0 (if (ofBytes (payload.take 1)) % 2 = 1 then 1 else 0) 0 head
    else mkPacket (s.rankOf switchKey) r 0x19 x.key.group 0 (RedOp.code x.op) 0 (head ++ payload)
  let s1 := if missing = 0 then s else (s.listLate x.key).modRed fun q => { q with lostLists := q.lostLists.put x.ix (s.missingList g x) }
  let s2 := (s1.dropSlot x).modRed fun q => { q with
    passed := q.passed.filter fun u => u.2 != x.key
    gaveUp := q.gaveUp.filter fun u => u.1 != x.key
    expelledKeys := q.expelledKeys.filter fun u => u != x.key }
  let s3 := g.live.foldl (fun s r => s.sendFolded (pkt r)) s2
  if s3.red.waiting.isEmpty then s3 else s3.schedule s3.now switchKey .slotAllocateWaiting

/-- A slot's wait is over at a point that is not the root: its partial goes on. -/
def State.passPartial (s : State) (g : Group) (x : RSlot) : State :=
  let k := match x.pt with
    | .die d => d.val * 1024 + unitIx
    | .switch => switchKey
  let dst : Rank := match x.pt with
    | .die _ => s.rankOf switchKey
    | .switch => BitVec.ofNat 32 (g.root * 4096 + switchKey)
  let p := contribPacket (s.rankOf k) dst x.key x.op x.wide 0 (s.missingOf g x) (x.folded.getD [])
  let s1 := ((s.dropSlot x).modRed fun q => { q with
    passed := q.passed ++ [(x.pt, x.key)]
    gaveUp := q.gaveUp ++ (s.absent g x).map fun r => (x.key, r) }).sendFolded p
  if x.pt = .switch ∧ !s1.red.waiting.isEmpty then s1.schedule s1.now switchKey .slotAllocateWaiting else s1

/-- Whether a point is the root of a group. -/
def State.isRoot (s : State) (g : Group) (pt : Point) : Bool := pt == .switch && g.root == s.mgmt.pkg.toNat

/-- A slot's wait ends. -/
def State.closeSlot (s : State) (g : Group) (x : RSlot) : State :=
  if s.isRoot g x.pt then s.finishSlot g x else s.passPartial g x

/-- A slot closes when nothing it expects is outstanding (R77). -/
def State.checkSlot (s : State) (pt : Point) (key : RKey) : State :=
  match s.redSlot pt key, s.groupOf key with
  | some x, some g =>
    if (s.expected g key pt).all fun e => x.inputs.any fun i => i.place == e.1 then s.closeSlot g x else s
  | _, _ => s

/-! ### Inputs (R77-R80) -/

/-- The slots of the switch die. -/
def Red.switchSlots (r : Red) : List RSlot := r.slots.filter fun x => x.pt == .switch

/-- The lowest free slot of the 1024. -/
def Red.freeIx (r : Red) : Option Nat := (List.range 1024).find? fun i => !(r.switchSlots.any fun x => x.ix == i)

/-- The timer of a new slot: its length and its event. -/
def State.redTimer (s : State) (g : Group) (pt : Point) (key : RKey) : Nat × Instr :=
  let t := s.red.rsto.toNat
  match pt with
  | .die d => (t / 4, .dieCombineTimeout d key)
  | .switch => if s.isRoot g pt then (t, .slotTimeout key) else (t / 2, .memberSwitchTimeout key)

/-- An input enters its slot; one whose op or length differs counts as missing and is reported (R79, R333), and so, without a report,
does one with a word marked uncorrectable (R372, log 72). -/
def State.addInput (s : State) (g : Group) (x : RSlot) (p : Packet) (c : Contrib) : State :=
  let place := s.placeOf x.pt p.src
  let empty := c.data.isEmpty
  let fits := c.op == x.op && c.wide == x.wide && (empty || x.len == 0 || c.data.length == x.len)
  let x1 := { x with len := if x.len = 0 then c.data.length else x.len }
  let whole := (packetBad p 1).isEmpty
  if fits && whole then
    (s.putSlot { x1 with inputs := insertPlace ⟨place, if empty then none else some c.data, c.missing⟩ x.inputs }).checkSlot
      x.pt x.key
  else
    let who := (s.speaksFor g x.pt p.src).filter fun r => !g.left.contains r
    let lost := g.mask who
    let s := s.modRed fun q => { q with gaveUp := q.gaveUp ++ who.map fun r => (x.key, r) }
    let d : Fin 4 := match x.pt with
      | .die d => d
      | .switch => 0
    let s := s.putSlot { x with inputs := insertPlace ⟨place, none, c.missing ||| lost⟩ x.inputs }
    let s := if fits then s
      else s.reportEvent d p.src 0x2C (p.src.toNat + 2 ^ 32 * x.key.group.toNat + 2 ^ 48 * x.key.ident.toNat)
    s.checkSlot x.pt x.key

/-- A contribution, predicate or partial reaches a combining point. -/
def State.redInput (s : State) (pt : Point) (p : Packet) : State :=
  let c := Contrib.of p
  match s.groupOf c.key with
  | none => s.lateInput
  | some g =>
    if (s.speaksFor g pt p.src).isEmpty || s.red.late.any (fun l => l.1 == c.key) || s.red.passed.contains (pt, c.key) then
      s.lateInput
    else
      match s.redSlot pt c.key with
      | some x =>
        if pt = .switch ∧ s.isFrozen 2 x.ix then
          s.schedule (s.now + 1) s.cur (if c.key.branch then .brpred pt { p with sv := false } else .rcontrib pt { p with sv := false })
        else if x.inputs.any fun i => i.place == s.placeOf pt p.src then s.lateInput
        else s.addInput g x p c
      | none =>
        let waits := pt == .switch && (s.red.freeIx.isNone || s.red.waiting.any fun w => (Contrib.of w.2).key == c.key)
        if waits then
          let first := !(s.red.waiting.any fun w => (Contrib.of w.2).key == c.key)
          let s1 := s.modRed fun r => { r with waiting := r.waiting ++ [(s.now, { p with sv := false })] }
          if first then s1.schedule (s.now + 65536) switchKey (.slotWait c.key) else s1
        else
          let ix := if pt = .switch then s.red.freeIx.getD 0 else 0
          let tm := s.redTimer g pt c.key
          let x : RSlot := ⟨pt, ix, c.key, c.op, c.wide, c.data.length, [], false, s.now + tm.1⟩
          let s1 := (s.modRed fun r => { r with
            slots := r.slots ++ [x]
            lostLists := if pt = .switch then r.lostLists.del ix else r.lostLists }).schedule (s.now + tm.1) s.cur tm.2
          s1.addInput g x p c

/-- Whether a thread has a BUSY `sendr` to a group under a transfer id. -/
def Tile.contributes (t : Tile) (xid group : W16) : Bool :=
  (t.live xid).any fun c => c.op == .sendr && !c.terminal && c.x.group == group

/-- A contribution's own slot is DONE once its combining unit has taken it (R224), in the saved copy of a member that is suspended
(R330). -/
def State.taken (s : State) (p : Packet) : State :=
  if p.xid = 0 ∧ s.isLocal p.src ∧ keyOf p.src % 1024 = unitIx then s
  else s.modThread p.src (fun t => t.contributes p.xid p.group) fun t => t.completed s.now p.xid 1 0

def execRcontrib (pt : Point) (p : Packet) (s : State) : Host.Outcome State Fault Refusal :=
  .next (s.arrive p 0x18 fun s => (if pt = .switch then s else s.taken p).redInput pt p)

def execBrpred (pt : Point) (p : Packet) (s : State) : Host.Outcome State Fault Refusal :=
  .next (s.arrive p 0x1A fun s => s.redInput pt p)

/-- SLOT_ALLOCATE_WAITING (R80): the oldest waiting input takes a free slot. -/
def execSlotAllocateWaiting (s : State) : Host.Outcome State Fault Refusal :=
  match s.red.waiting with
  | [] => .next s
  | w :: _ =>
    if s.red.freeIx.isNone then .next s
    else
      let key := (Contrib.of w.2).key
      let mine := s.red.waiting.filter fun u => (Contrib.of u.2).key == key
      let s1 := s.modRed fun r => { r with waiting := r.waiting.filter fun u => (Contrib.of u.2).key != key }
      let s2 := mine.foldl (fun s u => s.redInput .switch u.2) s1
      .next (if s2.red.waiting.isEmpty then s2 else s2.schedule s2.now switchKey .slotAllocateWaiting)

/-- SLOT_WAIT (R80): reported every 65,536 cycles. -/
def execSlotWait (key : RKey) (s : State) : Host.Outcome State Fault Refusal :=
  if s.red.waiting.any fun w => (Contrib.of w.2).key == key then
    .next ((s.reportEvent 0 (s.rankOf 306) 0x2B (key.group.toNat + 2 ^ 16 * key.ident.toNat)).schedule (s.now + 65536)
      switchKey (.slotWait key))
  else .next s

/-! ### Timers (R78, R80) -/

/-- The timer of a point's slot expires: what has arrived is folded. -/
def State.slotExpire (s : State) (pt : Point) (key : RKey) (ev : Instr) : State :=
  match s.redSlot pt key, s.groupOf key with
  | some x, some g =>
    if s.now < x.due then s
    else if pt = .switch ∧ s.isFrozen 2 x.ix then s.schedule (s.now + 1) s.cur ev
    else
      let s1 := if pt = .switch ∧ !s.isRoot g pt then s.listLate key else s
      s1.closeSlot g x
  | _, _ => s

def execDieCombineTimeout (die : Fin 4) (key : RKey) (s : State) : Host.Outcome State Fault Refusal :=
  .next (s.slotExpire (.die die) key (.dieCombineTimeout die key))
def execMemberSwitchTimeout (key : RKey) (s : State) : Host.Outcome State Fault Refusal :=
  .next (s.slotExpire .switch key (.memberSwitchTimeout key))
def execSlotTimeout (key : RKey) (s : State) : Host.Outcome State Fault Refusal :=
  .next (s.slotExpire .switch key (.slotTimeout key))

/-- KEYLIST_EXPIRE (R80). -/
def execKeylistExpire (key : RKey) (s : State) : Host.Outcome State Fault Refusal :=
  .next (s.modRed fun r => { r with late := r.late.filter fun l => !(l.1 == key && decide (l.2 ≤ s.now)) })

/-! ### Registers (R82) -/

def execRstoWrite (v : W32) (s : State) : Host.Outcome State Fault Refusal :=
  .next (if v = 0 then s else s.modRed fun r => { r with rsto := v })
def execRedlateRead (s : State) : Host.Outcome State Fault Refusal :=
  .next ((s.readOut (s.red.redlate.setWidth 64)).modRed fun r => { r with redlate := 0 })

/-! ### Contributing (R224, R311) -/

/-- The combining unit of the current tile's die. -/
def State.unitRank (s : State) : Rank := s.rankOf (s.cur / 1024 * 1024 + unitIx)

/-- The current thread's contribution to a key of a group. -/
def State.contribution (s : State) (g ident : W16) (branch : Bool) (op : RedOp) (wide : Bool) (xid : W16)
    (data : List Byte) : Packet :=
  contribPacket (s.rankOf s.cur) s.unitRank ⟨BitVec.ofNat 20 (s.rootOf g), g, ident, branch⟩ op wide xid 0 data

/-- The length and alignment checks of `sendr` (R224). -/
def redLenOk (op : RedOp) (wide : Bool) (b : BufWord) : Bool :=
  let n := redSize op wide
  (if op = .wmerge then decide (80 ≤ b.len) && decide (b.len ≤ 480) else decide (4 ≤ b.len) && decide (b.len ≤ 512)) &&
    b.len % n == 0 && b.addr % (if op = .wmerge then 16 else n) == 0

/-- `sendr` (R224, R202). -/
def execSendr (a : Attr) (op : RedOp) (wide : Bool) (gm : Fin 8) (uli : Bool) (d sb si : Reg) (s : State) :
    Host.Outcome State Fault Refusal :=
  finish s do
    let b := BufWord.of (s.rdS sb)
    let i := s.rdS si
    let checks := s.bufChecks b (fld i.toNat 16 48 == 0) (some gm) ++
      [(redLenOk op wide b, 0x81), (!(s.t.badWord b.addr b.len).isSome, 0x85)]
    s.specLimit b.len
    if (firstFault checks).isNone then s.holdRoom b.len
    let g := gmGroup s.t.csr.gm[gm]
    let x : Xfer := { Xfer.empty with buf := b.addr, len := b.len, group := g, ident := i.setWidth 16, gm := gm }
    s.engineOp a d .sendr b.len uli x checks fun s xid =>
      let p := s.contribution g (i.setWidth 16) false op wide xid (s.t.spmRead s.t.isSpec b.addr b.len)
      let s := s.fixGeom s.cur xid b.len
      if s.t.isSpec then s.holdSend ⟨xid, p, b.len⟩ else s.send p

/-! ### Taking a result (R225, R311) -/

/-- The status field of a result header. -/
def resultStatus (bs : List Byte) : BitVec 4 := BitVec.ofNat 4 (ofBytes (bs.take 1))

/-- A BUSY `recvr` takes a result: header and payload. -/
def State.takeResult (s : State) (xid : W16) (x : Xfer) (bs : List Byte) (marks : List Nat) : State :=
  let n := min x.len bs.length
  let s := (s.fixGeom s.cur xid n).deliver x.buf (bs.take n) marks
  s.complete s.cur xid (if x.len < bs.length then 3 else resultStatus bs) (some bs.length) 0

/-- `recvr` (R225). -/
def execRecvr (a : Attr) (gm : Fin 8) (uli : Bool) (d sb si : Reg) (s : State) : Host.Outcome State Fault Refusal :=
  finish s do
    let b := BufWord.of (s.rdS sb)
    let i := s.rdS si
    s.noSpec
    let checks := s.bufChecks b (fld i.toNat 16 48 == 0) (some gm)
    let g := gmGroup s.t.csr.gm[gm]
    let x : Xfer := { Xfer.empty with buf := b.addr, len := b.len, group := g, ident := i.setWidth 16, gm := gm }
    s.engineOp a d .recvr b.len uli x checks fun s xid =>
      match s.t.msg.hamper.find? fun h =>
          h.kind == .result && (h.key.map fun k => k.group == g && k.ident == x.ident).getD false with
      | none => s
      | some h =>
        let at_ := s.t.csr.hampbase.toNat + 64 * h.gran
        let s1 := s.modT fun t => { t with msg := { t.msg with hamper := t.msg.hamper.erase h } }
        if (s.t.badWord at_ h.bytes false).isSome then s1.complete s.cur xid 2 none (faultDetail 0x85 0)
        else s1.takeResult xid x (s.t.spmRead false at_ h.bytes) []

/-- `gbar` (R311). -/
def execGbar (a : Attr) (gm : Fin 8) (uli : Bool) (d si : Reg) (s : State) : Host.Outcome State Fault Refusal :=
  finish s do
    s.noSpec
    let i := s.rdS si
    let g := gmGroup s.t.csr.gm[gm]
    let x : Xfer := { Xfer.empty with group := g, ident := i.setWidth 16, gm := gm }
    s.engineOp a d .gbar 0 uli x [(fld i.toNat 16 48 == 0, 0x81), (gmJoined s.t.csr.gm[gm], 0x81)] fun s xid =>
      s.send (s.contribution g x.ident false .and false xid (bytesOf 0xFFFFFFFF 4))

/-- The BUSY slot of an op kind that waits for a result, in issue order by sequence of slots. -/
def Tile.awaits (t : Tile) (op : SlotOp) (g ident : W16) : Option (Fin 64) :=
  (List.finRange 64).find? fun k =>
    let c := t.cpl[k]
    c.used && !c.terminal && c.op == op && c.x.group == g && c.x.ident == ident

/-- A result that no `recvr` awaits is held as an eager arrival is, or refused, and comes again (R225). -/
def State.holdResult (s : State) (p : Packet) (key : RKey) : State :=
  let n := p.payload.length
  let again := s.schedule (s.now + 1024) s.cur (.rresultResend { p with sv := false })
  if 256 ≤ s.t.msg.hamper.length then again
  else
    match s.t.findGran (granulesOf n) with
    | none => again
    | some g =>
      let e : Env := ⟨p.src, 0, p.group, 0, false, false, false, n, p.dst, 0⟩
      (s.hold ⟨.result, e, some key, g, granulesOf n, n, none, 0⟩).deliver (s.t.csr.hampbase.toNat + 64 * g) p.payload (packetBad p 0)

/-- A result from the root module ends its key at this module's points: later inputs are of a new key (R78, R80). -/
def State.keyOver (s : State) (p : Packet) (key : RKey) : State :=
  if s.isLocal p.src then s
  else s.modRed fun q => { q with
    passed := q.passed.filter fun u => u.2 != key
    gaveUp := q.gaveUp.filter fun u => u.1 != key
    expelledKeys := q.expelledKeys.filter fun u => u != key }

/-- A result reaches a tile. One for a suspended member is refused, and comes again (R376). -/
def State.tileResult (s : State) (p : Packet) : State :=
  let h := ofBytes (p.payload.take 16)
  let ident : W16 := BitVec.ofNat 16 (fld h 16 16)
  let key : RKey := ⟨BitVec.ofNat 20 (pkgOf p.src), p.group, ident, false⟩
  let s := s.keyOver p key
  if s.filtered p then s.schedule (s.now + 1024) s.cur (.rresultResend { p with sv := false })
  else if s.t.thr.st == .none || s.t.thr.st == .halted then s
  else
    match s.t.awaits .gbar p.group ident with
    | some k =>
      let c := s.t.cpl[k]
      if resultStatus p.payload = 1 then s.complete s.cur (mkXid k c.seq) 1 none 0
      else s.complete s.cur (mkXid k c.seq) 6 none (BitVec.ofNat 32 (fld h 64 32))
    | none =>
      match s.t.awaits .recvr p.group ident with
      | some k => s.takeResult (mkXid k s.t.cpl[k].seq) s.t.cpl[k].x p.payload (packetBad p 0)
      | none =>
        if (List.finRange 8).any fun k => gmJoined s.t.csr.gm[k] && gmGroup s.t.csr.gm[k] == p.group then s.holdResult p key
        else s

def execRresult (p : Packet) (s : State) : Host.Outcome State Fault Refusal :=
  .next (s.arrive p 0x19 fun s => s.tileResult p)

/-- RRESULT_RESEND (R225, R333): the switch die sends a refused result again. -/
def execRresultResend (p : Packet) (s : State) : Host.Outcome State Fault Refusal :=
  .next (if s.isLocal p.src then s.send p
    else match pktEvent p with
      | some ev => s.schedule s.now (keyOf p.dst) ev
      | none => s)

end Sys2Proof.Machine
end

