-- ==== Sys2Proof/Machine/Group.lean ====
section
/-!
DEFINITION. Groups: `join`, the group table and removal (R307-R310), the barrier `tbar` (R299), and a placement that is
given up because its join or a fetch failed (R351).
-/

namespace Sys2Proof.Machine

/-! ### Gangs (R346, R351) -/

/-- Every scheduler looks at its queue again in the next cycle (R346, R347). -/
def State.wakeSchedulers (s : State) : State :=
  (List.finRange 5).foldl (fun s k =>
    if s.agenda.any fun e => e.ev == .schedulerPick k then s else s.schedule (s.now + 1) switchKey (.schedulerPick k)) s

/-- A dispatch queue, and the state with one changed. -/
def State.dq (s : State) (d : Fin 4) (q : Fin 8) : DispQ := (s.disp[d])[q]
def State.modDq (s : State) (d : Fin 4) (q : Fin 8) (f : DispQ → DispQ) : State :=
  { s with disp := s.disp.set d ((s.disp[d]).set q (f (s.dq d q))) }

/-- A gang's queue is unbound (R352); pushes and closes under way there end as those of an unbound queue do (R355), and records
of the gang that wait in a dispatcher are gone. -/
def State.unbind (s : State) (g : Gang) : State :=
  let held := s.dq g.bindDie g.klr.queue
  if g.klr.rwv && (held.bound == some g.handle || held.reserved == some g.handle) then
    let old := s.dq g.bindDie g.klr.queue
    let ends := (old.pushes ++ old.closes).map (fun p => (p.rank, p.gang, p.xid)) ++ old.closing.map fun c => (c.rank, c.gang, c.xid)
    let s := s.modDq g.bindDie g.klr.queue fun q =>
      { DispQ.reset with dropped1 := q.dropped1, dropped3 := q.dropped3, spares := q.spares, carried := q.carried }
    let others (l : List Dealt) : List Dealt := l.filter fun x => x.gang != g.handle
    let s := { s with ert := { s.ert with blocked := s.ert.blocked.map others, limit := s.ert.limit.map others } }
    ends.foldl (fun s w => s.completeOf w.1 w.2.1 w.2.2 2 (faultDetail 0x84 0))
      (s.endJobs g.bindDie.val (.rowAreaWrite g.bindDie g.klr.queue))
  else s

/-- The replies that a tile's moon transfers await: moon, transfer id and piece. -/
def Tile.awaited (t : Tile) : List (Rank × W16 × Nat) :=
  (List.finRange 64).flatMap fun k =>
    let c := t.cpl[k]
    if c.used && !c.terminal then
      c.x.pieces.zipIdx.filterMap fun p => if p.1.reply.isNone then some (p.1.moon, mkXid k c.seq, p.2) else none
    else []

/-- A gang is gone: its tiles hold no thread, and replies still on their way to them are discarded (R370). -/
def State.freeTiles (s : State) (g : Gang) : State :=
  g.ranks.foldl (fun s r =>
    if (s.tile (keyOf r)).thr.gang == some g.handle then
      ((s.purgeTile (keyOf r)).endJobs (keyOf r) .saveImageWrite).modTile (keyOf r) fun t =>
        { t with
          thr := Thread.reset
          spec := none
          frozen := []
          msg := { t.msg.cleared with orphans := t.msg.orphans ++ t.awaited } }
    else s) s

/-- Registrations that a test picks leave the group table, and an entry that nothing is left of is dropped. -/
def State.dropJoiners (s : State) (p : Joiner → Bool) : State :=
  s.modRed fun r => { r with groups := (r.groups.map fun x =>
    if x.formed then x else { x with joiners := x.joiners.filter fun j => !p j }).filter fun x => x.formed || !x.joiners.isEmpty }

/-- A gang leaves the scheduler, with its registrations, its saved members and what it has asked of moons. -/
def State.dropGang (s : State) (h : W32) : State :=
  let s := ((s.dropJoiners fun j => j.gang == some h).endJobs switchKey (.gangPlace h)).endJobs switchKey (.gangResume h)
  { s with sched := { s.sched with
    gangs := s.sched.gangs.filter fun x => x.handle != h
    saves := s.sched.saves.filter fun v => v.tile.thr.gang != some h } }

/-- A placement is given up (R351). -/
def State.abandonGang (s : State) (handle : W32) (reason : Nat) : State :=
  match s.gang handle with
  | none => s
  | some g =>
    ((((s.unbind g).freeTiles g).dropGang handle).reportEvent 0 (s.rankOf 306) 0x2F
      (handle.toNat + 2 ^ 32 * reason)).wakeSchedulers

/-! ### The group table (R308, R309) -/

/-- The fields of a group word. -/
def wordGrp (w : W64) : W16 := w.setWidth 16
def wordHome (w : W64) : Nat := fld w.toNat 16 20
def wordCount (w : W64) : Nat := fld w.toNat 36 20

def State.putGroup (s : State) (g : Group) : State :=
  let known := s.red.groups.any fun x => x.ix == g.ix
  s.modRed fun r => { r with
    groups := if known then r.groups.map fun x => if x.ix == g.ix then g else x else r.groups ++ [g] }

def State.dropGroup (s : State) (g : Group) : State :=
  s.modRed fun r => { r with groups := r.groups.filter fun x => x.ix != g.ix }

/-- The lowest free entry of the 4096; for a group whose home is another package, the lowest number from 4096 up. -/
def Red.freeGroup (r : Red) (own : Bool) : Option Nat :=
  (List.range 4096).findSome? fun i =>
    let ix := if own then i else 4096 + i
    if r.groups.any fun x => x.ix == ix then none else some ix

/-- A registration fails: the `join` completes, or the placement that made it is given up. -/
def State.joinFails (s : State) (j : Joiner) (status : BitVec 4) (detail : W32) : State :=
  if s.isLocal j.rank then
    match j.xid with
    | some x => s.completeOf j.rank j.gang x status detail
    | none => j.gang.elim s fun h => s.abandonGang h 0x84
  else s

/-- Ranks in rising order. -/
def insertRank (r : Rank) : List Rank → List Rank
  | [] => [r]
  | x :: l => if r.toNat ≤ x.toNat then r :: x :: l else x :: insertRank r l

/-- The thread that made a registration. -/
def State.joinerTile (s : State) (j : Joiner) : Tile := s.threadTile j.rank fun t => t.ofGang j.gang

/-- Whether every joiner lies in the timed domain of one of them (R144). -/
def State.oneDomain (s : State) (j : Joiner) (js : List Joiner) : Bool :=
  js.all fun x => s.isLocal x.rank && (s.joinerTile x).thr.domain == (s.joinerTile j).thr.domain

/-- No thread of a gang issues before every member has finished its join (R351). -/
def State.launchGo (s : State) (h : W32) : State :=
  match s.gang h with
  | none => s
  | some g =>
    if g.ranks.all fun r => gmJoined (s.tile (keyOf r)).csr.gm[0] then
      g.ranks.foldl (fun s r => s.modTile (keyOf r) fun t => { t with thr := { t.thr with starting := false, base := s.now } }) s
    else s

/-- A member of a group that has formed: its register is written, its branch sequence starts at 0 (R309, R331), and its
`join` is DONE, or its launch goes on (R351). -/
def State.memberJoined (s : State) (g : Group) (js : List Joiner) (j : Joiner) : State :=
  if s.isLocal j.rank then
    let td := s.oneDomain j js
    let s := s.modThread j.rank (fun t => t.ofGang j.gang) fun t => { t with csr := { t.csr with
      gm := t.csr.gm.set j.gm (BitVec.ofNat 64 (g.grp.toNat + 2 ^ 16 + if td then 2 ^ 18 else 0))
      cbseq := t.csr.cbseq.set j.gm 0
      latch := t.csr.latch.set j.gm 0 } }
    match j.xid with
    | some x => s.completeOf j.rank j.gang x 1 0
    | none => j.gang.elim s fun h => s.launchGo h
  else s

/-- The entry of a group word. -/
def Group.isOf (g : Group) (word : W64) : Bool := g.grp == wordGrp word && g.home == wordHome word

/-- A registration reaches the home (R309). DESIGN CHOICE (log 36): where the home is another package, the module learns of the
registrations that arrive there, its own included, and keeps an entry beside its 4096 by them. -/
def State.registerJoin (s : State) (j : Joiner) (word : W64) : State :=
  let grp := wordGrp word
  let home := wordHome word
  match s.red.groups.find? fun g => g.isOf word with
  | none =>
    match s.red.freeGroup (home == s.mgmt.pkg.toNat) with
    | none => s.joinFails j 5 0
    | some ix =>
      let due := s.now + s.red.rsto.toNat
      let g : Group := ⟨ix, grp, home, wordCount word, [j], [], [], false, due⟩
      if g.count = 1 then
        let g := { g with joiners := [], members := [j.rank], formed := true }
        (s.putGroup g).memberJoined g [j] j
      else (s.putGroup g).schedule due switchKey (.joinFormTimeout (BitVec.ofNat 20 home) grp)
  | some g =>
    if g.formed || g.count != wordCount word then s.joinFails j 2 (faultDetail 0x84 0)
    else
      let js := g.joiners ++ [j]
      if js.length < g.count then s.putGroup { g with joiners := js }
      else
        let g := { g with
          joiners := [], members := js.foldl (fun l (x : Joiner) => insertRank x.rank l) [], formed := true }
        js.foldl (fun s x => s.memberJoined g js x) (s.putGroup g)

/-- Whether a slot's registration already stands in the table. -/
def State.registered (s : State) (rank : Rank) (gang : Option W32) (xid : W16) : Bool :=
  s.red.groups.any fun g => g.joiners.any fun j => j.rank == rank && j.gang == gang && j.xid == some xid

/-- The registration that a thread of a rank has under way with a group word: that of its launch, or of a BUSY `join`. -/
def State.joinerOf (s : State) (rank : Rank) (word : W64) (t : Tile) : Option Joiner :=
  let gang := t.thr.gang
  if t.thr.starting && ((gang.bind s.gang).any fun g => g.klr.grp == some word) then some ⟨rank, gang, 0, none⟩
  else
    ((List.finRange 64).find? fun k =>
      let c := t.cpl[k]
      c.used && !c.terminal && c.op == .join && c.x.word == word && !s.registered rank gang (mkXid k c.seq)).map fun k =>
        ⟨rank, gang, t.cpl[k].x.gm, some (mkXid k t.cpl[k].seq)⟩

/-- GROUP_JOIN_REGISTER: the registration of a `join`, of a launch, or of a member of another module. -/
def execGroupJoinRegister (rank : Rank) (word : W64) (s : State) : Host.Outcome State Fault Refusal :=
  let frozen := (s.red.groups.find? fun g => g.isOf word).map fun g => s.isFrozen 4 g.ix
  if frozen = some true then .next (s.schedule (s.now + 1) s.cur (.groupJoinRegister rank word))
  else if !s.isLocal rank then .next (s.registerJoin ⟨rank, none, 0, none⟩ word)
  else
    let ts := ((s.sched.saves.filter fun v => v.rank == rank).map (·.tile)) ++ [s.tile (keyOf rank)]
    .next ((ts.findSome? fun t => s.joinerOf rank word t).elim s fun j => s.registerJoin j word)

/-- JOIN_FORM_TIMEOUT (R309). -/
def execJoinFormTimeout (home : BitVec 20) (group : W16) (s : State) : Host.Outcome State Fault Refusal :=
  match s.red.groups.find? fun g => g.grp == group && g.home == home.toNat with
  | none => .next s
  | some g =>
    if g.formed || decide (s.now < g.due) then .next s
    else .next (g.joiners.foldl (fun s j => s.joinFails j 6 0) (s.dropGroup g))

/-- The latency of a register message from a tile to the switch die: as a packet's (R65, R68). -/
def State.toSwitch (s : State) (k : Nat) : Nat := legLat (s.gatewayHops k) 1 + 40

/-- Whether the home of a group word can be reached. -/
def State.homeReached (s : State) (w : W64) : Bool := wordHome w == s.mgmt.pkg.toNat || (s.route (wordHome w)).isSome

/-- `join` (R308, R309). -/
def execJoin (a : Attr) (gm : Fin 8) (uli : Bool) (d sg : Reg) (s : State) : Host.Outcome State Fault Refusal :=
  finish s do
    s.noSpec
    let w := s.rdS sg
    let checks := [(!(s.t.csr.gm[gm]).getLsbD 16 && wordCount w != 0 && fld w.toNat 56 8 == 0, 0x81),
      (s.homeReached w, 0x82)]
    s.engineOp a d .join 0 uli { Xfer.empty with group := wordGrp w, gm := gm, word := w } checks fun s _ =>
      s.schedule (s.now + s.toSwitch s.cur) switchKey (.groupJoinRegister (s.rankOf s.cur) w)

/-! ### The barrier (R299) -/

/-- Whether a tile has reached the barrier of a group. -/
def Tile.atTbar (t : Tile) (grp : W16) : Bool :=
  t.thr.st == .running && t.thr.tbarGo.isNone && (t.thr.tbar.map fun k => gmGroup t.csr.gm[k] == grp).getD false

/-- When every live member has reached the barrier, each issues 40 cycles after cycle `l`. -/
def State.checkTbar (s : State) (g : Group) (l : Nat) : State :=
  match g.live with
  | [] => s
  | r :: _ =>
    if g.live.all fun r => s.isLocal r && (s.tile (keyOf r)).atTbar g.grp then
      (g.live.foldl (fun s r => s.modTile (keyOf r) fun t => { t with thr := { t.thr with tbarGo := some (l + 40) } })
        s).schedule (l + 40) (keyOf r) (.tbarRelease (dieOf (keyOf r)) g.grp)
    else s

/-- The current tile reaches its barrier. -/
def State.arriveTbar (s : State) (gm : Fin 8) : State :=
  let s1 := s.modT fun t => { t with thr := { t.thr with tbar := some gm } }
  (s1.groupAt (gmGroup s.t.csr.gm[gm]) (s.rankOf s.cur)).elim s1 fun g => s1.checkTbar g s.now

/-- TBAR_RELEASE: the members' bundles issue in this cycle. -/
def execTbarRelease (_die : Fin 4) (group : W16) (s : State) : Host.Outcome State Fault Refusal :=
  .next (((s.red.groups.filter fun g => g.formed && g.grp == group).flatMap (·.members)).foldl (fun s r =>
    if s.isLocal r then s.modTile (keyOf r) fun t =>
      if (t.thr.tbarGo.map fun c => decide (c ≤ s.now)).getD false then { t with thr := { t.thr with tbar := none } } else t
    else s) s)

/-- `tbar` (R299): the bundle waits until the barrier lets it go. -/
def execTbar (_a : Attr) (gm : Fin 8) (s : State) : Host.Outcome State Fault Refusal :=
  finish s do
    s.noSpec
    let g := s.t.csr.gm[gm]
    check (gmJoined g) (.trap .engineFault (BitVec.ofNat 64 (gm.val + 8 * 2 ^ 16)))
    check (g.getLsbD 18) (.trap .engineFault (BitVec.ofNat 64 (gm.val + 9 * 2 ^ 16)))
    check ((s.t.thr.tbarGo.map fun c => decide (c ≤ s.now)).getD false && s.t.thr.tbar.isNone) (.stall 0)
    return s.modT fun t => { t with thr := { t.thr with tbarGo := none } }

/-! ### Removal (R310) -/

/-- Whether a key in COLLECT still waits on a member. -/
def State.waitsOn (s : State) (key : RKey) (r : Rank) : Bool :=
  let got (pt : Point) : Bool := ((s.redSlot pt key).map fun x => x.inputs.any fun i => i.place == s.placeOf pt r).getD false
  if s.isLocal r then
    let pt := Point.die (dieOf (keyOf r))
    !s.travelling key r && !s.red.passed.contains (pt, key) && !got pt
  else !got .switch

/-- The points of a group's keys in COLLECT, the dies' first. -/
def State.openPoints (s : State) (g : Group) : List (Point × RKey) :=
  let l := (s.red.slots.filter fun x => g.owns x.key).map fun x => (x.pt, x.key)
  (l.filter fun u => u.1 != .switch) ++ l.filter fun u => u.1 == .switch

/-- The member's own `recvr` and `gbar` on the group complete CANCELLED. -/
def State.cancelOwn (s : State) (k : Nat) (grp : W16) : State :=
  (List.finRange 64).foldl (fun s i =>
    let c := (s.tile k).cpl[i]
    if c.used && !c.terminal && (c.op == .recvr || c.op == .gbar) && c.x.group == grp then
      s.complete k (mkXid i c.seq) 4 none 0
    else s) s

/-- What a group leaves when its entry is freed: nothing of its keys, no slot that still collects, and no place in the late list
(R80). -/
def Red.forget (q : Red) (g : Group) : Red :=
  { q with
    slots := q.slots.filter fun x => !g.owns x.key
    waiting := q.waiting.filter fun u => !g.owns (Contrib.of u.2).key
    late := q.late.filter fun l => !g.owns l.1
    passed := q.passed.filter fun u => !g.owns u.2
    gaveUp := q.gaveUp.filter fun u => !g.owns u.1
    expelledKeys := q.expelledKeys.filter fun k => !g.owns k }

/-- The home removes a member: reductions, branches and barriers that wait on it complete without it. The last one's
removal frees the entry. -/
def State.removeMember (s : State) (grp : W16) (r : Rank) : State :=
  match s.groupAt grp r with
  | none => s
  | some g =>
    let keys := ((s.openPoints g).map (·.2)).eraseDups.filter fun k => s.waitsOn k r
    let g1 := { g with left := g.left ++ [r] }
    let s1 := (s.putGroup g1).modRed fun q => { q with expelledKeys := q.expelledKeys ++ keys }
    let s2 := (s.openPoints g).foldl (fun s u => s.checkSlot u.1 u.2) s1
    let s3 := (if s.isLocal r then s2.cancelOwn (keyOf r) grp else s2).checkTbar g1 (s.now + 1)
    if g1.live.isEmpty then
      let s4 := (s3.dropGroup g).modRed fun q => q.forget g
      if s4.red.waiting.isEmpty then s4 else s4.schedule s4.now switchKey .slotAllocateWaiting
    else s3

/-- A membership register, written. -/
def State.setGm (s : State) (k : Nat) (gm : Fin 8) (v : W64) : State :=
  s.modTile k fun t => { t with csr := { t.csr with gm := t.csr.gm.set gm v } }

/-- `leave` (R310). -/
def execLeave (a : Attr) (gm : Fin 8) (uli : Bool) (d : Reg) (s : State) : Host.Outcome State Fault Refusal :=
  finish s do
    s.noSpec
    let g := s.t.csr.gm[gm]
    check (!((s.groupAt (gmGroup g) (s.rankOf s.cur)).map fun x => s.isFrozen 4 x.ix).getD false) (.stall 0)
    s.engineOp a d .leave 0 uli { Xfer.empty with group := gmGroup g, gm := gm } [(g.getLsbD 16, 0x81)] fun s xid =>
      ((s.removeMember (gmGroup g) (s.rankOf s.cur)).setGm s.cur gm 0).complete s.cur xid 1 none 0

end Sys2Proof.Machine
end

