-- ==== Sys2Proof/Machine/Branch.lean ====
section
/-!
DEFINITION. The collective branch: issue (R291, R331), the checkpoint (R334), commit and discard (R338), resolution and
CBR_TIMEOUT (R333, R337, R340).
-/

namespace Sys2Proof.Machine

/-! ### Issue (R291, R331, R334) -/

/-- `cbr` (R291): the checks in their order, the contribution, the checkpoint, and the hinted path. -/
def State.cbr (s : State) (all : Bool) (gm : Fin 8) (p : Pred) (hint : Bool) (target : BitVec 17) : Except Stop State := do
  let t := s.t
  check (!t.thr.inHandler) (s.context 0x0A)
  check (t.loops.depth == 0) t.depthTrap
  check (gmJoined t.csr.gm[gm]) (.trap .engineFault (BitVec.ofNat 64 (gm.val + 8 * 2 ^ 16)))
  s.noSpec
  let g := gmGroup t.csr.gm[gm]
  let seq := t.csr.cbseq[gm]
  let bit := s.predBit p
  let pc := t.thr.pc
  let nxt := t.nextAddr pc.toNat
  let path := if hint then target.toNat else nxt
  let alt := if hint then nxt else target.toNat
  let sp : Spec := ⟨gm, seq, all, hint, BitVec.ofNat 26 alt, BitVec.ofNat 26 path, pc, t.csr.cbrto, false, none, false, 0,
    t.regs.s, t.regs.m, t.loops, [], [], [], [], none⟩
  let s1 := s.send (s.contribution g seq true (if all then .and else .or) false 0 (bytesOf bit.toNat 4))
  let s2 := s1.modT fun t => { t with
    spec := some sp
    swap := { t.swap with spec := [] }
    csr := { t.csr with cbseq := t.csr.cbseq.set gm (seq + 1) } }
  return if hint then s2.transfer target.toNat else s2

def execCbrAny (_a : Attr) (gm : Fin 8) (p : Pred) (hint : Bool) (target : BitVec 17) (s : State) :
    Host.Outcome State Fault Refusal := finish s (s.cbr false gm p hint target)
def execCbrAll (_a : Attr) (gm : Fin 8) (p : Pred) (hint : Bool) (target : BitVec 17) (s : State) :
    Host.Outcome State Fault Refusal := finish s (s.cbr true gm p hint target)

/-! ### Commit and discard (R124, R338) -/

/-- Nothing of a tile counts as speculative any more. -/
def Tile.clearSpec (t : Tile) : Tile :=
  { t with
    spec := none
    swap := { t.swap with spec := [] }
    regs := { t.regs with
      q0 := t.regs.q0.map fun e => { e with spec := false }
      loads := t.regs.loads.map fun l => { l with spec := false }
      flight := t.regs.flight.map fun w => { w with spec := false } }
    cpl := t.cpl.map fun c => { c with spec := false }
    copy := { t.copy with ws := t.copy.ws.map fun w => { w with spec := false } }
    mat := { t.mat with
      arr := t.mat.arr.map fun p => { p with spec := false }
      wgt := t.mat.wgt.map fun p => { p with spec := false }
      wide := t.mat.wide.map fun p => { p with spec := false } }
    thr := { t.thr with deferred := t.thr.deferred.map fun d => { d with spec := false } } }

/-- The live bit of every word written speculatively inverts (R124). -/
def Swap.commit (w : Swap) : Swap :=
  { w with live := w.live.filter (fun x => !w.spec.contains x) ++ w.spec.filter fun x => !w.live.contains x }

/-- A held send leaves, in the cycle after resolution (R338). -/
def State.release (s : State) (h : HeldSend) : State :=
  let s1 := { s with now := s.now + 1 }
  { (if h.pkt.kind == 0x18 then s1.send h.pkt else s1.emit h.pkt) with now := s.now }

/-- Commit (R338), with the held trap of a speculative bundle taken (R336), unless a deferred trap comes before it (R364): the
bundle then raises it again when the thread resumes there. -/
def State.commitSpec (s : State) (sp : Spec) : State :=
  let s1 := sp.sends.foldl State.release
    (s.modT fun t => ({ t with swap := t.swap.commit } : Tile).clearSpec)
  if !s1.t.thr.deferred.isEmpty then s1
  else match sp.trap with
  | some (tr, some epc) => s1.stopTrapAs s.cur tr.spec tr.cause tr.tval epc
  | some (tr, none) => s1.stopTrapAs s.cur tr.spec tr.cause tr.tval s1.t.thr.pc
  | none => s1

/-- A slot at a discard: a held send's is FREE, another's that is terminal too, and a running op's drops its later
writes (R338). -/
def Slot.discarded (c : Slot) (held : Bool) : Slot :=
  if !c.used || !c.spec then c
  else if held || c.terminal then c.freed
  else { c with spec := false, drop := true, uli := false }

/-- Discard (R338): the checkpoint and the copied registers come back, and what was speculative is gone, with the strides that
wait for a level (R288). -/
def Tile.discardSpec (t : Tile) (sp : Spec) : Tile :=
  let v := sp.vcopies.foldl (fun v c => v.set c.1 c.2) t.regs.v
  let cpl := Vector.ofFn fun k : Fin 64 => (t.cpl[k]).discarded (sp.sends.any fun h => slotIx h.xid == k)
  { t with
    spec := none
    swap := { t.swap with spec := [] }
    loops := { sp.ckptLoops with lv := sp.ckptLoops.lv.map fun x => if x.act then x else { x with strides := [] } }
    regs := { t.regs with
      v := v
      s := sp.ckptS
      m := sp.ckptM
      q0 := (sp.pop0.filter fun e => !e.spec) ++ t.regs.q0.filter fun e => !e.spec
      q1 := sp.pop1 ++ t.regs.q1
      popped := t.regs.popped - sp.pop1.length
      loads := t.regs.loads.filter fun l => !l.spec
      flight := t.regs.flight.filter fun w => !w.spec }
    cpl := cpl
    mat := { t.mat with wgt := t.mat.wgt.map fun p => { p with spec := false } }
    thr := { t.thr with deferred := t.thr.deferred.filter fun d => !d.spec } }

/-! ### Resolution (R337) -/

/-- Whether an op that issued while speculative still runs: resolution waits for it (R246, R337). -/
def Tile.specRuns (t : Tile) : Bool := (t.mat.arr ++ t.mat.wide).any fun p => p.spec

/-- What ends a branch at a bundle boundary (R337): the expulsion, the result that has landed, or the tile's own count. -/
def Spec.resolution (sp : Spec) : Option Instr :=
  if sp.expelled then some .cbrtoExpire
  else if sp.result.isSome then some .cbrResolve
  else if sp.left = 0 then some .cbrtoExpire
  else none

/-- Flow goes to the path that an outcome names. -/
def State.takePath (s : State) (sp : Spec) (taken : Bool) : State :=
  (s.modT fun t => { t with thr := { t.thr with pc := sp.cbrPc } }).transfer
    (if taken == sp.hint then sp.path else sp.alt).toNat |>.modT fun t => { t with iss := Iss.none }

/-- The `tval` of CBR_TIMEOUT (R340). -/
def Spec.timeoutVal (sp : Spec) (slot : Bool) : W64 :=
  BitVec.ofNat 64 (sp.seq.toNat + 2 ^ 16 * sp.gm.val + 2 ^ 19 * sp.expelled.toNat + 2 ^ 20 * slot.toNat)

/-- The branch of the current thread ends in CBR_TIMEOUT (R337, R340): the speculation is discarded, and what is known of
the branch stays with the stopped thread. -/
def State.cbrTimeout (s : State) (sp : Spec) (slot : Bool) : State :=
  let s1 := s.modT fun t =>
    let t1 := if sp.wait then t else t.discardSpec sp
    { t1 with
      spec := some { sp with
        wait := true, result := none, stall := 0, pop0 := [], pop1 := [], vcopies := [], sends := [], trap := none }
      thr := { t1.thr with pc := sp.cbrPc, badTarget := none }
      csr := if slot then { t1.csr with latch := t1.csr.latch.set sp.gm 3 } else t1.csr }
  s1.stopTrapAs s.cur (!sp.wait) .cbrTimeout (sp.timeoutVal slot) sp.cbrPc

/-- CBR_RESOLVE (R333, R337): the result that has landed takes effect at this bundle boundary. -/
def execCbrResolve (s : State) : Host.Outcome State Fault Refusal :=
  match s.t.spec with
  | none => .next s
  | some sp =>
    match sp.result with
    | none => .next s
    | some none => .next (s.cbrTimeout sp true)
    | some (some taken) =>
      if sp.wait then .next ((s.modT fun t => { t with spec := none }).takePath sp taken)
      else if taken == sp.hint then .next (s.commitSpec sp)
      else .next ((s.modT fun t => t.discardSpec sp).takePath sp taken)

/-- CBRTO_EXPIRE (R337): the tile's own count has run out, or the member was expelled. -/
def execCbrtoExpire (s : State) : Host.Outcome State Fault Refusal :=
  match s.t.spec with
  | none => .next s
  | some sp => .next (s.cbrTimeout sp false)

/-- The latch value of a result (R332). -/
def latchOf : Option Bool → BitVec 2
  | some false => 1
  | some true => 2
  | none => 3

/-- A branch result reaches a tile (R333, R337, R340): the thread's own branch takes it, or its latch keeps it while the
thread is stopped under CBR_TIMEOUT; any other result is discarded. -/
def State.branchResult (s : State) (p : Packet) : State :=
  let s := s.keyOver p ⟨BitVec.ofNat 20 (pkgOf p.src), p.group, BitVec.ofNat 16 (fld (ofBytes (p.payload.take 16)) 16 16), true⟩
  if s.filtered p then s.schedule (s.now + 1024) s.cur (.rresultResend { p with sv := false })
  else
    let h := ofBytes (p.payload.take 16)
    let out : Option Bool := if resultStatus p.payload = 1 then some (p.aux.getLsbD 0) else none
    match s.t.spec with
    | none => s
    | some sp =>
      if sp.seq != BitVec.ofNat 16 (fld h 16 16) || gmGroup s.t.csr.gm[sp.gm] != p.group then s
      else if s.t.thr.st == .stopped then
        s.modT fun t => { t with csr := { t.csr with latch := t.csr.latch.set sp.gm (latchOf out) } }
      else s.modT fun t => { t with spec := some { sp with result := some out } }

def execBrresult (p : Packet) (s : State) : Host.Outcome State Fault Refusal :=
  .next (s.arrive p 0x1B fun s => s.branchResult p)

end Sys2Proof.Machine
end

