-- ==== Sys2Proof/Machine/Chan.lean ====
section
/-!
DEFINITION. Scheduled channels (R109-R115, R221-R223).
-/

namespace Sys2Proof.Machine

/-! ### Channel records and routes (R109-R112) -/

/-- The entry that a record of 16 bytes describes; `lat` and `W` are filled by `chld`. -/
def Chan.of (x : Nat) : Chan where
  v := fld x 0 1 == 1
  recvEnd := fld x 1 1 == 1
  qb := fld x 2 1 == 1
  etype := BitVec.ofNat 4 (fld x 4 4)
  peer := fld x 8 10
  pch := Fin.ofNat 64 (fld x 18 6)
  depth := fld x 24 4 + 1
  size := 16 * (fld x 28 5 + 1)
  wper := fld x 40 16 + 1
  wlen := fld x 56 16 + 1
  w := 0
  lat := 0
  credits := fld x 24 4 + 1
  buf := []

/-- A reserved field of the record is set. -/
def chanRsv (x : Nat) : Bool := fld x 3 1 != 0 || fld x 33 7 != 0 || fld x 112 16 != 0

/-- The window start (R111): the value congruent to `wst` in [k - 2^31, k + 2^31). -/
def windowStart (wst : Nat) (k : Int) : Int := k - 2 ^ 31 + (((wst : Int) - (k - 2 ^ 31)) % 2 ^ 32)

/-- The link directions of a route: along the column to the destination row, then along the row (R62). -/
def linksOf (a b : Nat × Nat × Nat) : List (Nat × Nat × Nat) :=
  let rows := if a.1 ≤ b.1 then (List.range (b.1 - a.1)).map fun i => (a.1 + i, a.2.1, 0)
    else (List.range (a.1 - b.1)).map fun i => (a.1 - i, a.2.1, 1)
  let cols := if a.2.1 ≤ b.2.1 then (List.range (b.2.1 - a.2.1)).map fun i => (b.1, a.2.1 + i, 2)
    else (List.range (a.2.1 - b.2.1)).map fun i => (b.1, a.2.1 - i, 3)
  rows ++ cols

/-- The link directions between the routers of two ranks of a die. -/
def State.chanLinks (s : State) (a b : Nat) : List (Nat × Nat × Nat) :=
  match s.routerOf a, s.routerOf b with
  | some x, some y => linksOf x y
  | _, _ => []

/-- Whether two periodic windows share a cycle, taken modulo both periods (R110). -/
def windowsMeet (a b : Chan) : Bool :=
  let g : Int := Nat.gcd a.wper b.wper
  decide ((b.w - a.w) % g < a.wlen) || decide ((a.w - b.w) % g < b.wlen)

/-- Whether another send end of the domain holds a link direction of this channel's route in a shared cycle. -/
def State.routeTaken (s : State) (k : Fin 64) (c : Chan) : Bool :=
  let die := s.cur / 1024 * 1024
  let mine := s.chanLinks s.cur (die + c.peer)
  s.tiles.any fun u => dieOf u.1 == dieOf s.cur && u.2.thr.domain == s.t.thr.domain &&
    (List.finRange 64).any fun j =>
      let d := u.2.msg.chan[j]
      d.v && !d.recvEnd && !(u.1 == s.cur && j == k) && windowsMeet c d &&
        (s.chanLinks u.1 (die + d.peer)).any fun l => mine.contains l

/-- A channel's latency (R112). -/
def State.chanLat (s : State) (peer size : Nat) : Nat :=
  2 + 2 * s.legHops s.cur (s.cur / 1024 * 1024 + peer) + (flitsOf size - 1)

/-- The checks of R110 on a record with v = 1 for entry `k`. -/
def State.chanOk (s : State) (k : Fin 64) (c : Chan) (rsv : Bool) : Bool :=
  let t := s.t
  let peerKey := s.cur / 1024 * 1024 + c.peer
  let far := (s.tile peerKey).msg.chan[c.pch]
  !rsv && c.etype != 15 && decide (c.peer < 288) && decide (c.wlen ≤ c.wper) &&
    !(c.qb && (List.finRange 64).any fun j => j != k && t.msg.chan[j].v && t.msg.chan[j].qb &&
      t.msg.chan[j].recvEnd == c.recvEnd) &&
    !(c.qb && c.size != 64) && peerKey != s.cur && (s.tile peerKey).thr.domain == t.thr.domain &&
    (s.tile peerKey).thr.st != .none &&
    (c.recvEnd || (far.v && far.recvEnd && far.peer == s.cur % 1024 && far.pch == k && far.etype == c.etype &&
      far.size == c.size && far.depth == c.depth && !s.routeTaken k c))

/-- A valid end that must not be reloaded: a receive end with elements, a send end short of credits (R221). -/
def Chan.inUse (c : Chan) : Bool := c.v && (if c.recvEnd then !c.buf.isEmpty else decide (c.credits < c.depth))

/-- `chld` (R110, R221). -/
def execChld (a : Attr) (k : Fin 64) (d sa : Reg) (s : State) : Host.Outcome State Fault Refusal :=
  finish s do
    s.noSpec
    let addr := fld (s.rdS sa).toNat 0 20
    let r ← s.allocSlot .chld 0 false Xfer.empty
    recAddrOk addr 16 16
    let x := s.t.spmNat false addr 16
    let old := s.t.msg.chan[k]
    let c0 := Chan.of x
    let c : Chan := { c0 with
      w := windowStart (fld x 72 32) (s.cyc s.t).toNat
      lat := s.chanLat c0.peer c0.size }
    let put (s : State) (c : Chan) : State :=
      s.modT fun t => { t with msg := { t.msg with chan := t.msg.chan.set k c } }
    let s1 ← r.1.wrS a 1 d (r.2.setWidth 64)
    if (s.t.badWord addr 16).isSome then return s1.faultNow r.2 (faultDetail 0x85 0)
    else if old.inUse then return s1.faultNow r.2 (faultDetail 0x84 0)
    else if !c.v then
      if chanRsv x then return s1.faultNow r.2 (faultDetail 0x84 0)
      else return (put s1 (if old.v then Chan.invalid else old)).complete s.cur r.2 1 none 0
    else if s.chanOk k c (chanRsv x) then return (put s1 c).complete s.cur r.2 1 none 0
    else return (put s1 Chan.invalid).faultNow r.2 (faultDetail 0x84 0)

/-! ### Elements -/

/-- The checks that `sendc`, `recvc` and `recvac` share (R222, R223): the entry, then the range, then the alignment. -/
def State.chanCheck (s : State) (k : Fin 64) (recvEnd : Bool) (addr : Nat) : Except Stop Unit := do
  let c := s.t.msg.chan[k]
  check (c.v && c.recvEnd == recvEnd) (.trap .engineFault (BitVec.ofNat 64 (k.val + 2 * 2 ^ 16)))
  s.t.accessOk addr c.size 16

/-- An element enters the fabric: it is in the receive end's buffer `lat` cycles on (R112). -/
def State.injectElem (s : State) (c : Chan) (bs : List Byte) : State :=
  s.schedule (s.now + c.lat) (keyOf (s.peerRank c))
    (.chnelem (chanPacket (s.rankOf s.cur) (s.peerRank c) 0x28 3 c.pch.val bs))

/-- `sendc` (R111, R222). -/
def execSendc (_a : Attr) (k : Fin 64) (sa : Reg) (s : State) : Host.Outcome State Fault Refusal :=
  finish s do
    s.noSpec
    let addr := fld (s.rdS sa).toNat 0 20
    s.chanCheck k false addr
    let c := s.t.msg.chan[k]
    s.t.eccOk addr c.size
    s.chanReady k (s.cyc s.t).toNat
    let s1 := s.modT fun t => { t with msg := { t.msg with chan := t.msg.chan.set k { c with credits := c.credits - 1 } } }
    return s1.injectElem c (s.t.spmRead false addr c.size)

/-- SLOT_VIOLATION (R111): a send that waits for credit meets the end of its window, and the thread traps at it. -/
def execSlotViolation (k : Fin 64) (s : State) : Host.Outcome State Fault Refusal :=
  let c := s.t.msg.chan[k]
  if s.t.thr.st == .running && c.v && !c.recvEnd && c.credits == 0 &&
      c.windowPast s.t.thr.creditSince s.now (s.cyc s.t).toNat then
    .next (s.takeTrap s.cur .slotViolation (BitVec.ofNat 64 k.val))
  else .next s

/-- CHANNEL_INJECT (R114): an element pushed to q3, whose result exists now, is injected. -/
def execChannelInject (k : Fin 64) (s : State) : Host.Outcome State Fault Refusal :=
  let c := s.t.msg.chan[k]
  match c.buf with
  | [] => .next s
  | bs :: r =>
    .next ((s.modT fun t => { t with msg := { t.msg with chan := t.msg.chan.set k { c with buf := r } } }).injectElem c bs)

/-- CHNELEM (R112): an element lands in the receive end's buffer. -/
def execChnelem (p : Packet) (s : State) : Host.Outcome State Fault Refusal :=
  .next (s.arrive p 0x28 fun s =>
    let k := Fin.ofNat 64 p.aux.toNat
    let c := s.t.msg.chan[k]
    if c.v && c.recvEnd && decide (c.buf.length < c.depth) then
      s.modT fun t => { t with msg := { t.msg with chan := t.msg.chan.set k { c with buf := c.buf ++ [p.payload] } } }
    else s)

/-- CHNCREDIT (R113): a credit returns to the send end. -/
def execChncredit (p : Packet) (s : State) : Host.Outcome State Fault Refusal :=
  .next (s.arrive p 0x29 fun s =>
    let k := Fin.ofNat 64 p.aux.toNat
    let c := s.t.msg.chan[k]
    if c.v && !c.recvEnd then
      s.modT fun t => { t with msg := { t.msg with
        chan := t.msg.chan.set k { c with credits := min c.depth (c.credits + 1) } } }
    else s)

/-- The element at the head of a receive end, once the checks of R223 pass. -/
def State.headElem (s : State) (k : Fin 64) (addr : Nat) : Except Stop (List Byte) := do
  s.chanCheck k true addr
  match s.t.msg.chan[k].buf with
  | [] => .error (.stall 0)
  | e :: _ => .ok e

/-- `recvc` (R223). -/
def execRecvc (a : Attr) (k : Fin 64) (d sa : Reg) (s : State) : Host.Outcome State Fault Refusal :=
  finish s do
    s.noSpec
    let addr := fld (s.rdS sa).toNat 0 20
    let e ← s.headElem k addr
    ((s.popChan k).modT fun t => t.spmWrite false addr e).wrS a 1 d 1

/-- The element types that `recvac` adds (R115). -/
def Ety.adds : Ety → Bool
  | .f32 | .bf16 => true
  | t => t.isI

/-- `recvac` (R115, R223): the element is added in place, in ascending element order. -/
def execRecvac (a : Attr) (k : Fin 64) (d sa : Reg) (s : State) : Host.Outcome State Fault Refusal :=
  finish s do
    s.noSpec
    let addr := fld (s.rdS sa).toNat 0 20
    let e ← s.headElem k addr
    let c := s.t.msg.chan[k]
    let t := (Ety.ofCode c.etype.toNat).getD .raw
    if !Ety.adds t then (s.popChan k).wrS a 1 d 2
    else
      s.t.eccOk addr c.size
      let n := t.width / 8
      let sums := (List.range (c.size / n)).flatMap fun i =>
        bytesOf (laneArith t false addF addI [s.t.spmNat false (addr + n * i) n, ofBytes ((e.drop (n * i)).take n)]) n
      ((s.popChan k).modT fun u => u.spmWrite false addr sums).wrS a 1 d 1

end Sys2Proof.Machine
end

