-- ==== Sys2Proof/Machine/Mat.lean ====
section
/-!
DEFINITION. The matrix engine (R231-R252): its pipes and interlocks, the array and weight ops, the wide-accumulator ops.
-/

namespace Sys2Proof.Machine

/-! ### Pipes (R234-R236) -/

def MatEng.pipe (m : MatEng) (p : Pipe) : List PipeOp :=
  match p with
  | .array => m.arr
  | .weight => m.wgt
  | .wide => m.wide

def MatEng.setPipe (m : MatEng) (p : Pipe) (l : List PipeOp) : MatEng :=
  match p with
  | .array => { m with arr := l }
  | .weight => { m with wgt := l }
  | .wide => { m with wide := l }

/-- The accumulator tile an op writes, and the one it reads (R235). -/
def MatOp.writesAcc : MatOp → Option (Fin 8)
  | .mma a _ _ | .mmaw a _ _ _ | .mzero a | .mld a _ => some a
  | _ => none
def MatOp.readsAcc : MatOp → Option (Fin 8)
  | .mma a _ _ | .mmaw a _ _ _ | .mst a _ => some a
  | _ => none
/-- The weight buffer an op reads, and the one it writes. -/
def MatOp.readsW : MatOp → Option (Fin 2)
  | .mma _ w _ | .mmaw _ w _ _ => some w
  | _ => none
def MatOp.writesW : MatOp → Option (Fin 2)
  | .wld w _ _ => some w
  | _ => none

/-- The pipe of an op. -/
def MatOp.pipe : MatOp → Pipe
  | .mma _ _ _ | .mmaw _ _ _ _ | .mzero _ | .mld _ _ | .mst _ _ => .array
  | .wld _ _ _ => .weight
  | _ => .wide

/-- The busy bits (R143): an op in a pipe writes the tile or buffer. -/
def MatEng.accBusy (m : MatEng) (a : Fin 8) : Bool := m.arr.any fun p => p.op.writesAcc == some a
def MatEng.wBusy (m : MatEng) (w : Fin 2) : Bool := m.wgt.any fun p => p.op.writesW == some w

/-- The interlock of R235 and the limit of R234 for a new op. -/
def MatEng.admits (m : MatEng) (op : MatOp) : Bool :=
  decide ((m.pipe op.pipe).length < 4) &&
    (match op.writesAcc with
      | some a => !m.accBusy a && !(m.arr.any fun p => p.op.readsAcc == some a)
      | none => true) &&
    (match op.readsAcc with
      | some a => !m.accBusy a
      | none => true) &&
    (match op.readsW with
      | some w => !m.wBusy w
      | none => true) &&
    (match op.writesW with
      | some w => !m.wBusy w && !(m.arr.any fun p => p.op.readsW == some w)
      | none => true)

/-- An op enters its pipe. It starts in the cycle after its issue, which the reading of a record lengthens by two
cycles, when the pipe is empty (R234, R237). -/
def State.pushPipe (s : State) (a : Attr) (op : MatOp) (extra : Nat) : State :=
  let p := op.pipe
  let idle := (s.t.mat.pipe p).isEmpty
  let e : PipeOp := ⟨op, s.t.csr.fmt, a.sba, s.now + 1 + extra, none, 0, s.t.isSpec⟩
  let s := s.modT fun t => { t with
    mat := t.mat.setPipe p (t.mat.pipe p ++ [e])
    iss := { t.iss with extra := extra } }
  if idle then s.schedule (s.now + 1 + extra) s.cur (.matrixPipeOpStart p) else s

/-! ### Records (R237) -/

/-- ENGINE_FAULT with a kind and id 0 (R200, R237). -/
def engineFault (kind : Nat) : Stop := .trap .engineFault (BitVec.ofNat 64 (kind * 2 ^ 16))

/-- The record of a matrix op, read at issue and checked in the order of R129. -/
def State.matRecord (s : State) (sa : Reg) (types : List Nat) : Except Stop Shape := do
  let t := s.t
  let addr := (s.rdS sa).toNat
  t.recordOk addr
  t.eccOk addr 32
  let r := Shape.of (t.spmNat t.isSpec addr 32)
  check (!r.rsv && r.ndm1 == 1 && !r.pad && decide (1 ≤ r.ext[0] ∧ r.ext[0] ≤ 128) &&
    decide (1 ≤ r.ext[1] ∧ r.ext[1] ≤ 32) && types.contains r.etype.toNat) (engineFault 5)
  match t.spanBad r with
  | some a => .error (.trap .scratchRange (BitVec.ofInt 64 a))
  | none =>
    match r.alignBad with
    | some a => .error (.trap .align (BitVec.ofInt 64 a))
    | none => return r

/-- The busy and pipe interlocks that an op meets whatever its record holds. -/
def State.matGate (s : State) (op : MatOp) : Except Stop Unit := check (s.t.mat.admits op) (.stall 0)

/-- `mma` and `mmaw` (R241). -/
def State.mmaOp (s : State) (a : Attr) (sa : Reg) (w : Fin 2) (integer : Bool) (op : Shape → MatOp) :
    Except Stop State := do
  s.matGate (op (Shape.of 0))
  s.noSpec
  let r ← s.matRecord sa [atypeOf s.t.csr.fmt]
  check (s.t.mat.w[w].integer == integer) (engineFault 6)
  return s.pushPipe a (op r) 2

def execMma (a : Attr) (acc : Fin 8) (wbuf : Fin 2) (sa : Reg) (s : State) : Host.Outcome State Fault Refusal :=
  finish s (s.mmaOp a sa wbuf false fun r => .mma acc wbuf r)
def execMmaw (a : Attr) (acc : Fin 8) (wbuf : Fin 2) (gs : Bool) (sa : Reg) (s : State) :
    Host.Outcome State Fault Refusal :=
  finish s (s.mmaOp a sa wbuf true fun r => .mmaw acc wbuf gs r)

/-- The first byte of a range outside the scratchpad or in the hamper (R239). -/
def Tile.firstOut (t : Tile) (a n : Nat) : Option Nat :=
  if !t.outside a n then none
  else if 0x100000 ≤ a then some a
  else
    let h := t.csr.hampbase.toNat
    let c1 := if t.hitsHamper a n then max a h else 0x100000
    some (min c1 0x100000)

/-- `wld` (R239). -/
def execWld (a : Attr) (wbuf : Fin 2) (gs : Bool) (sa : Reg) (s : State) : Host.Outcome State Fault Refusal :=
  finish s do
    let t := s.t
    let base := (s.rdS sa).toNat
    s.matGate (.wld wbuf gs 0)
    s.noSpec
    check (!(wtypeOf t.csr.fmt == 0xE && decide (t.csr.isapin.toNat < 3)))
      (.trap .illegal (BitVec.ofNat 64 (0x09 + 2 ^ 8 * t.iss.head + 2 ^ 16 * 0xC2)))
    check (base % 16 == 0) (.trap .align (BitVec.ofNat 64 base))
    match t.firstOut base (blockBytes (wtypeOf t.csr.fmt) gs) with
    | some x => .error (.trap .scratchRange (BitVec.ofNat 64 x))
    | none => return s.pushPipe a (.wld wbuf gs base) 0

def execMzero (a : Attr) (acc : Fin 8) (s : State) : Host.Outcome State Fault Refusal :=
  finish s do
    s.matGate (.mzero acc)
    s.noSpec
    return s.pushPipe a (.mzero acc) 0

def execMld (a : Attr) (acc : Fin 8) (sa : Reg) (s : State) : Host.Outcome State Fault Refusal :=
  finish s do
    s.matGate (.mld acc (Shape.of 0))
    s.noSpec
    let r ← s.matRecord sa [1, 2]
    return s.pushPipe a (.mld acc r) 2

/-- `mst` proceeds under speculation when its span lies in the swap region (R246). -/
def execMst (a : Attr) (acc : Fin 8) (sa : Reg) (s : State) : Host.Outcome State Fault Refusal :=
  finish s do
    s.matGate (.mst acc (Shape.of 0))
    let r ← s.matRecord sa [1, 2, 3, 4]
    s.specWrite r.spanLo.toNat (r.spanHi - r.spanLo).toNat
    return s.pushPipe a (.mst acc r) 2

/-! ### Wide-accumulator ops (R249-R252) -/

/-- The address of a wide accumulator, checked (R249). -/
def State.wideAddr (s : State) (sa : Reg) : Except Stop Nat := do
  let a := (s.rdS sa).toNat
  check (a % 16 == 0) (.trap .align (BitVec.ofNat 64 a))
  check (!s.t.outside a 80) (.trap .scratchRange (BitVec.ofNat 64 a))
  return a

def execLclr (a : Attr) (sa : Reg) (s : State) : Host.Outcome State Fault Refusal :=
  finish s do
    s.matGate (.lclr 0)
    let x ← s.wideAddr sa
    s.specWrite x 80
    return s.pushPipe a (.lclr x) 0

/-- Whether an op on lanes of BF16 or FP32 has one enabled: otherwise it writes nothing (R250). -/
def Tile.anyLane (t : Tile) (a : Attr) (bf : Bool) : Bool :=
  (List.range (if bf then 32 else 16)).any fun i => (t.enables a).getLsbD i

def execLadd (a : Attr) (bf : Bool) (sa vb : Reg) (s : State) : Host.Outcome State Fault Refusal :=
  finish s do
    s.matGate (.lclr 0)
    let x ← s.wideAddr sa
    s.specWrites (if s.t.anyLane a bf then [(x, 80)] else [])
    return s.pushPipe a (.ladd x bf (s.rdV 32 vb) (s.t.enables a)) 0

def execLmadd (a : Attr) (bf : Bool) (sa vb vc : Reg) (s : State) : Host.Outcome State Fault Refusal :=
  finish s do
    s.matGate (.lclr 0)
    let x ← s.wideAddr sa
    s.specWrites (if s.t.anyLane a bf then [(x, 80)] else [])
    return s.pushPipe a (.lmadd x bf (s.rdV 32 vb) (s.rdV 32 vc) (s.t.enables a)) 0

/-- `lmerge`: two accumulators that overlap without being the same trap (R237). -/
def execLmerge (a : Attr) (sa sb : Reg) (s : State) : Host.Outcome State Fault Refusal :=
  finish s do
    s.matGate (.lclr 0)
    let x ← s.wideAddr sa
    let y ← s.wideAddr sb
    check (x == y || !overlaps x 80 y 80) (engineFault 7)
    s.specWrite x 80
    return s.pushPipe a (.lmerge x y) 0

/-- `lrnd` (R251): its register is written when it completes. -/
def execLrnd (a : Attr) (bf : Bool) (clr : Bool) (d sa : Reg) (s : State) : Host.Outcome State Fault Refusal :=
  finish s do
    s.matGate (.lclr 0)
    let x ← s.wideAddr sa
    if clr then s.specWrite x 80
    return s.pushPipe a (.lrnd x bf clr (match d with
      | .s n => some n
      | _ => none)) 0

/-! ### What the array and weight ops compute -/

/-- The BF16 encoding of a small integer (R156): always exact. -/
def bfOfInt (q : Int) : W16 := BitVec.ofNat 16 (roundBf (Num.ofInt q))

/-- A weight of a VALUE block as BF16 (R239). -/
def weightOf (wt : Nat) (nan : Bool) (e : Nat) : W16 :=
  if wt = 2 then BitVec.ofNat 16 e
  else
    let x := (if wt = 3 then fE4m3 nan else fE5m2).toReal e
    if x.isNan then 0x7FC0 else BitVec.ofNat 16 (roundBf x)

/-- A weight buffer with the weights of rows [lo, hi) of k taken from a list of all 16384 (R240). -/
def WBuf.putRows (old : WBuf) (lo hi : Nat) (l : List W16) : WBuf :=
  { old with w := old.w.setRange (128 * lo) ((l.drop (128 * lo)).take (128 * (hi - lo))) 0 }

/-- The weights of rows [lo, hi) of k that a block of bytes loads, in ascending k; the last row brings the scales and the kind with
it (R239, R240). -/
def loadWeights (old : WBuf) (wt : Nat) (nan gs : Bool) (lo hi : Nat) (block : Array Byte) : WBuf :=
  let byte (i : Nat) : Nat := (block.getD i 0).toNat
  if wt = 2 ∨ wt = 3 ∨ wt = 4 then
    let sz := if wt = 2 then 2 else 1
    let el (i : Nat) : Nat := if sz = 2 then byte (2 * i) + 256 * byte (2 * i + 1) else byte i
    let b := old.putRows lo hi ((List.range 16384).map fun i => weightOf wt nan (el i))
    if hi < 128 then b else { b with integer := false, oneByte := decide (sz = 1) }
  else
    let g := if wt = 0xD then 16 else 12
    let q (k n : Nat) : Int :=
      let at_ := (128 * (k / 32) + n) * g
      let j := k % 32
      if wt = 0xD then signExtend (byte (at_ + j / 2) / (if j % 2 = 0 then 1 else 16) % 16) 4
      else
        let b := 3 * j
        signExtend ((byte (at_ + b / 8) + 256 * byte (at_ + b / 8 + 1)) / 2 ^ (b % 8) % 8) 3
    let sb := 512 * g
    let sc (i : Nat) : W16 :=
      let o := sb + 2 * (if gs then i else i % 128)
      BitVec.ofNat 16 (byte o + 256 * byte (o + 1))
    let b := old.putRows lo hi ((List.range 16384).map fun i => bfOfInt (q (i / 128) (i % 128)))
    if hi < 128 then b
    else { b with sc := Assoc.setRange [] 0 ((List.range 512).map sc) 0, integer := true, oneByte := true }

/-- One element of an accumulator tile after a row of `mma` or `mmaw` (R241): K-groups in ascending order. -/
def dotGroups (scaled : Bool) (sc : Nat → Num) (ab : List (Num × Num)) (g : Nat) (c : Nat) : Nat → Nat
  | 0 => c
  | fuel + 1 =>
    match ab with
    | [] => c
    | _ =>
      let d := exactDot (ab.take 32)
      let d := if scaled then exactMul (sc g) d else d
      dotGroups scaled sc (ab.drop 32) (g + 1) (kStep c d) fuel

/-- The A operands of a row (R241). -/
def Tile.aRow (t : Tile) (spec : Bool) (r : Shape) (nan : Bool) (row : Nat) : List Num :=
  let f := if r.etype = 2 then fBf16 else if r.etype = 3 then fE4m3 nan else fE5m2
  (List.range r.ext[0]).map fun k => f.toReal (t.spmNat spec (r.elem k row).toNat r.size)

/-- Rows [lo, lo + n) of a tile after `mma` or `mmaw`. -/
def Tile.mmaRows (t : Tile) (p : PipeOp) (acc : Fin 8) (w : Fin 2) (scaled gs : Bool) (r : Shape) (lo n : Nat) :
    List W32 :=
  let wd := (t.mat.w[w].w.dense 0 16384 0).map fun x => realBf x.toNat
  let sd := (t.mat.w[w].sc.dense 0 512 0).map fun x => realBf x.toNat
  let cd := t.mat.acc.dense (4096 * acc.val) 4096 0
  (List.range n).flatMap fun i =>
    let as := t.aRow p.spec r (p.fmt.getLsbD 8) (lo + i)
    (List.range 128).map fun col =>
      let ab := as.zipIdx.map fun x => (x.1, wd.getD (128 * x.2 + col) (Num.ofInt 0))
      BitVec.ofNat 32 (dotGroups scaled (fun g => sd.getD ((if gs then 128 * g else 0) + col) (Num.ofInt 0)) ab 0
        (cd.getD (128 * (lo + i) + col) 0).toNat 4)

/-- Whether a row's elements meet a word with an uncorrectable error, and the first such word. -/
def Tile.rowBad (t : Tile) (spec : Bool) (r : Shape) (row : Nat) : Option Nat :=
  if t.spmBad.isEmpty then none
  else (List.range r.ext[0]).findSome? fun k => t.badWord (r.elem k row).toNat r.size spec

/-- The first row from `lo` that meets an uncorrectable error, with the word (R247). -/
def Tile.firstBadRow (t : Tile) (p : PipeOp) (r : Shape) : Option (Nat × Nat) :=
  ((List.range r.ext[1]).drop p.done).findSome? fun i => (t.rowBad (p.spec && t.isSpec) r i).map fun w => (i, w)

/-- Rows of an accumulator tile replaced. -/
def Tile.putRows (t : Tile) (acc : Fin 8) (lo : Nat) (vs : List W32) : Tile :=
  { t with mat := { t.mat with acc := t.mat.acc.setRange (4096 * acc.val + 128 * lo) vs 0 } }

/-- Row `row` of a tile after `mld` (R244). -/
def Tile.mldRow (t : Tile) (p : PipeOp) (acc : Fin 8) (r : Shape) (row : Nat) : List W32 :=
  let cd := t.mat.acc.dense (4096 * acc.val + 128 * row) 128 0
  (List.range 128).map fun n =>
    if n < r.ext[0] then
      let v := t.spmNat p.spec (r.elem n row).toNat r.size
      BitVec.ofNat 32 (if r.etype = 1 then v else v * 2 ^ 16)
    else cd.getD n 0

/-- The bytes that `mst` writes for an element (R245). -/
def mstBytes (r : Shape) (fmt : BitVec 11) (c : W32) : List Byte :=
  let rz := fmt.getLsbD 9
  let sat := fmt.getLsbD 10
  let x := real32 c.toNat
  bytesOf (if r.etype = 1 then c.toNat
    else if r.etype = 2 then fBf16.round rz sat x
    else if r.etype = 3 then (fE4m3 (fmt.getLsbD 8)).round rz sat x
    else fE5m2.round rz sat x) r.size

/-- Rows [lo, lo + n) of the record of `mst` written, in linear order. -/
def Tile.mstRows (t : Tile) (p : PipeOp) (acc : Fin 8) (r : Shape) (lo n : Nat) : Tile :=
  let cd := t.mat.acc.dense (4096 * acc.val) 4096 0
  (List.range n).foldl (fun t i => (List.range r.ext[0]).foldl (fun t k =>
    t.spmWrite (p.spec && t.isSpec) (r.elem k (lo + i)).toNat
      (mstBytes r p.fmt (cd.getD (128 * (lo + i) + k) 0))) t) t

/-- An array op carried from its next row to row `hi` (R241-R245). The rows it has not met stay for later. -/
def Tile.runRows (t : Tile) (p : PipeOp) (hi : Nat) : Tile :=
  match p.op with
  | .mma acc w r => t.putRows acc p.done (t.mmaRows p acc w false false r p.done (hi - p.done))
  | .mmaw acc w gs r => t.putRows acc p.done (t.mmaRows p acc w true gs r p.done (hi - p.done))
  | .mld acc r => (List.range (hi - p.done)).foldl (fun t i => t.putRows acc (p.done + i) (t.mldRow p acc r (p.done + i))) t
  | .mst acc r => t.mstRows p acc r p.done (hi - p.done)
  | .mzero acc => t.putRows acc 0 (List.replicate 4096 0)
  | _ => t

/-- The record of an array op. -/
def MatOp.rec? : MatOp → Option Shape
  | .mma _ _ r | .mmaw _ _ _ r | .mld _ r | .mst _ r => some r
  | _ => none

/-- The accumulator tile or weight buffer of an op whose own storage holds an error, as its `tval` (R247). -/
def Tile.engineBad (t : Tile) (op : MatOp) : Option Nat :=
  let acc := match op.readsAcc, op.writesAcc with
    | some a, _ | none, some a => [0x100000 + a.val]
    | none, none => []
  let w := match op.readsW with
    | some w => [0x100008 + w.val]
    | none => []
  (acc ++ w).find? fun x => t.bad.contains x

/-! ### What the wide ops compute -/

/-- The accumulator at an address. -/
def Tile.wideAt (t : Tile) (spec : Bool) (a : Nat) : Wide := Wide.ofNat (t.spmNat spec a 80)

/-- The values that `ladd` and `lmadd` add, in ascending lane order (R250). -/
def wideTerms : MatOp → List Num
  | .ladd _ bf x en =>
    let w := if bf then 16 else 32
    let f := if bf then fBf16 else fF32
    ((lanesOf w x).zipIdx.filter fun p => en.getLsbD p.2).map fun p => f.toReal p.1
  | .lmadd _ bf x y en =>
    let w := if bf then 16 else 32
    let f := if bf then fBf16 else fF32
    (((lanesOf w x).zip (lanesOf w y)).zipIdx.filter fun p => en.getLsbD p.2).map fun p =>
      exactMul (f.toReal p.1.1) (f.toReal p.1.2)
  | _ => []

/-- The lowest word that holds a set bit of |x| * 2^298 (R252). -/
def lowWord (x : Num) : Nat :=
  match x with
  | .fin _ m e =>
    let v := if -298 ≤ e then m * 2 ^ (e + 298).toNat else m / 2 ^ (-298 - e).toNat
    ((List.range 5).find? fun w => v / 2 ^ (128 * w) % 2 ^ 128 != 0).getD 0
  | _ => 0

/-- The cost of adding a value to an accumulator (R252). -/
def laneCost (a : Wide) (x : Num) : Nat :=
  match x with
  | .fin _ m _ =>
    if m = 0 then 0
    else
      let d := Nat.xor a.toNat (wideAdd a x).toNat
      let hi := ((List.range 5).filter fun w => d / 2 ^ (128 * w) % 2 ^ 128 != 0).foldl max 0
      hi - lowWord x + 1
  | _ => 1

/-- The cost of a list of values, added one after another. -/
def costOf : Wide → List Num → Nat
  | _, [] => 0
  | a, x :: r => laneCost a x + costOf (wideAdd a x) r

/-- The cycles a pipe op runs (R240, R242-R245, R252), for the rows it has left. -/
def Tile.duration (t : Tile) (p : PipeOp) : Nat :=
  match p.op with
  | .mma _ w r | .mmaw _ w _ r =>
    let ng := (r.ext[0] + 31) / 32
    let c := if (r.etype = 3 ∨ r.etype = 4) ∧ t.mat.w[w].oneByte then (ng + 1) / 2 else ng
    6 + (r.ext[1] - p.done) * c + 2
  | .mzero _ => 4
  | .mld _ r | .mst _ r => 4 + (r.ext[1] - p.done) * ((r.ext[0] * r.size + 255) / 256)
  | .wld _ gs _ => 4 + (blockBytes (wtypeOf p.fmt) gs * (128 - p.done) / 128 + 255) / 256
  | .lclr _ => 2
  | .lmerge _ _ => 7
  | .lrnd _ _ clr _ => if clr then 8 else 7
  | .ladd a _ _ _ | .lmadd a _ _ _ _ => 2 + costOf (t.wideAt (p.spec && t.isSpec) a) (wideTerms p.op)

/-- The words a wide op reads: the ranges of its accumulators. -/
def MatOp.wideReads : MatOp → List Nat
  | .ladd a _ _ _ | .lmadd a _ _ _ _ | .lrnd a _ _ _ => [a]
  | .lmerge a b => [a, b]
  | _ => []

/-- MATRIX_PIPE_OP_START: the head of a pipe starts (R234), unless a pre-emption stops the pipes (R248). -/
def execMatrixPipeOpStart (p : Pipe) (s : State) : Host.Outcome State Fault Refusal :=
  match s.t.mat.pipe p with
  | [] => .next s
  | o :: r =>
    if o.start.isSome || s.t.thr.preempt != .none then .next s
    else
    let s1 := s.modT fun t => { t with mat := t.mat.setPipe p ({ o with start := some s.now } :: r) }
    .next (s1.after (s.t.duration o) s.cur (.matrixPipeOpComplete p))

/-- The effect of an array op at its completion: its rows, up to the one that meets an error (R247). -/
def State.completeArray (s : State) (p : PipeOp) : State :=
  match s.t.engineBad p.op with
  | some v => s.deferTrap s.cur .eccUncorr (BitVec.ofNat 64 v) p.spec
  | none =>
    let s := match p.op.rec? with
      | none => s.modT fun t => t.runRows p 32
      | some r =>
        match (match p.op with
          | .mst _ _ => none
          | _ => s.t.firstBadRow p r) with
        | some (i, w) => (s.modT fun t => t.runRows p i).deferTrap s.cur .eccUncorr (BitVec.ofNat 64 w) p.spec
        | none => s.modT fun t => t.runRows p r.ext[1]
    if p.done = 0 then s else s.modT fun t => { t with csr := { t.csr with rowprog := t.csr.rowprog &&& 0x1FF } }

/-- The weight buffer of `wld` carried from its next k to `hi` (R239, R240). -/
def Tile.runWeights (t : Tile) (p : PipeOp) (hi : Nat) : Tile :=
  match p.op with
  | .wld w gs base =>
    let wt := wtypeOf p.fmt
    { t with mat := { t.mat with
      w := t.mat.w.set w (loadWeights t.mat.w[w] wt (p.fmt.getLsbD 8) gs p.done hi
        (t.spmRead false base (blockBytes wt gs)).toArray) } }
  | _ => t

/-- The effect of `wld` at its completion (R239). A block with an uncorrectable error leaves contents that are free
values, of kind INTEGER (R247). -/
def State.completeWeight (s : State) (p : PipeOp) : State :=
  match p.op with
  | .wld w gs base =>
    let wt := wtypeOf p.fmt
    let n := blockBytes wt gs
    let one := wt != 2
    match s.t.badWord base n false with
    | some x =>
      let free (k : Nat) : W16 := (Config.freeValue (s.freeCtr + k)).setWidth 16
      let buf : WBuf := ⟨(List.range 16384).map fun i => (i, free i), (List.range 512).map fun i => (i, free (16384 + i)),
        true, one⟩
      (({ s with freeCtr := s.freeCtr + 16896 } : State).modT fun t => { t with
        mat := { t.mat with w := t.mat.w.set w buf } }).deferTrap s.cur .eccUncorr (BitVec.ofNat 64 x) p.spec
    | none => s.modT fun t => t.runWeights p 128
  | _ => s

/-- A wide accumulator written. -/
def Tile.putWide (t : Tile) (spec : Bool) (a : Nat) (x : Wide) : Tile :=
  t.spmWrite (spec && t.isSpec) a (bytesOf x.toNat 80)

/-- The effect of a wide op at its completion (R250, R251). On an uncorrectable error its accumulator is unwritten
(R247), and the register of `lrnd` takes a free value. -/
def State.completeWide (s : State) (p : PipeOp) : State :=
  let t := s.t
  let sp := p.spec && t.isSpec
  let landS (s : State) (d : Option (Fin 64)) (x : W64) : State :=
    match d with
    | some n => s.modT fun t => t.land ⟨s.now, .s n, x.setWidth 512, 0, 0, p.spec⟩
    | none => s
  match p.op.wideReads.findSome? fun a => t.badWord a 80 sp with
  | some w =>
    let s := s.deferTrap s.cur .eccUncorr (BitVec.ofNat 64 w) p.spec
    match p.op with
    | .lrnd _ _ _ d => landS { s with freeCtr := s.freeCtr + 1 } d (Config.freeValue s.freeCtr)
    | _ => s
  | none =>
    match p.op with
    | .lclr a => s.modT fun t => t.putWide p.spec a Wide.zero
    | .ladd a _ _ en | .lmadd a _ _ _ en =>
      if (wideTerms p.op).isEmpty || en = 0 then s
      else s.modT fun t => t.putWide p.spec a ((wideTerms p.op).foldl wideAdd (t.wideAt sp a))
    | .lmerge a b => s.modT fun t => t.putWide p.spec a (wideMerge (t.wideAt sp a) (t.wideAt sp b))
    | .lrnd a bf clr d =>
      let s := landS s d (BitVec.ofNat 64 (wideRound bf (p.fmt.getLsbD 9) (t.wideAt sp a)))
      if clr then s.modT fun t => t.putWide p.spec a Wide.zero else s
    | _ => s

/-- MATRIX_PIPE_OP_COMPLETE: the running op takes effect and the next starts in the next cycle (R234-R236). An op that a
discard has dropped writes nothing. -/
def execMatrixPipeOpComplete (p : Pipe) (s : State) : Host.Outcome State Fault Refusal :=
  match s.t.mat.pipe p with
  | [] => .next s
  | o :: r =>
    let s := match p with
      | .array => s.completeArray o
      | .weight => s.completeWeight o
      | .wide => s.completeWide o
    let s := s.modT fun t => { t with mat := t.mat.setPipe p r }
    .next (match r.head? with
      | some o => if s.t.thr.preempt == .none then s.schedule (max s.now o.ready) s.cur (.matrixPipeOpStart p) else s
      | none => s)

end Sys2Proof.Machine
end

