-- ==== Sys2Proof/Machine/Copy.lean ====
section
/-!
DEFINITION. The copy engine (R131-R134, R210-R212).
-/

namespace Sys2Proof.Machine

/-! ### Work sets (R131, R132) -/

/-- The operation of a work set, its reserved fields, and the addresses it names. -/
def WorkSet.op (w : WorkSet) : Nat := fld w.regs[0].toNat 0 3
def copyRsv (r : Vector W64 4) : Bool :=
  fld r[0].toNat 4 60 != 0 || fld r[1].toNat 20 44 != 0 || fld r[2].toNat 20 44 != 0 || fld r[3].toNat 20 44 != 0
def copyFrom (r : Vector W64 4) : Nat := fld r[1].toNat 0 20
def copyTo (r : Vector W64 4) : Nat := fld r[2].toNat 0 20
def copyIdx (r : Vector W64 4) : Nat := fld r[3].toNat 0 20

/-- The engine's step for an operation. -/
def copyEvent (op : Nat) : Instr :=
  match op with
  | 0 => .copy
  | 1 => .fill
  | 2 => .transpose
  | 3 => .gather
  | _ => .scatter

/-- A work set becomes the running one: its records are read from the next cycle on, one 16-byte word a cycle (R134). -/
def State.startCopy (s : State) (w : WorkSet) : State :=
  s.after (1 + if w.op = 1 then 2 else 4) s.cur (copyEvent w.op)

/-- The running work set leaves the engine, and the next one starts. -/
def State.nextCopy (s : State) : State :=
  let s := s.modT fun t => { t with copy := { t.copy with ws := t.copy.ws.tail } }
  match s.t.copy.ws with
  | w :: _ => s.startCopy w
  | [] => s

/-- `cset` (R210). -/
def execCset (_a : Attr) (k : Fin 4) (sa : Reg) (s : State) : Host.Outcome State Fault Refusal :=
  finish s (.ok (s.modT fun t => { t with copy := { t.copy with sh := t.copy.sh.set k (s.rdS sa) } }))

/-- The addresses that an operation uses, checked at `cgo` (R211). -/
def Tile.copyAddrs (t : Tile) (r : Vector W64 4) (op : Nat) : Except Stop Unit := do
  t.recordOk (copyTo r)
  if op != 1 then t.recordOk (copyFrom r)
  if op == 3 || op == 4 then recAddrOk (copyIdx r) 4 4

/-- `cgo` (R211, R202). While speculative, the destination record is read at issue, which takes two cycles more. -/
def execCgo (a : Attr) (d : Reg) (s : State) : Host.Outcome State Fault Refusal :=
  finish s do
    let t := s.t
    check (decide (t.copy.ws.length < 4)) (.stall 0)
    let r := t.copy.sh
    let op := fld r[0].toNat 0 3
    let refused := copyRsv r || decide (5 ≤ op)
    let (s1, xid) ← s.allocSlot .cgo 0 (fld r[0].toNat 3 1 == 1) Xfer.empty
    if !refused then t.copyAddrs r op
    let dst := Shape.of (t.spmNat t.isSpec (copyTo r) 32)
    if !refused && !dst.rsv && dst.count != 0 then s.specWrite dst.spanLo.toNat (dst.spanHi - dst.spanLo).toNat
    let s2 ← s1.wrS a 1 d (xid.setWidth 64)
    let s3 := if t.isSpec then s2.modT fun t => { t with iss := { t.iss with extra := 2 } } else s2
    if refused then return s3.faultNow xid (faultDetail 0x84 0)
    else
      let w : WorkSet := ⟨r, xid, t.isSpec, none, none, 0⟩
      let s4 := s3.modT fun t => { t with copy := { t.copy with ws := t.copy.ws ++ [w] } }
      return if t.copy.ws.isEmpty then s4.startCopy w else s4

/-! ### Element moves (R133) -/

/-- What an operation does at an ordinal: the source element's address (none for padval) and the destination's, or a
refusal at a bad index. -/
abbrev Plan := Nat → Option (Option Int × Int)

/-- The indices of an element with the outer one replaced. -/
def setOuter (m j : Nat) (i : Nat × Nat × Nat × Nat) : Nat × Nat × Nat × Nat :=
  match m with
  | 0 => (j, i.2)
  | 1 => (i.1, j, i.2.2)
  | 2 => (i.1, i.2.1, j, i.2.2.2)
  | _ => (i.1, i.2.1, i.2.2.1, j)

/-- The outer index of an element. -/
def outerOf (m : Nat) (i : Nat × Nat × Nat × Nat) : Nat :=
  match m with
  | 0 => i.1
  | 1 => i.2.1
  | 2 => i.2.2.1
  | _ => i.2.2.2

def Shape.atIx (r : Shape) (i : Nat × Nat × Nat × Nat) : Int := r.at i.1 i.2.1 i.2.2.1 i.2.2.2

/-- The extent of the outer dimension. -/
def Shape.outer (r : Shape) : Nat := r.extent (Fin.ofNat 4 r.ndm1)

def planCopy (src dst : Shape) : Plan := fun o =>
  let i := dst.index o
  let inside := i.1 < src.extent 0 ∧ i.2.1 < src.extent 1 ∧ i.2.2.1 < src.extent 2 ∧ i.2.2.2 < src.extent 3
  some (if inside then some (src.atIx i) else none, dst.addr o)

def planFill (dst : Shape) : Plan := fun o => some (none, dst.addr o)

def planTranspose (src dst : Shape) : Plan := fun o =>
  let i := dst.index o
  some (some (src.at i.2.1 i.1 i.2.2.1 i.2.2.2), dst.addr o)

def planGather (src dst : Shape) (idx : Array Nat) : Plan := fun o =>
  let i := dst.index o
  let j := idx.getD (outerOf dst.ndm1 i) 0
  if j < src.outer then some (some (src.atIx (setOuter dst.ndm1 j i)), dst.addr o)
  else if dst.pad then some (none, dst.addr o)
  else none

def planScatter (src dst : Shape) (idx : Array Nat) : Plan := fun o =>
  let i := src.index o
  let j := idx.getD (outerOf src.ndm1 i) 0
  if j < dst.outer then some (some (src.addr o), dst.atIx (setOuter dst.ndm1 j i)) else none

/-- The requirements of each operation on its records (R133). -/
def sameOuter (src dst : Shape) : Bool :=
  src.etype == dst.etype && src.ndm1 == dst.ndm1 &&
    (List.finRange 4).all fun k => decide (dst.ndm1 ≤ k.val) || src.ext[k] == dst.ext[k]

def copyFits (op : Nat) (src dst : Shape) : Bool :=
  match op with
  | 0 => src.etype == dst.etype && src.ndm1 == dst.ndm1 && (List.finRange 4).all fun k =>
      src.ext[k] == dst.ext[k] || (dst.pad && decide (src.ext[k] ≤ dst.ext[k]))
  | 1 => true
  | 2 => src.etype == dst.etype && decide (1 ≤ src.ndm1) && decide (1 ≤ dst.ndm1) && dst.extent 0 == src.extent 1 &&
      dst.extent 1 == src.extent 0 && dst.extent 2 == src.extent 2 && dst.extent 3 == src.extent 3
  | _ => sameOuter src dst

/-- Whether the spans of two records intersect (R133). -/
def spansMeet (a b : Shape) : Bool :=
  a.count != 0 && b.count != 0 && overlaps a.spanLo (a.spanHi - a.spanLo) b.spanLo (b.spanHi - b.spanLo)

/-- Elements moved one after another, until a bad index (reason 0x84) or an uncorrectable error (0x85): the tile, and
the ordinal and reason of the stop. `w`: whether writes are made at all. -/
def moveElems (spec w : Bool) (size : Nat) (pad : List Byte) (plan : Plan) :
    List Nat → Tile → Tile × Option (Nat × Nat)
  | [], t => (t, none)
  | o :: r, t =>
    match plan o with
    | none => (t, some (o, 0x84))
    | some (src, dst) =>
      match src with
      | some a =>
        if (t.badWord a.toNat size spec).isSome then (t, some (o, 0x85))
        else
          moveElems spec w size pad plan r
            (if w then t.spmWrite spec dst.toNat (t.spmRead spec a.toNat size) else t)
      | none => moveElems spec w size pad plan r (if w then t.spmWrite spec dst.toNat pad else t)

/-- The number of elements placed in one cycle, from the first of a list of ordinals: at most 64 bytes, 4 words read and 4 words
written (R134). A bad index ends the cycle. -/
def batchSize (size : Nat) (plan : Plan) : List Nat → List Nat → List Nat → Nat → Nat
  | [], _, _, n => n
  | o :: r, rd, wr, n =>
    match plan o with
    | none => n + 1
    | some (src, dst) =>
      let wr := if wr.contains (dst.toNat / 16) then wr else dst.toNat / 16 :: wr
      let rd := match src with
        | some a => if rd.contains (a.toNat / 16) then rd else a.toNat / 16 :: rd
        | none => rd
      if (n + 1) * size ≤ 64 ∧ wr.length ≤ 4 ∧ rd.length ≤ 4 then batchSize size plan r rd wr (n + 1) else n

/-- A check of row 3 or 4 of R129 or of the index list that fails at the start of a work set: the deferred trap of R212,
the slot FREE. A discarded work set raises none (R336). -/
def State.copyTrap (s : State) (w : WorkSet) (c : Cause) : State :=
  let gone := (s.t.live w.xid).any fun x => x.drop
  let s := s.modSlot s.cur w.xid Slot.freed
  (if gone then s else s.deferTrap s.cur c (BitVec.ofNat 64 (w.xid.toNat + 4 * 2 ^ 16)) w.spec).nextCopy

/-- The first failing check of rows 3 and 4 on a record. -/
def Tile.shapeTrap (t : Tile) (r : Shape) : Option Cause :=
  if (t.spanBad r).isSome then some .scratchRange else if r.alignBad.isSome then some .align else none

/-- The running work set ends FAULT. -/
def State.copyFault (s : State) (w : WorkSet) (reason off : Nat) (len : Option Nat) : State :=
  (s.complete s.cur w.xid 2 len (faultDetail reason off)).nextCopy

/-- The running work set, changed. -/
def State.modRun (s : State) (f : WorkSet → WorkSet) : State :=
  s.modT fun t => { t with copy := { t.copy with ws := match t.copy.ws with
    | w :: r => f w :: r
    | [] => [] } }

/-- The 16-byte words of an index list of `n` entries. -/
def listWords (li n : Nat) : Nat := if n = 0 then 0 else (li % 16 + 4 * n + 15) / 16

/-- What an operation does at an ordinal, from its records and index list (R133). -/
def WorkSet.plan (w : WorkSet) (src dst : Shape) (idx : List Nat) : Plan :=
  match w.op with
  | 0 => planCopy src dst
  | 1 => planFill dst
  | 2 => planTranspose src dst
  | 3 => planGather src dst idx.toArray
  | _ => planScatter src dst idx.toArray

/-- The record whose elements are walked in linear order: the source of a SCATTER, else the destination (R134). -/
def WorkSet.lead (w : WorkSet) (src dst : Shape) : Shape := if w.op = 4 then src else dst

/-- The entries of the index list that a work set uses (R133). -/
def WorkSet.entries (w : WorkSet) (src dst : Shape) : Nat :=
  if w.op = 3 then dst.outer else if w.op = 4 then src.outer else 0

/-- One cycle of element moves, from the first ordinal not written: the chunk bits follow the elements, and DONE comes in the
cycle after the last write (R133, R134). -/
def State.moveBatch (s : State) (w : WorkSet) (src dst : Shape) (idx : List Nat) : State :=
  let lead := w.lead src dst
  let len := lead.count * lead.size
  let plan := w.plan src dst idx
  let spec := w.spec && s.t.isSpec
  let live := (s.t.live w.xid).any fun c => !c.drop
  let n := batchSize lead.size plan (List.range' w.next (min 64 (lead.count - w.next))) [] [] 0
  let r := moveElems spec live lead.size dst.padBytes plan (List.range' w.next n) s.t
  let s := s.modT fun u => { u with spm := r.1.spm, swap := r.1.swap, spmBad := r.1.spmBad }
  match r.2 with
  | some (o, reason) =>
    (s.markPrefix s.cur w.xid (o * lead.size)).copyFault w reason (if reason = 0x84 then o * lead.size else 0) (some len)
  | none =>
    let s := (s.markPrefix s.cur w.xid ((w.next + n) * lead.size)).modRun fun w => { w with next := w.next + n }
    if lead.count ≤ w.next + n then s.after (if lead.count = 0 then 0 else 1) s.cur .copyWorksetDone
    else s.after 1 s.cur (copyEvent w.op)

/-- The records have been read: the checks of R129 and R133, the geometry, and the reading of the index list (R133, R134). -/
def State.readRecords (s : State) (w : WorkSet) : State :=
  let t := s.t
  let spec := w.spec && t.isSpec
  let dst := Shape.of (t.spmNat spec (copyTo w.regs) 32)
  let src := if w.op = 1 then dst else Shape.of (t.spmNat spec (copyFrom w.regs) 32)
  let n := w.entries src dst
  let li := copyIdx w.regs
  let lead := w.lead src dst
  let len := lead.count * lead.size
  if (t.badWord (copyTo w.regs) 32 spec).isSome || (w.op != 1 && (t.badWord (copyFrom w.regs) 32 spec).isSome) then
    s.copyFault w 0x85 0 none
  else if src.rsv || dst.rsv then s.copyFault w 0x84 0 none
  else
    match (t.shapeTrap src).orElse fun _ => t.shapeTrap dst with
    | some c => s.copyTrap w c
    | none =>
      if n != 0 && t.outside li (4 * n) then s.copyTrap w .scratchRange
      else
        let s := (s.fixGeom s.cur w.xid len).modSlot s.cur w.xid fun c => { c with length := BitVec.ofNat 32 len }
        if !copyFits w.op src dst || (w.op != 1 && spansMeet src dst) ||
            (w.op == 4 && n != 0 && dst.count != 0 && overlaps dst.spanLo (dst.spanHi - dst.spanLo) li (4 * n)) then
          s.copyFault w 0x84 0 (some len)
        else
          let s := s.modRun fun w => { w with recs := some (src, dst), list := if n = 0 then some [] else none }
          if n = 0 then s.moveBatch w src dst [] else s.after (listWords li n) s.cur (copyEvent w.op)

/-- One step of the running work set: its records, then its index list, then its elements (R133, R134). -/
def State.runCopy (s : State) (op : Nat) : State :=
  match s.t.copy.ws with
  | [] => s
  | w :: _ =>
    if w.op ≠ op then s
    else
      match w.recs, w.list with
      | some (src, dst), some idx => s.moveBatch w src dst idx
      | some (src, dst), none =>
        let spec := w.spec && s.t.isSpec
        let n := w.entries src dst
        let li := copyIdx w.regs
        let lead := w.lead src dst
        if (s.t.badWord li (4 * n) spec).isSome then s.copyFault w 0x85 0 (some (lead.count * lead.size))
        else
          let idx := (List.range n).map fun j => s.t.spmNat spec (li + 4 * j) 4
          (s.modRun fun w => { w with list := some idx }).moveBatch w src dst idx
      | none, _ => s.readRecords w

def execCopy (s : State) : Host.Outcome State Fault Refusal := .next (s.runCopy 0)
def execFill (s : State) : Host.Outcome State Fault Refusal := .next (s.runCopy 1)
def execTranspose (s : State) : Host.Outcome State Fault Refusal := .next (s.runCopy 2)
def execGather (s : State) : Host.Outcome State Fault Refusal := .next (s.runCopy 3)
def execScatter (s : State) : Host.Outcome State Fault Refusal := .next (s.runCopy 4)

/-- COPY_WORKSET_DONE: the running work set completes DONE, in the cycle after its last write (R134). -/
def execCopyWorksetDone (s : State) : Host.Outcome State Fault Refusal :=
  match s.t.copy.ws with
  | [] => .next s
  | w :: _ => .next ((s.complete s.cur w.xid 1 none 0).nextCopy)

end Sys2Proof.Machine
end

