-- ==== Sys2Proof/Machine/Fetch.lean ====
section
/-!
DEFINITION. The fetch of a bundle with the decode checks (R171-R173, R189, R190).
-/

namespace Sys2Proof.Machine

/-- An op of a bundle: its head index, opcode, tail and instruction. -/
structure BOp where
  head : Nat
  opc : Opc
  tail : Tail
  ins : Instr
deriving DecidableEq, Repr

/-! ### Fetch and decode (R189, R190) -/

/-- The `tval` of a decode trap (R190). -/
def decVal (reason head opc : Nat) : W64 := BitVec.ofNat 64 (reason + 2 ^ 8 * head + 2 ^ 16 * opc)

/-- Checks 8 of R189 on the ops of a bundle, in head order. -/
def decodeOps (pin : Nat) (sup : Bool) : List (Nat × Nat × Nat) → Except (Cause × W64) (List BOp)
  | [] => .ok []
  | (j, hd, tl) :: r =>
    match decodeOp pin sup hd tl, Opc.ofNum (headOpc hd) with
    | .ok i, some o =>
      match decodeOps pin sup r with
      | .ok l => .ok (⟨j, o, Tail.ofNat tl, i⟩ :: l)
      | .error e => .error e
    | .error .priv, _ => .error (.priv, decVal 0 j (headOpc hd))
    | .error e, _ => .error (.illegal, decVal e.reason j (headOpc hd))
    | _, none => .error (.illegal, decVal 0x08 j (headOpc hd))

/-- Check 9: the first op beyond the limit of its slot (R178). -/
def slotOver : List BOp → List SlotKind → Option (Cause × W64)
  | [], _ => none
  | o :: r, seen =>
    let kind := slotOf o.opc.num
    if kind.limit ≤ seen.count kind then some (.slotOver, decVal kind.code o.head o.opc.num) else slotOver r (kind :: seen)

/-- The registers an op names as destinations; `probe` writes two (R215). -/
def BOp.dests (o : BOp) : List Reg :=
  match (form o.opc o.tail).dst with
  | .reg _ =>
    match Reg.ofCode o.tail.dst with
    | some (.s n) => if o.opc = .probe then [.s n, .s (n + 1)] else [.s n]
    | some r => [r]
    | none => []
  | _ => []

/-- Check 10: two ops that name one queue as destination. -/
def dupQueue : List BOp → List Reg → Option (Cause × W64)
  | [], _ => none
  | o :: r, seen =>
    match o.dests.find? fun d => (match d with
        | .q _ => true
        | _ => false) && seen.contains d with
    | some d => some (.queueMisuse, BitVec.ofNat 64 d.code)
    | none => dupQueue r (o.dests ++ seen)

/-- Check 11: two ops that name one destination, the zero code excepted. -/
def dupDest : List BOp → List Reg → Option (Cause × W64)
  | [], _ => none
  | o :: r, seen =>
    if o.dests.any fun d => d != .zero && seen.contains d then some (.illegal, decVal 0x0E o.head o.opc.num)
    else dupDest r (o.dests ++ seen)

/-- The scoreboard tag an op allocates; the bits belong to the immediate of `li` and `lih`. -/
def BOp.sba (o : BOp) : Nat := if o.opc = .li ∨ o.opc = .lih then 0 else o.tail.sba
def BOp.sbc (o : BOp) : Nat := if o.opc = .li ∨ o.opc = .lih then 0 else o.tail.sbc

/-- Check 12: two ops that allocate one tag. -/
def dupTag : List BOp → List Nat → Option (Cause × W64)
  | [], _ => none
  | o :: r, seen =>
    if o.sba != 0 && seen.contains o.sba then some (.illegal, decVal 0x0F o.head o.opc.num)
    else dupTag r (o.sba :: seen)

/-- The first failure of a list of checks. -/
def firstTrap : List (Option (Cause × W64)) → Option (Cause × W64)
  | [] => none
  | some e :: _ => some e
  | none :: r => firstTrap r

/-- The bundle that a thread stands at, or the trap of R189 and R372 that its fetch takes, with the `epc` it gives. -/
def State.fetch (s : State) (k : Nat) : Except (Cause × W64 × IAddr) (List BOp) :=
  let t := s.tile k
  let pc := t.thr.pc.toNat
  match t.thr.badTarget with
  | some src => .error (.illegal, decVal (if pc = 0x20000 && src != t.thr.pc then 0x07 else 0x06) 0 0, src)
  | none =>
    if t.imemBad.contains (pc / 64) then .error (.eccUncorr, BitVec.ofNat 64 (0x400000 + pc / 64), t.thr.pc)
    else
      match parseLine (t.line (pc / 64)) with
      | .error r => .error (.illegal, decVal r 0 0, t.thr.pc)
      | .ok ops =>
        match decodeOps t.csr.isapin.toNat (isSupervisor k) (bundleAt ops (pc % 64)) with
        | .error e => .error (e.1, e.2, t.thr.pc)
        | .ok b =>
          match firstTrap [slotOver b [], dupQueue b [], dupDest b [], dupTag b []] with
          | some e => .error (e.1, e.2, t.thr.pc)
          | none => .ok b

end Sys2Proof.Machine
end

