-- ==== Sys2Proof/Machine/Image.lean ====
section
/-!
DEFINITION. The save image of a tile (R151, R161, R332): its bytes, and the tile that they give back (R377).
-/

namespace Sys2Proof.Machine

/-! ### Control registers (R151, R161, R332) -/

/-- The image's entry of a control register number. -/
def State.imageCsr (s : State) (k n : Nat) : Nat :=
  let t := s.tile k
  if n = 4 then
    match t.csr.fmtPend with
    | some (v, left) => t.csr.fmt.toNat + 2 ^ 32 * v.toNat + 2 ^ 43 * left + 2 ^ 46
    | none => t.csr.fmt.toNat
  else if n = 0xF then
    match t.spec with
    | some sp => sp.alt.toNat + 2 ^ 26 * sp.hint.toNat + 2 ^ 27 * sp.all.toNat + 2 ^ 28 * sp.gm.val + 2 ^ 31 * sp.wait.toNat +
        2 ^ 32 * sp.left.toNat
    | none => 0
  else if 0x28 ≤ n ∧ n < 0x30 then
    (t.csr.cbseq[Fin.ofNat 8 n]).toNat + 2 ^ 16 * (t.csr.latch[Fin.ofNat 8 n]).toNat
  else (s.csrRead k n).toNat

/-! ### Tables (R150, R105, R109, R88, R92)

DESIGN CHOICE (log 46): the manual gives the sizes of these regions and not the places within them. -/

/-- The scalar and mask registers as bytes. -/
def bytesS (v : Vector W64 64) : List Byte := v.toList.flatMap fun x => bytesOf x.toNat 8
def bytesM (v : Vector W64 16) : List Byte :=
  bytesOf (2 ^ 64 - 1) 8 ++ v.toList.tail.flatMap fun x => bytesOf x.toNat 8

/-- A bit for each of 4096 words. -/
def wordBits (l : List Nat) : List Byte :=
  (List.range 512).map fun b => BitVec.ofNat 8 (packLanes 1 ((List.range 8).map fun i => if l.contains (8 * b + i) then 1 else 0))

/-- A loop level in 80 bytes, and the loop sequencer: six levels, then the depth. -/
def Level.bytes (l : Level) : List Byte :=
  bytesOf (l.act.toNat + 2 * l.start.toNat + 2 ^ 27 * l.len + 2 ^ 39 * l.left.toNat + 2 ^ 71 * l.first.toNat +
    2 ^ 72 * l.strides.length + 2 ^ 76 * l.pos +
    2 ^ 88 * packLanes 38 (l.strides.map fun x => x.1.val + 64 * x.2.toNat)) 80
def Loops.bytes (l : Loops) : List Byte := l.lv.toList.flatMap Level.bytes ++ bytesOf l.depth 1

/-- A queued work set in 48 bytes: its registers, its transfer id, and the first ordinal that it has not written. -/
def WorkSet.bytes (w : WorkSet) : List Byte :=
  (w.regs.toList.flatMap fun x => bytesOf x.toNat 8) ++ bytesOf (w.xid.toNat + 2 ^ 16 * w.spec.toNat + 2 ^ 32 * w.next) 16

/-- A completion slot in 16 bytes: its chunk bits, then its state, sequence, flags and length. -/
def Slot.bytes (c : Slot) : List Byte :=
  bytesOf (c.bits.toNat + 2 ^ 64 * (c.state.toNat + 2 ^ 4 * c.seq.toNat + 2 ^ 14 * c.used.toNat + 2 ^ 15 * c.uli.toNat +
    2 ^ 16 * c.uliAt.isSome.toNat + 2 ^ 17 * c.nanMis.toNat + 2 ^ 18 * c.spec.toNat + 2 ^ 19 * c.drop.toNat) +
    2 ^ 96 * c.length.toNat) 16

/-- A channel entry as its record (R109), with bits [47:32] of a send end's W (R111). -/
def Chan.bytes (c : Chan) : List Byte :=
  bytesOf (c.v.toNat + 2 * c.recvEnd.toNat + 4 * c.qb.toNat + 2 ^ 4 * c.etype.toNat + 2 ^ 8 * c.peer + 2 ^ 18 * c.pch.val +
    2 ^ 24 * (c.depth - 1) + 2 ^ 28 * (c.size / 16 - 1) + 2 ^ 40 * (c.wper - 1) + 2 ^ 56 * (c.wlen - 1) +
    2 ^ 72 * (c.w % 2 ^ 32).toNat + 2 ^ 104 * c.lat +
    if c.recvEnd then 0 else 2 ^ 112 * (c.w / 2 ^ 32 % 2 ^ 16).toNat) 16

/-- A posted receive in 32 bytes. -/
def Posted.bytes (p : Posted) : List Byte :=
  bytesOf (p.src.toNat + 2 ^ 32 * p.tag.toNat + 2 ^ 64 * p.tmask.toNat + 2 ^ 96 * p.group.toNat + 2 ^ 112 * p.xid.toNat +
    2 ^ 128 * p.buf + 2 ^ 160 * p.cap) 32

/-- A hamper header slot: the envelope, with its granules and kind in the envelope's reserved bits. -/
def HeldEnv.slotBytes (h : HeldEnv) : List Byte :=
  bytesOf (ofBytes h.env.bytes + 2 ^ 176 * (h.gran + 2 ^ 12 * h.ngran + 2 ^ 25 * (match h.kind with
    | .eager => 0
    | .rts => 1
    | .result => 2) + 2 ^ 27 * h.taken.isSome.toNat)) 32

/-- A weight buffer: 128 × 128 weights, then 4 × 128 scales (R238). -/
def WBuf.bytes (b : WBuf) : List Byte :=
  ((b.w.dense 0 16384 0).toList ++ (b.sc.dense 0 512 0).toList).flatMap fun x => bytesOf x.toNat 2

/-! ### The image (R151) -/

/-- Regions at rising offsets laid out from offset `o`, 0 between them. -/
def layOut : Nat → List (Nat × List Byte) → List Byte
  | _, [] => []
  | o, (a, bs) :: r => List.replicate (a - o) 0 ++ bs ++ layOut (a + bs.length) r

/-- The length of the image. -/
def imageSize (spill : Bool) : Nat := if spill then 0x180000 else 0x80000

/-- The regions of the image at their offsets. The queue entries that a speculative thread has popped precede the others, and
bytes 2 to 5 of 0x07B00 say how many those are. -/
def State.imageRegions (s : State) (k : Nat) (spill : Bool) : List (Nat × List Byte) :=
  let t := s.tile k
  let pop0 := (t.spec.map (·.pop0)).getD []
  let pop1 := (t.spec.map (·.pop1)).getD []
  let sends := (t.spec.map (·.sends)).getD []
  [ (0x00000, t.regs.v.toList.flatMap fun x => bytesOf x.toNat 64),
    (0x06000, bytesS t.regs.s),
    (0x06200, t.regs.shadow.toList.flatMap fun x => bytesOf x.toNat 8),
    (0x06280, bytesM t.regs.m),
    (0x06300, (List.range 64).flatMap fun n => bytesOf (s.imageCsr k n) 8),
    (0x06500, (pop0 ++ t.regs.q0).flatMap fun e => bytesOf e.val.toNat 64),
    (0x06900, (pop1 ++ t.regs.q1).flatMap fun x => bytesOf x.toNat 4),
    (0x06980, t.loops.bytes),
    (0x06B80, (t.copy.sh.toList.flatMap fun x => bytesOf x.toNat 8) ++ t.copy.ws.flatMap WorkSet.bytes),
    (0x06C80, t.cpl.toList.flatMap Slot.bytes),
    (0x07080, t.msg.chan.toList.flatMap Chan.bytes),
    (0x07480, t.msg.ingress.flatMap Env.bytes),
    (0x07680, (t.spec.map fun sp => bytesS sp.ckptS ++ bytesM sp.ckptM).getD []),
    (0x07900, (t.spec.map fun sp => sp.ckptLoops.bytes).getD []),
    (0x07B00, [t.regs.q0.length, t.regs.q1.length, 0, pop0.length, 0, pop1.length].map fun n => BitVec.ofNat 8 n),
    (0x08000, t.msg.posted.flatMap Posted.bytes),
    (0x0A000, t.msg.hamper.flatMap HeldEnv.slotBytes),
    (0x0C000, wordBits t.swap.live ++ wordBits t.swap.spec),
    (0x10000, (t.mat.acc.dense 0 32768 0).toList.flatMap fun x => bytesOf x.toNat 4),
    (0x30000, t.mat.w.toList.flatMap WBuf.bytes),
    (0x40800, (t.spec.map fun sp => sp.vcopies.flatMap fun c => bytesOf c.2.toNat 64).getD []),
    (0x41800, sends.flatMap fun h => (h.pkt.payload ++ List.replicate 32 0).take 32),
    (0x50000, sends.flatMap fun h => h.pkt.payload.drop 32),
    (0x60000, t.spm.read t.csr.swapbase.toNat 0x10000 ++ t.swap.half.read 0 0x10000) ] ++
  if spill then [(0x80000, t.spm.read 0 0x100000)] else []

/-- The image's bytes. -/
def State.image (s : State) (k : Nat) (spill : Bool) : List Byte :=
  (layOut 0 (s.imageRegions k spill ++ [(imageSize spill, [])])).take (imageSize spill)

/-! ### Reading it back (R377) -/

/-- Number `i` of the numbers of `w` bytes from an offset of the image. -/
def imageNat (bs : Array Byte) (o w i : Nat) : Nat := ofBytes ((List.range w).map fun j => bs.getD (o + w * i + j) 0)

/-- Bytes [o, o + n) of the image. -/
def imagePart (bs : Array Byte) (o n : Nat) : List Byte := (List.range n).map fun j => bs.getD (o + j) 0

/-- The numbers of the bits that stand in 512 bytes from an offset, rising. -/
def imageWords (bs : Array Byte) (o : Nat) : List Nat :=
  (List.range 4096).filter fun i => (bs.getD (o + i / 8) 0).getLsbD (i % 8)

/-- Bytes from an address up as a memory. -/
def Mem.ofBytes (a : Nat) : List Byte → Mem
  | [] => []
  | b :: r => if b = 0 then Mem.ofBytes (a + 1) r else (a, b) :: Mem.ofBytes (a + 1) r

/-- The control registers of the image (R145, R161, R332). -/
def Csr.readBack (c : Csr) (bs : Array Byte) : Csr :=
  let x (n : Nat) : Nat := imageNat bs 0x06300 8 n
  { fmt := BitVec.ofNat 11 (x 4)
    fmtPend := if fld (x 4) 46 1 = 1 then some (BitVec.ofNat 11 (fld (x 4) 32 11), fld (x 4) 43 3) else none
    chk := fld (x 5) 0 1 == 1
    isapin := BitVec.ofNat 2 (x 6)
    eagerlim := BitVec.ofNat 15 (x 7)
    hampbase := BitVec.ofNat 20 (x 8)
    hampsize := BitVec.ofNat 19 (x 9)
    swapbase := BitVec.ofNat 20 (x 0xA)
    ulivec := BitVec.ofNat 64 (x 0xB)
    cbrto := BitVec.ofNat 32 (x 0xC)
    rowprog := BitVec.ofNat 10 (x 0xE)
    cause := BitVec.ofNat 9 (x 0x10)
    epc := BitVec.ofNat 26 (x 0x11)
    tval := BitVec.ofNat 64 (x 0x12)
    xbase := BitVec.ofNat 20 (x 0x16)
    gm := c.gm
    cbseq := c.cbseq
    latch := c.latch }

/-- The registers of the image. -/
def Regs.readBack (r : Regs) (bs : Array Byte) (pop0 pop1 : Nat) : Regs :=
  { r with
    v := Vector.ofFn fun i => BitVec.ofNat 512 (imageNat bs 0 64 i.val)
    s := Vector.ofFn fun i => BitVec.ofNat 64 (imageNat bs 0x06000 8 i.val)
    shadow := Vector.ofFn fun i => BitVec.ofNat 64 (imageNat bs 0x06200 8 i.val)
    m := Vector.ofFn fun i => if i.val = 0 then r.m[0] else BitVec.ofNat 64 (imageNat bs 0x06280 8 i.val)
    q0 := r.q0.zipIdx.map fun e => ⟨BitVec.ofNat 512 (imageNat bs 0x06500 64 (pop0 + e.2)), e.1.spec⟩
    q1 := r.q1.zipIdx.map fun e => BitVec.ofNat 32 (imageNat bs 0x06900 4 (pop1 + e.2)) }

/-- A saved tile as its image gives it back: registers, queues, control registers, the swap region with its bits, the accumulator
tiles, and the scratchpad where it was spilled. The tables, what the matrix pipes captured and the membership registers, which fabric
and switch die may have changed meanwhile (R330, R378), are those kept with the saved member (log 46). -/
def Tile.readBack (t : Tile) (bs : Array Byte) (spill : Bool) : Tile :=
  let csr := t.csr.readBack bs
  let base := csr.swapbase.toNat
  let spm := if spill then Mem.ofBytes 0 (imagePart bs 0x80000 0x100000) else t.spm
  let acc := (List.range 32768).map fun i => BitVec.ofNat 32 (imageNat bs 0x10000 4 i)
  { t with
    regs := t.regs.readBack bs ((t.spec.map fun sp => sp.pop0.length).getD 0) ((t.spec.map fun sp => sp.pop1.length).getD 0)
    csr := csr
    spm := (spm.filter fun c => c.1 < base) ++ Mem.ofBytes base (imagePart bs 0x60000 0x10000) ++
      spm.filter fun c => base + 0x10000 ≤ c.1
    swap := ⟨Mem.ofBytes 0 (imagePart bs 0x70000 0x10000), imageWords bs 0x0C000, imageWords bs 0x0C200⟩
    mat := { t.mat with acc := Assoc.setRange [] 0 acc 0 } }

end Sys2Proof.Machine
end

