-- ==== Sys2Proof/Machine/Preempt.lean ====
section
/-!
DEFINITION. Traps that wait for a boundary (R364), reports (R366), and pre-emption: the request (R375), the halt (R374),
saving (R375) and suspension (R376).
-/

namespace Sys2Proof.Machine

/-! ### Traps at a boundary (R364, R372) -/

/-- An uncorrectable error in a message-engine table that has not yet stopped the engine (R372). -/
def Tile.tableError (t : Tile) : Option Nat :=
  if t.msg.dead then none else t.bad.find? fun x => decide (0x300000 ≤ x) && decide (x < 0x300006)

/-- The oldest deferred trap is taken, or the error of a message-engine table. -/
def State.takeDeferred (s : State) : State :=
  match s.t.thr.deferred with
  | d :: r =>
    (s.modT fun t => { t with thr := { t.thr with deferred := r } }).takeTrap s.cur d.cause d.tval
  | [] =>
    match s.t.tableError with
    | some x =>
      (s.modT fun t => { t with msg := { t.msg with dead := true } }).takeTrap s.cur .eccUncorr (BitVec.ofNat 64 x)
    | none => s

/-- DEFERRED_TRAP_TAKE (R364). -/
def execDeferredTrapTake (s : State) : Host.Outcome State Fault Refusal := .next s.takeDeferred

/-- TRAP_TAKE (R364, R365): a trap of the thread of a rank of this module. -/
def execTrapTake (rank : Rank) (c : Cause) (tval : W64) (s : State) : Host.Outcome State Fault Refusal :=
  .next (if s.isLocal rank && (s.tile (keyOf rank)).thr.st == .running then s.takeTrap (keyOf rank) c tval else s)

/-! ### Boundaries (R136, R337, R364) -/

/-- The event that comes before a thread's next bundle, if any: a branch that can be resolved, a deferred trap, a
user-level interrupt. A thread that has stopped or that a pre-emption halts takes none (R365, R378), and a boundary has one trap
at most (R364). -/
def Tile.boundary (t : Tile) (now : Nat) : Option Instr :=
  if t.thr.st != .running || t.thr.preempt != .none || t.thr.trapped then none
  else
    match t.spec with
    | some sp => if sp.wait || !t.specRuns then sp.resolution else none
    | none =>
      if !t.thr.deferred.isEmpty || t.tableError.isSome then some .deferredTrapTake
      else if t.thr.badTarget.isNone && t.thr.tbarGo.isNone && (t.uliDue now).isSome && !t.rounds then some .uliEntry
      else none

/-! ### Reports (R366) -/

/-- A die's report queue with the oldest waiting report let in. -/
def State.admitReport (s : State) (d : Fin 4) : State :=
  let q := s.rep[d]
  match q.waiting with
  | r :: w =>
    if q.q.length < 1024 then
      let s := { s with rep := s.rep.set d { q with q := q.q ++ [r], waiting := w } }
      if w.isEmpty then s else s.schedule (s.now + 1) d.val .reportEnqueue
    else s
  | [] => s

/-- REPORT_ENQUEUE: the report that has waited longest enters the queue of the die `cur` when there is room. -/
def execReportEnqueue (s : State) : Host.Outcome State Fault Refusal := .next (s.admitReport (Fin.ofNat 4 s.cur))

/-- REPORT_QUEUE_TAKE: the supervisor takes the oldest report. -/
def execReportQueueTake (die : Fin 4) (s : State) : Host.Outcome State Fault Refusal :=
  let q := s.rep[die]
  match q.q with
  | r :: w =>
    .next (({ s with rep := s.rep.set die { q with q := w, taken := q.taken ++ [r] } } : State).admitReport die)
  | [] => .next s

/-! ### The request (R350, R375) -/

/-- The groups a tile has joined. -/
def Tile.groups (t : Tile) : List W16 :=
  ((List.finRange 8).filter fun k => (t.csr.gm[k]).getLsbD 16).map fun k => gmGroup t.csr.gm[k]

/-- The save slots of a die that no saved or halting member holds (R375), lowest first. -/
def State.freeSaves (s : State) (d : Fin 4) : List Nat :=
  let used := (s.sched.saves.filter fun v => v.die == d).map (·.slot) ++
    (s.tiles.filter fun p => dieOf p.1 == d).filterMap fun p => p.2.thr.saveSlot
  (List.range (fld (s.sched.savepool[d]).toNat 16 12)).filter fun i => !used.contains i

/-- Whether a gang can be pre-empted now (R375): slots on every die, room in every filter, none running. -/
def State.canPreempt (s : State) (g : Gang) : Bool :=
  !g.suspended && !g.suspending && g.aborts.isEmpty &&
    ((List.finRange 4).all fun d =>
      decide ((g.ranks.filter fun r => dieOf (keyOf r) == d).length ≤ (s.freeSaves d).length)) &&
    g.ranks.all fun r =>
      let t := s.tile (keyOf r)
      !t.thr.starting && t.thr.preempt == .none && decide ((t.msg.filter ++ t.groups.filter fun x => !t.msg.filter.contains x).length ≤ 32)

/-- The request goes to every member, each with the lowest free save slot of its die (R374 step 1). -/
def State.requestPreempt (s : State) (g : Gang) : State :=
  g.ranks.foldl (fun s r =>
    let k := keyOf r
    let slot := (s.freeSaves (dieOf k)).head?
    (s.modTile k fun t => { t with thr := { t.thr with saveSlot := slot } }).after 1 k .preemptHalt)
    (s.modGang g.handle fun g => { g with suspending := true })

/-! ### The halt (R374) -/

/-- The trap that is due at the boundary where issue stops is taken first (R378): a CBR_TIMEOUT, unless an op that issued while
speculative still runs (R246), a deferred trap, or a trap of the decode checks (R364). -/
def State.boundaryTrap (s : State) : State :=
  let t := s.t
  if t.thr.st != .running || t.thr.starting || t.thr.trapped then s
  else
    match t.spec with
    | some sp =>
      let due := sp.wait || !t.specRuns
      if due && sp.expelled then s.cbrTimeout sp false
      else if due && sp.result == some none then s.cbrTimeout sp true
      else if due && sp.result.isNone && sp.left = 0 then s.cbrTimeout sp false
      else if sp.wait || sp.result.isSome || sp.trap.isSome || !t.thr.deferred.isEmpty || t.tableError.isSome then s
      else
        match s.fetch s.cur with
        | .error (c, v, epc) => s.takeTrapAt s.cur c v epc
        | .ok _ => s
    | none =>
      if !t.thr.deferred.isEmpty || t.tableError.isSome then s.takeDeferred
      else
        match s.fetch s.cur with
        | .error (c, v, epc) => s.takeTrapAt s.cur c v epc
        | .ok _ => s

/-- The rows that the running array op has completed at its next row boundary (R248, R374): row r is written at the end of
a fixed cycle of its run. -/
def Tile.rowsAt (t : Tile) (p : PipeOp) (now : Nat) : Option Nat :=
  match p.start, p.op.rec? with
  | some b, some r =>
    let total := r.ext[1]
    let lead := match p.op with
      | .mma _ _ _ | .mmaw _ _ _ _ => 6
      | _ => 4
    let per := (t.duration p - (match p.op with
      | .mma _ _ _ | .mmaw _ _ _ _ => 8
      | _ => 4)) / (total - p.done)
    if total ≤ p.done then none else some (min total (p.done + (now - b - lead) / per + 1))
  | _, _ => none

/-- The array pipe stops at its row boundary and `rowprog` records it; an op whose last row that is runs to its end. -/
def State.stopArray (s : State) : State :=
  match s.t.mat.arr with
  | p :: r =>
    match s.t.rowsAt p s.now, p.op.rec? with
    | some n, some rec =>
      if rec.ext[1] ≤ n then s
      else
        let acc := (p.op.writesAcc.orElse fun _ => p.op.readsAcc).getD 0
        let bad := match p.op with
          | .mst _ _ => none
          | _ => (s.t.firstBadRow p rec).filter fun (b : Nat × Nat) => decide (b.1 < n)
        if bad.isSome then s
        else
          let s1 := s.modT fun t =>
            let t := t.runRows p n
            { t with
              mat := { t.mat with arr := { p with start := none, done := n } :: r }
              csr := { t.csr with rowprog := BitVec.ofNat 10 (n % 64 + 64 * acc.val + 512) } }
          { s1 with agenda := s1.agenda.filter fun e =>
              !(e.unit == s.cur && e.ev == Instr.matrixPipeOpComplete .array) }
    | _, _ => s
  | [] => s

/-- The weight pipe stops at its next k boundary, with the k before it loaded: 128 k steps over the op's run (R248). -/
def State.stopWeight (s : State) : State :=
  match s.t.mat.wgt with
  | p :: r =>
    match p.start with
    | some b =>
      let n := p.done + (s.now - b) * (128 - p.done) / (s.t.duration p) + 1
      if 128 ≤ n then s
      else
        let s1 := s.modT fun t =>
          let t := t.runWeights p n
          { t with mat := { t.mat with wgt := { p with start := none, done := n } :: r } }
        { s1 with agenda := s1.agenda.filter fun e =>
            !(e.unit == s.cur && e.ev == Instr.matrixPipeOpComplete .weight) }
    | none => s
  | [] => s

/-- The engines of the current tile freeze: their next steps stay with the tile (R374 steps 5, 6). -/
def State.freezeEngines (s : State) : State :=
  let own (e : Timed) : Bool := e.unit == s.cur
  let starts (e : Timed) : Bool := match e.ev with
    | .matrixPipeOpStart _ => true
    | _ => false
  let held := s.agenda.filter fun e => own e && isEngineStep e.ev
  let s1 := ({ s with agenda := s.agenda.filter fun e => !(own e && (isEngineStep e.ev || starts e)) } : State).modT fun t => { t with
    frozen := held.map fun e => (e.due - s.now, e.ev)
    thr := { t.thr with preempt := .requested, tbar := none, tbarGo := none, creditSince := none } }
  s1.stopArray.stopWeight

/-- Issue stops, the groups enter the filter, and the engines freeze (R374 step 2, R376). -/
def State.freezeTile (s : State) : State :=
  (s.modT fun t => { t with msg := { t.msg with
    filter := t.msg.filter ++ t.groups.filter fun x => !t.msg.filter.contains x } }).freezeEngines

/-- Whether what R374 lets finish has finished: register writes and loads, ops that run to their end, elements of channels
on their way. -/
def State.drained (s : State) : Bool :=
  let t := s.t
  t.regs.flight.isEmpty && t.regs.loads.isEmpty &&
    !((t.mat.arr ++ t.mat.wgt ++ t.mat.wide).any fun p => p.start.isSome) &&
    !(s.agenda.any fun e => e.unit == s.cur && match e.ev with
      | .chnelem _ | .chncredit _ => true
      | _ => false)

/-- PREEMPT_HALT (R374): the request arrives, and the tile is halted once everything has drained. -/
def execPreemptHalt (s : State) : Host.Outcome State Fault Refusal :=
  if s.t.thr.saveSlot.isNone then .next s
  else
    match s.t.thr.preempt with
    | .none => .next (s.boundaryTrap.freezeTile.schedule (s.now + 1) s.cur .preemptHalt)
    | .requested =>
      if s.drained then
        .next ((s.modT fun t => { t with thr := { t.thr with preempt := .halted } }).schedule (s.now + 1) s.cur .saveImageWrite)
      else .next (s.schedule (s.now + 1) s.cur .preemptHalt)
    | _ => .next s

/-! ### Saving (R375) -/

/-- The moon that holds the save slots of a die, and the address of a slot in its region. -/
def State.saveMoon (s : State) (d : Fin 4) : Rank := s.rankOf (d.val * 1024 + 288 + fld (s.sched.savepool[d]).toNat 0 4)
def State.saveAddr (s : State) (d : Fin 4) (slot : Nat) : Nat := (fld (s.sched.savepool[d]).toNat 4 12 + slot) * 0x200000

/-- The requests that write or read a save slot, in ascending offset. -/
def State.savePieces (s : State) (d : Fin 4) (slot : Nat) (spill : Bool) : List Piece :=
  cutPieces (s.saveMoon d) (s.saveAddr d slot) (imageSize spill) 0 cutFuel

/-- Whether a moon request of a tile is unanswered. -/
def Tile.moonWaits (t : Tile) : Bool := !t.awaited.isEmpty

/-- The current tile's image goes to its save slot through physical PUTs, and the tile is kept with it. -/
def State.saveTile (s : State) (slot : Nat) (spill : Bool) : State :=
  let d := dieOf s.cur
  let bs := s.image s.cur spill
  ({ s with sched := { s.sched with saves := s.sched.saves ++ [⟨d, slot, s.rankOf s.cur, s.t⟩] } } : State).startJob
    (s.rankOf s.cur) s.cur .saveImageWrite 0 1 true 0 (fun p => (bs.drop p.off).take p.len) (s.savePieces d slot spill)

/-- The tile of a saved member: held with its scratchpad when the gang does not spill, otherwise free, its filter kept. -/
def Tile.suspended (t : Tile) (spill : Bool) : Tile :=
  if spill then { Tile.reset with msg := t.msg.cleared }
  else { t with thr := { t.thr with st := .suspended, saveSlot := none } }

/-- Every member has reported: the gang is suspended and waits at the head of its queue's level (R348, R375). -/
def State.suspendGang (s : State) (g : Gang) : State :=
  let s := g.ranks.foldl (fun s r => s.modTile (keyOf r) fun t => t.suspended g.klr.spill) s
  let s := s.modGang g.handle fun g => { g with suspended := true, suspending := false }
  let q : Fin 5 := if g.klr.form then Fin.ofNat 5 g.klr.die.val else 4
  let e : Queued := ⟨g.handle, g.klr, g.bindDie, List.range g.klr.deps.length, s.now, true, 0⟩
  ({ s with sched := { s.sched with q := s.sched.q.set q (e :: s.sched.q[q]) } } : State).wakeSchedulers

/-- The image is written: PREEMPT is reported, once there is room for the report (R366), and the last member's report suspends the
gang. -/
def State.reportSaved (s : State) (g : Gang) (slot : Nat) : State :=
  let d := dieOf s.cur
  if !s.reportRoom d then s.schedule (s.now + 1) s.cur .saveImageWrite
  else
    let s1 := ((s.endJobs s.cur .saveImageWrite).modT fun t => { t with thr := { t.thr with preempt := .saved } }).reportEvent d
      (s.rankOf s.cur) 0x0B slot
    if g.ranks.all fun r => (s1.tile (keyOf r)).thr.preempt == .saved then s1.suspendGang g else s1

/-- A halted member saves itself: it waits for its moons' replies, writes its image, and reports (R375). DESIGN CHOICE (log 46): a
member whose gang shares a timed domain also waits until the others have halted, whose channels' elements it still takes; what a moon
answers to the PUTs is not looked at. -/
def State.saveMember (s : State) (g : Gang) (slot : Nat) : State :=
  match s.jobsOf s.cur .saveImageWrite with
  | j :: _ => if j.done then s.reportSaved g slot else s
  | [] =>
    let still : Bool := g.klr.tdom && !(g.ranks.all fun r =>
      let p := (s.tile (keyOf r)).thr.preempt
      p == .halted || p == .saved)
    if s.t.moonWaits || !s.drained || still then s.schedule (s.now + 1) s.cur .saveImageWrite
    else s.saveTile slot g.klr.spill

end Sys2Proof.Machine
end

