-- ==== Sys2Proof/Machine/Place.lean ====
section
/-!
DEFINITION. Kernel launch records (R343, R344), moon accesses of the schedulers and dispatchers, and what placement and
resumption do to a tile (R351, R377).
-/

namespace Sys2Proof.Machine

/-! ### The record (R343) -/

/-- Word `n` of a record of 128 bytes. -/
def klrWord (bs : List Byte) (n : Nat) : Nat := ofBytes ((bs.drop (8 * n)).take 8)

def Klr.of (bs : List Byte) : Klr :=
  let w := klrWord bs
  { imgva := w 0
    imgmoon := BitVec.ofNat 32 (w 1)
    imglines := fld (w 1) 32 12
    pin := BitVec.ofNat 2 (fld (w 1) 44 2)
    prio := fld (w 1) 46 3
    spill := fld (w 1) 49 1 == 1
    tdom := fld (w 1) 50 1 == 1
    rwv := fld (w 1) 51 1 == 1
    asid := BitVec.ofNat 8 (fld (w 1) 52 8)
    form := fld (w 2) 0 1 == 1
    ntiles := fld (w 2) 1 11
    die := Fin.ofNat 4 (fld (w 2) 12 2)
    row0 := fld (w 2) 14 5
    col0 := fld (w 2) 19 4
    nrows := fld (w 2) 23 5
    ncols := fld (w 2) 28 5
    deps := ((List.range 4).map fun j => w (3 + j)).filterMap fun d =>
      if fld d 12 1 = 1 then some (fld d 0 12, fld d 32 32) else none
    donectr := if fld (w 7) 12 1 = 1 then some (fld (w 7) 0 12) else none
    hampk := fld (w 7) 16 5
    hampb := fld (w 7) 24 6
    swapb := fld (w 7) 32 4
    grp := if fld (w 7) 36 1 = 1 then some (BitVec.ofNat 64 (w 8)) else none
    xbase := fld (w 9) 0 20
    arglen := fld (w 9) 32 16
    argva := w 10
    argmoon := BitVec.ofNat 32 (w 11)
    queue := Fin.ofNat 8 (fld (w 11) 32 3)
    km1 := fld (w 11) 35 3
    splitmask := BitVec.ofNat 4 (fld (w 11) 38 4)
    cap := fld (w 11) 48 16
    thresh := fld (w 12) 0 16
    ring := fld (w 12) 16 20
    outmoon := BitVec.ofNat 32 (w 13)
    outva := w 14 }

/-- The areas of the scratchpad that a record names (R116). -/
def Klr.hampBase (r : Klr) : Nat := r.hampb * 0x4000
def Klr.hampSize (r : Klr) : Nat := r.hampk * 0x4000
def Klr.swapBase (r : Klr) : Nat := r.swapb * 0x10000

/-- Whether [a, a + n) leaves the scratchpad, or meets the hamper or the swap region. -/
def Klr.clash (r : Klr) (a n : Nat) : Bool :=
  decide (spmSize < a + n) || overlaps a n r.hampBase r.hampSize || overlaps a n r.swapBase 0x10000

/-- The checks of R344 on each word, true where the word is refused. -/
def Klr.badWord (r : Klr) (bs : List Byte) (n : Nat) : Bool :=
  let x := klrWord bs n
  match n with
  | 1 => fld x 60 4 != 0 || r.imglines == 0 || decide (2048 < r.imglines) || r.pin == 0 || !moonRankOk r.imgmoon
  | 2 => fld x 33 31 != 0 || (if r.form then
      fld x 1 11 != 0 || decide (17 < r.row0) || r.nrows == 0 || r.ncols == 0 || decide (18 < r.row0 + r.nrows) ||
        decide (16 < r.col0 + r.ncols)
    else fld x 12 21 != 0 || r.ntiles == 0 || decide (1152 < r.ntiles) || (r.tdom && decide (288 < r.ntiles)))
  | 3 | 4 | 5 | 6 => fld x 13 19 != 0
  | 7 => fld x 13 3 != 0 || fld x 21 3 != 0 || fld x 30 2 != 0 || fld x 37 27 != 0 || r.hampk == 0 ||
      decide (16 < r.hampk) || decide (spmSize < r.hampBase + r.hampSize) ||
      overlaps r.hampBase r.hampSize r.swapBase 0x10000
  | 8 => r.grp.isSome && (fld x 56 8 != 0 || fld x 36 20 == 0)
  | 9 => fld x 20 12 != 0 || fld x 48 16 != 0 || r.xbase % 16 != 0 || r.arglen % 16 != 0 || decide (65520 < r.arglen) ||
      (if r.arglen = 0 then false else r.clash r.xbase r.arglen)
  | 11 => !moonRankOk r.argmoon || (if r.rwv then
      fld x 42 6 != 0 || r.cap == 0 || (r.form && (diesOf r.splitmask).any fun d => d != r.die)
    else fld x 32 32 != 0)
  | 12 => if r.rwv then
      fld x 36 28 != 0 || r.ring % 0x2000 != 0 || r.clash r.ring 0x2000 || (r.arglen != 0 && overlaps r.ring 0x2000 r.xbase r.arglen)
    else x != 0
  | 13 => if r.rwv then fld x 32 32 != 0 || !moonRankOk r.outmoon else x != 0
  | 14 => if r.rwv then x % 0x40000 != 0 else x != 0
  | 15 => x != 0
  | _ => false

/-- The first word that R344 refuses. -/
def Klr.refusal (r : Klr) (bs : List Byte) : Option Nat := (List.range 16).find? fun n => r.badWord bs n

/-! ### A tile at placement (R351 steps 1-4) -/

/-- The image that a launch fetches into instruction memory, and its arguments (R351 steps 2, 3). -/
def Klr.imageRead (r : Klr) : MoonRead := (false, r.asid, cutPieces r.imgmoon r.imgva (64 * r.imglines) 0 cutFuel)
def Klr.argRead (r : Klr) : MoonRead := (false, r.asid, cutPieces r.argmoon r.argva r.arglen 0 cutFuel)

/-- The number of a timed domain: the gang's own, or the tile's (R148, R353). -/
def domainOf (k : Nat) (handle : W32) (tdom : Bool) : Nat := if tdom then 0x100000 + handle.toNat else k + 1

/-- The tile as placement leaves it: reset, its image and arguments in place, its launch-written registers set. Its suspended-
group filter stays (R376). -/
def Tile.placed (t : Tile) (k : Nat) (g : Gang) (now : Nat) (img args : List Byte) : Tile :=
  let r := g.klr
  { Tile.reset with
    imem := Mem.ofBytes 0 img
    spm := Mem.ofBytes r.xbase args
    msg := t.msg.cleared
    csr := { Csr.reset with
      isapin := r.pin
      hampbase := BitVec.ofNat 20 r.hampBase
      hampsize := BitVec.ofNat 19 r.hampSize
      swapbase := BitVec.ofNat 20 r.swapBase
      xbase := BitVec.ofNat 20 r.xbase }
    thr := { Thread.reset with
      st := .running
      base := now
      gang := some g.handle
      asid := r.asid
      queue := if r.rwv then some r.queue else none
      domain := domainOf k g.handle r.tdom
      domStart := now
      starting := r.grp.isSome } }

/-! ### Resumption (R377) -/

/-- Receives in PULLING ask again for what they lack (R376). -/
def State.repull (s : State) : State :=
  s.t.msg.pulls.foldl (fun s q =>
    let skip := ((s.t.live q.xid).map fun c => c.bits).getD 0
    s.send { mkPacket q.env.dst q.env.src 0x02 q.env.group q.env.sxid 0 q.n [] with ext := skip }) s

/-- What the engines of the current tile had still to do goes on: the steps that the freeze stopped, the matrix ops that have not
started or were stopped (R248), the refused packets, the pulls (R376, R377 step 5). -/
def State.goOn (s : State) : State :=
  let t := s.t
  let s1 := t.frozen.foldl (fun s e => s.schedule (s.now + e.1) s.cur e.2) (s.modT fun t => { t with frozen := [] })
  let s2 := [Pipe.array, Pipe.weight, Pipe.wide].foldl (fun s p =>
    match s.t.mat.pipe p with
    | o :: _ => if o.start.isNone then s.schedule (max s.now o.ready) s.cur (.matrixPipeOpStart p) else s
    | [] => s) s1
  (if s2.t.msg.kept.isEmpty then s2 else s2.schedule s2.now s2.cur .refusedResend).repull

/-- A saved member is put back on its tile: its program image and its save image have been read, its groups leave the filter, and its
engines go on. -/
def State.restore (s : State) (v : Saved) (prog img : List Byte) (spill : Bool) : State :=
  let k := keyOf v.rank
  let old := s.tile k
  let t := v.tile.readBack img.toArray spill
  let grps := t.groups
  let t1 : Tile := { t with
    imem := Mem.ofBytes 0 prog
    imemBad := []
    spm := if spill then t.spm else old.spm
    spmBad := if spill then t.spmBad else old.spmBad
    msg := { t.msg with
      filter := old.msg.filter.filter fun x => !grps.contains x
      inbox := old.msg.inbox
      tookAt := old.msg.tookAt
      orphans := old.msg.orphans
      kept := t.msg.kept.map fun x => { x with away := false, due := s.now } }
    thr := { t.thr with preempt := .none, saveSlot := none, base := s.now, drain := true } }
  let s1 := ({ s.setTile k t1 with cur := k } : State).goOn
  { s1 with
    cur := s.cur
    sched := { s1.sched with saves := s1.sched.saves.filter fun x => !(x.die == v.die && x.slot == v.slot) } }

end Sys2Proof.Machine
end

