-- ==== Sys2Proof/Machine/Dispq.lean ====
section
/-!
DEFINITION. Expert dispatch: routing records and pushes (R354-R356), the close of a round (R357-R359), the wait queues
(R33-R36) and delivery to the members of a gang (R360, R361).
-/

namespace Sys2Proof.Machine

/-! ### Routing records (R354) -/

/-- A routing record as its 16 bytes hold it. -/
def RouteRec.of (bs : List Byte) : RouteRec :=
  let x := ofBytes bs
  { token := BitVec.ofNat 32 (fld x 0 32)
    expert := BitVec.ofNat 16 (fld x 32 16)
    choice := BitVec.ofNat 8 (fld x 48 8)
    nanseen := fld x 56 1 == 1
    carried := fld x 57 1 == 1
    evicted := fld x 58 1 == 1
    none := fld x 59 1 == 1
    weight := BitVec.ofNat 32 (fld x 64 32)
    score := BitVec.ofNat 32 (fld x 96 32) }

/-- A routing record as 16 bytes. -/
def RouteRec.bytes (r : RouteRec) : List Byte :=
  bytesOf (r.token.toNat + 2 ^ 32 * r.expert.toNat + 2 ^ 48 * r.choice.toNat + 2 ^ 56 * r.nanseen.toNat +
    2 ^ 57 * r.carried.toNat + 2 ^ 58 * r.evicted.toNat + 2 ^ 59 * r.none.toNat + 2 ^ 64 * r.weight.toNat +
    2 ^ 96 * r.score.toNat) 16

/-- The records of a push, 16 bytes each. -/
def cutRecords (bs : List Byte) (n : Nat) : List (List Byte) := (List.range n).map fun i => (bs.drop (16 * i)).take 16

/-- Whether a record may be pushed: choice at most 7, reserved bits clear. -/
def recordOk (bs : List Byte) : Bool := decide (fld (ofBytes bs) 48 8 ≤ 7) && fld (ofBytes bs) 60 4 == 0

/-- A tile record as 16 bytes (R359). -/
def TileRec.bytes (r : TileRec) : List Byte :=
  bytesOf (r.expert.toNat + 2 ^ 16 * r.part.toNat + 2 ^ 24 * r.rows.toNat + 2 ^ 32 * r.first.toNat +
    2 ^ 64 * r.handle.toNat + 2 ^ 96 * r.pagefail.toNat + 2 ^ 97 * r.parked.toNat + 2 ^ 98 * r.npm1.toNat +
    2 ^ 100 * r.carried.toNat) 16

/-- A 32-bit counter that saturates, raised by `n`. -/
def satAdd (x : W32) (n : Nat) : W32 := BitVec.ofNat 32 (min (2 ^ 32 - 1) (x.toNat + n))

/-! ### Pushes (R313, R355, R356) -/

/-- What arrives at the dispatcher is taken by arrival, then by rank (R355). -/
def insertPush (p : Push) : List Push → List Push
  | [] => [p]
  | x :: r =>
    if p.at_ < x.at_ || (p.at_ == x.at_ && decide (p.rank.toNat < x.rank.toNat)) then p :: x :: r else x :: insertPush p r

/-- The most records that a queue's open round holds (R355). -/
def queueRoom : Nat := 16384

/-- The records of a push enter the open round, carried if the round that they sampled has started to close (R354, R356). -/
def State.enterPush (s : State) (d : Fin 4) (q : Fin 8) (p : Push) : State :=
  let late := decide (p.round < (s.dq d q).round)
  let rs := p.recs.map fun (r : RouteRec) => { r with carried := late, evicted := false }
  (s.modDq d q fun x => { x with
    recs := x.recs ++ rs
    pushes := x.pushes.tail
    carried := if late then satAdd x.carried rs.length else x.carried }).completeOf p.rank p.gang p.xid 1 0

/-- Every push that has arrived enters, until one does not fit; those behind it wait in order. -/
def State.enterPushes (s : State) (d : Fin 4) (q : Fin 8) : Nat → State
  | 0 => s
  | n + 1 =>
    let x := s.dq d q
    match x.pushes with
    | p :: _ =>
      if p.at_ ≤ s.now && decide (x.recs.length + p.recs.length ≤ queueRoom) then
        State.enterPushes (s.enterPush d q p) d q n
      else s
    | [] => s

/-- RECQ_RECORDS_ENTER (R355). -/
def execRecqRecordsEnter (die : Fin 4) (q : Fin 8) (s : State) : Host.Outcome State Fault Refusal :=
  .next (s.enterPushes die q (s.dq die q).pushes.length)

/-- Whether a placed gang binds a queue (R355). -/
def State.queueOpen (s : State) (d : Fin 4) (q : Fin 8) : Bool := ((s.dq d q).bound.bind s.gang).any fun g => !g.suspended

/-- `recq` (R313). -/
def execRecq (a : Attr) (q : Fin 8) (uli : Bool) (d sb : Reg) (s : State) : Host.Outcome State Fault Refusal :=
  finish s do
    s.noSpec
    let b := BufWord.of (s.rdS sb)
    let die := dieOf s.cur
    let recs := cutRecords (s.t.spmRead false b.addr b.len) (b.len / 16)
    s.engineOp a d .recq b.len uli Xfer.empty
      [(b.rsvOk, 0x81), (decide (16 ≤ b.len) && decide (b.len ≤ 4096) && b.len % 16 == 0, 0x81),
        (!outOfSpm b.addr b.len, 0x81), (!s.t.hitsHamper b.addr b.len, 0x81), (b.addr % 16 == 0, 0x81),
        (!(s.t.badWord b.addr b.len).isSome, 0x85), (recs.all recordOk, 0x84), (s.queueOpen die q, 0x84)]
      fun s xid =>
        let p : Push := ⟨s.rankOf s.cur, s.t.thr.gang, xid, s.now + 1, (s.dq die q).round, recs.map RouteRec.of⟩
        (s.modDq die q fun x => { x with pushes := insertPush p x.pushes }).schedule (s.now + 1) die.val
          (.recqRecordsEnter die q)

/-- `rclose` (R313). -/
def execRclose (a : Attr) (q : Fin 8) (uli : Bool) (d : Reg) (s : State) : Host.Outcome State Fault Refusal :=
  finish s do
    s.noSpec
    let die := dieOf s.cur
    s.engineOp a d .rclose 0 uli Xfer.empty [(s.queueOpen die q, 0x84)] fun s xid =>
      let p : Push := ⟨s.rankOf s.cur, s.t.thr.gang, xid, s.now + 1, (s.dq die q).round, []⟩
      (s.modDq die q fun x => { x with closes := insertPush p x.closes }).schedule (s.now + 1) die.val (.roundClose die q)

/-! ### Steps 1 to 3 of a close (R357) -/

/-- A score as a number that rises with it: −0 is +0, NaN lies below −inf. -/
def scoreKey (x : W32) : Nat :=
  let m := x.toNat % 2 ^ 31
  if 0x7F800000 < m then 0 else if 2 ^ 31 ≤ x.toNat then 2 ^ 31 - m else 2 ^ 31 + m

/-- A stable insertion sort. -/
def insertBy {α : Type} (lt : α → α → Bool) (x : α) : List α → List α
  | [] => [x]
  | y :: r => if lt x y then x :: y :: r else y :: insertBy lt x r
def sortBy {α : Type} (lt : α → α → Bool) (l : List α) : List α := l.foldl (fun acc x => insertBy lt x acc) []

/-- The ranking of steps 2 and 3. -/
def RouteRec.before (x y : RouteRec) : Bool :=
  let a := scoreKey x.score
  let b := scoreKey y.score
  decide (b < a) || (a == b && (decide (x.token.toNat < y.token.toNat) ||
    (x.token == y.token && decide (x.choice.toNat < y.choice.toNat))))

/-- Cut order (R358). -/
def RouteRec.cutBefore (x y : RouteRec) : Bool :=
  decide (x.expert.toNat < y.expert.toNat) || (x.expert == y.expert && (decide (x.token.toNat < y.token.toNat) ||
    (x.token == y.token && decide (x.choice.toNat < y.choice.toNat))))

/-- The experts of records, rising. -/
def expertsOf (l : List RouteRec) : List W16 :=
  ((sortBy (fun (x y : RouteRec) => decide (x.expert.toNat < y.expert.toNat)) l).map (·.expert)).eraseDups

/-- Records ranked for each expert and cut at its room: those admitted and those left over. -/
def takeBest (room : W16 → Nat) (l : List RouteRec) : List RouteRec × List RouteRec :=
  let per := (expertsOf l).map fun e =>
    let r := sortBy RouteRec.before (l.filter fun x => x.expert == e)
    (r.take (room e), r.drop (room e))
  (per.flatMap (·.1), per.flatMap (·.2))

/-- The spares that losers take: for each, its token's unused spare of least choice, marked evicted. -/
def takeSpares : List RouteRec → List RouteRec → List RouteRec
  | [], _ => []
  | x :: r, spares =>
    match sortBy (fun (a b : RouteRec) => decide (a.choice.toNat < b.choice.toNat))
      (spares.filter fun y => y.token == x.token) with
    | y :: _ => { y with evicted := true } :: takeSpares r (spares.erase y)
    | [] => takeSpares r spares

/-- What steps 1 to 3 give: the admitted rows in cut order, the records dropped in step 1 and in step 3, the spares
admitted. -/
structure Admitted where
  rows : List RouteRec
  dropped1 : Nat
  dropped3 : Nat
  spares : Nat
deriving DecidableEq, Repr

/-- Steps 1 to 3 of a close with `k` active choices and capacity `cap`. -/
def admitRound (k cap : Nat) (recs : List RouteRec) : Admitted :=
  let kept := recs.filter fun r => r.expert != 0xFFFF#16 && !r.none
  let first := takeBest (fun _ => cap) (kept.filter fun r => decide (r.choice.toNat < k))
  let taken := takeSpares first.2 (kept.filter fun r => decide (k ≤ r.choice.toNat))
  let second := takeBest (fun e => cap - first.1.countP fun r => r.expert == e) taken
  { rows := sortBy RouteRec.cutBefore (first.1 ++ second.1)
    dropped1 := recs.length - kept.length
    dropped3 := first.2.length + second.2.length
    spares := second.1.length }

/-! ### Step 4 and the cut (R357, R359) -/

/-- The dies on which a gang has a member. -/
def Gang.dies (g : Gang) : List (Fin 4) := (List.finRange 4).filter fun d => g.ranks.any fun r => dieOf (keyOf r) == d

/-- The dies on which the parts of an expert with `n` rows run, part 0 first. -/
def partDies (g : Gang) (closing : Fin 4) (n : Nat) : List (Fin 4) :=
  let ds := g.dies
  let e := ds.filter fun d => g.klr.splitmask.getLsbD d.val
  let t := g.klr.thresh
  let p := if t = 0 then 1 else min 4 (min ((n + t - 1) / t) e.length)
  if 2 ≤ p then e.take p else if ds.contains closing then [closing] else ds.take 1

/-- Rows cut into tiles of 32: the index of each tile's first row, and its rows. -/
def tilesOf (first : Nat) : Nat → List RouteRec → List (Nat × List RouteRec)
  | 0, _ => []
  | n + 1, l => if l.isEmpty then [] else (first, l.take 32) :: tilesOf (first + 32) n (l.drop 32)

/-- The tile records of an expert's rows, which start at `first` in the row area, with the die of each. -/
def cutExpert (g : Gang) (closing : Fin 4) (round first : Nat) (e : W16) (rows : List RouteRec) : List (Fin 4 × TileRec) :=
  let ds := partDies g closing rows.length
  ds.zipIdx.flatMap fun d => (tilesOf first rows.length rows).map fun t =>
    (d.1, { expert := e, part := BitVec.ofNat 8 d.2, rows := BitVec.ofNat 8 t.2.length, first := BitVec.ofNat 32 t.1,
            handle := BitVec.ofNat 32 round, pagefail := false, parked := false, npm1 := BitVec.ofNat 2 (ds.length - 1),
            carried := t.2.any fun r => r.carried })

/-- The tile records of a round in cut order. -/
def cutRound (g : Gang) (closing : Fin 4) (round : Nat) (rows : List RouteRec) : List (Fin 4 × TileRec) :=
  (expertsOf rows).flatMap fun e =>
    cutExpert g closing round (rows.countP fun r => decide (r.expert.toNat < e.toNat)) e (rows.filter fun r => r.expert == e)

/-- The members of a gang on a die, ranks rising. -/
def Gang.on (g : Gang) (d : Fin 4) : List Rank :=
  sortBy (fun (a b : Rank) => decide (a.toNat < b.toNat)) (g.ranks.filter fun r => dieOf (keyOf r) == d)

/-- Tile records dealt round-robin to the members on their die (R360). `n` counts what each die has dealt. -/
def deal (g : Gang) (home : Fin 4) (q : Fin 8) (round : Nat) : Vector Nat 4 → List (Fin 4 × TileRec) → List Dealt
  | _, [] => []
  | n, (d, t) :: r =>
    let ms := g.on d
    ⟨t, d, g.handle, home, q, ms.getD (n[d] % ms.length) 0, round, false⟩ :: deal g home q round (n.set d (n[d] + 1)) r

/-! ### Wait queues (R34, R36) -/

/-- The rank under which a die's dispatcher acts (R358). -/
def State.dispRank (s : State) (d : Fin 4) : Rank := s.rankOf (d.val * 1024 + 307)

/-- The lowest free wait-queue entry of a die, frozen ones left out. -/
def State.freeWq (s : State) (d : Fin 4) : Option Nat :=
  (List.range 8192).find? fun i => ((s.ert.wq[d]).find i).isNone && !s.isFrozen 1 (d.val * 8192 + i)

/-- A record takes a wait-queue entry at the tail of its expert's chain. A chain that starts while the image is in HBM is
released at once. -/
def State.chainUp (s : State) (x : Dealt) (i : Nat) : State :=
  let d := x.die
  let e := x.tr.expert
  let ent := s.ertEnt e
  let ix := BitVec.ofNat 13 i
  let w := (s.ert.wq[d]).put i ⟨{ x with tr := { x.tr with parked := true } }, none⟩
  let old := ent.wq[d]
  let w := match old with
    | some (_, t) => ((w.find t.toNat).map fun y => w.put t.toNat { y with link := some ix }).getD w
    | none => w
  let s1 := ({ s with ert := { s.ert with wq := s.ert.wq.set d w } } : State).setEnt e
    { ent with wq := ent.wq.set d (some ((old.map (·.1)).getD ix, ix)) }
  if ent.present && !((s1.ert.rel[d]).any fun r => r.1 == e) then s1.releaseOn d e false else s1

/-- A record parks, or waits in the dispatcher behind those that wait already (R36): the state, and whether it waits. -/
def State.park (s : State) (x : Dealt) : State × Bool :=
  let d := x.die
  let wait : State := { s with ert := { s.ert with
    blocked := s.ert.blocked.set d (s.ert.blocked[d] ++ [{ x with tr := { x.tr with parked := true }, waited := true }]) } }
  if !(s.ert.blocked[d]).isEmpty then (wait, true)
  else
    match s.freeWq d with
    | some i => (s.chainUp x i, false)
    | none => (wait, true)

/-- The records of one expert on one die park; where not all find an entry, that is reported (R36). DESIGN CHOICE (log 64): the
report carries the dispatcher's rank, tile index 307. -/
def State.parkAll (s : State) (d : Fin 4) (e : W16) (q : Fin 8) (l : List Dealt) : State :=
  let r := l.foldl (fun (a : State × Bool) x =>
    let y := State.park a.1 x
    (y.1, a.2 || y.2)) (s, false)
  if r.2 then r.1.reportEvent d (s.dispRank d) 0x22 (e.toNat + 2 ^ 16 * q.val) else r.1

/-- WAITQ_REFILL (R36): on the die `State.cur` the first waiting record takes a freed entry. -/
def execWaitqRefill (s : State) : Host.Outcome State Fault Refusal :=
  let d := Fin.ofNat 4 s.cur
  match s.ert.blocked[d], s.freeWq d with
  | x :: r, some i => .next (({ s with ert := { s.ert with blocked := s.ert.blocked.set d r } } : State).chainUp x i)
  | _, _ => .next s

/-! ### Emission (R33, R360) -/

/-- A tile record is emitted: it counts as a reader and against its gang, and under LRU and NONE sets the entry's age. None
where the reader count is full. DESIGN CHOICE (log 63): the policy is that of the lowest die that holds the image. -/
def State.emitRecord (s : State) (x : Dealt) : Option State :=
  let e := x.tr.expert
  let ent := s.ertEnt e
  if ent.readers = BitVec.allOnes 16 then none
  else
    let fifo := s.ert.pool[ent.dies.headD 0].policy == 1
    some ((s.setEnt e { ent with readers := ent.readers + 1, age := if fifo then ent.age else s.ert.clock }).modGang x.gang
      fun g => { g with recs := g.recs ++ [e] })

/-- A record held at the reader limit (R33). -/
def State.holdLimit (s : State) (x : Dealt) : State :=
  { s with ert := { s.ert with limit := s.ert.limit.set x.die (s.ert.limit[x.die] ++ [x]) } }

/-- What a member has coming of a round, changed. -/
def State.modComing (s : State) (x : Dealt) (f : Coming → Coming) : State :=
  s.modDq x.home x.queue fun q => { q with members := q.members.map fun (m : Member) =>
    if m.rank == x.member then { m with pend := m.pend.map fun (c : Coming) => if c.round == x.round then f c else c } else m }

/-- Whether the queue that a record comes from is still bound to its gang. -/
def State.bindLives (s : State) (x : Dealt) : Bool := (s.dq x.home x.queue).bound == some x.gang

/-- A member's delivery is looked at in the next cycle. -/
def State.kick (s : State) (d : Fin 4) (q : Fin 8) (r : Rank) : State :=
  if s.agenda.any fun e => e.ev == Instr.batchDelivery d q r then s else s.schedule (s.now + 1) d.val (.batchDelivery d q r)

/-- The members of a queue that have something coming are looked at. -/
def State.kickQueue (s : State) (d : Fin 4) (q : Fin 8) : State :=
  ((s.dq d q).members.filter fun m => !m.pend.isEmpty).foldl (fun s m => s.kick d q m.rank) s

/-- Records gathered for a member become batches of its round, those that waited for an entry a batch of their own (R360). -/
def Coming.flush (c : Coming) : Coming :=
  { c with batches := c.batches ++ [c.part, c.late].filter fun b => !b.isEmpty, part := [], late := [] }

/-- The members on a die get what an expert's release has gathered, and are looked at. -/
def State.flushDie (s : State) (d : Fin 4) : State :=
  let s1 := { s with disp := s.disp.map fun v => v.map fun q => { q with
    members := q.members.map fun (m : Member) =>
      if dieOf (keyOf m.rank) == d then { m with pend := m.pend.map Coming.flush } else m } }
  (List.finRange 4).foldl (fun s a => (List.finRange 8).foldl (fun s q => s.kickQueue a q) s) s1

/-- A released record is gathered for its member, at most 256 to a batch. -/
def State.gather (s : State) (x : Dealt) : State :=
  s.modComing x fun c =>
    let c := { c with owed := c.owed - 1 }
    let c := if x.waited then { c with late := c.late ++ [x] } else { c with part := c.part ++ [x] }
    if c.part.length = 256 || c.late.length = 256 then c.flush else c

/-- Records in batches of at most 256. -/
def batchesOf : Nat → List Dealt → List (List Dealt)
  | 0, _ => []
  | n + 1, l => if l.isEmpty then [] else l.take 256 :: batchesOf n (l.drop 256)

/-- Records held at the reader limit that have been emitted are batches of their own (R33, R360). -/
def State.gatherOwn (s : State) (l : List Dealt) : State :=
  ((l.map fun x => (x.home, x.queue, x.member, x.round)).eraseDups).foldl (fun s k =>
    let mine := l.filter fun x => (x.home, x.queue, x.member, x.round) == k
    match mine with
    | x :: _ => s.modComing x fun c =>
        { c with owed := c.owed - mine.length, batches := c.batches ++ batchesOf mine.length mine }
    | [] => s) s

/-- WAITQ_RELEASE (R35): on the die `State.cur` the chain being released gives its head record. DESIGN CHOICE (log 64): a record of a
gang that no longer binds its queue is dropped, and records appended while DISCARD releases the chain carry pagefail too. -/
def execWaitqRelease (s : State) : Host.Outcome State Fault Refusal :=
  let d := Fin.ofNat 4 s.cur
  let again (s : State) : State := s.schedule (s.now + 1) s.cur .waitqRelease
  match s.ert.rel[d] with
  | [] => .next s
  | (e, discard) :: rest =>
    let ent := s.ertEnt e
    let ended (s : State) : State :=
      let s := ({ s with ert := { s.ert with rel := s.ert.rel.set d rest } } : State).flushDie d
      if rest.isEmpty then s else again s
    match ent.wq[d] with
    | none => .next (ended s)
    | some (h, t) =>
      match (s.ert.wq[d]).find h.toNat with
      | none => .next (ended (s.setEnt e { ent with wq := ent.wq.set d none }))
      | some w =>
        if s.isFrozen 0 e.toNat || s.isFrozen 1 (d.val * 8192 + h.toNat) then .next (again s)
        else
          let chain : Chain := if h = t then none else w.link.map fun n => (n, t)
          let s1 := ({ s with ert := { s.ert with wq := s.ert.wq.set d ((s.ert.wq[d]).del h.toNat) } } : State).setEnt e
            { ent with wq := ent.wq.set d chain }
          let s2 := if (s1.ert.blocked[d]).isEmpty then s1 else s1.schedule (s1.now + 1) s1.cur .waitqRefill
          let x := { w.dealt with tr := { w.dealt.tr with pagefail := discard } }
          let s3 := if s2.bindLives x then
              match s2.emitRecord x with
              | some s' => s'.gather x
              | none => s2.holdLimit x
            else s2
          .next (if chain.isNone then ended s3 else again s3)

/-- The records of a list that can be emitted are, in order; the others stay (R33): the state, those emitted, those that stay. -/
def State.retryLimit (s : State) (e : W16) : List Dealt → State × List Dealt × List Dealt
  | [] => (s, [], [])
  | x :: r =>
    let out := if x.tr.expert == e then s.emitRecord x else none
    let y := State.retryLimit (out.getD s) e r
    (y.1, if out.isSome then (x :: y.2.1, y.2.2) else (y.2.1, x :: y.2.2))

/-- READER_LIMIT_RETRY (R33). -/
def execReaderLimitRetry (die : Fin 4) (expert : W16) (s : State) : Host.Outcome State Fault Refusal :=
  let r := s.retryLimit expert s.ert.limit[die]
  .next ((r.2.1.map fun x => (x.home, x.queue)).eraseDups.foldl (fun s k => s.kickQueue k.1 k.2)
    (({ r.1 with ert := { r.1.ert with limit := r.1.ert.limit.set die r.2.2 } } : State).gatherOwn r.2.1))

/-! ### Step 5: residency (R32, R39, R357) -/

/-- The miss of a lookup that finds an entry without its image: it is counted, and starts a page-in or is reported. -/
def State.miss (s : State) (d : Fin 4) (e : W16) : State :=
  let s := s.modCnt d fun c => { c with misses := sat32 c.misses }
  let x := s.ertEnt e
  if x.state != 0 then s
  else if x.size = 0 then s.reportEvent d (s.svRank d) 0x20 e.toNat
  else (s.setEnt e { x with err := false }).queuePagein e d true

/-- The tile records of one expert on one die after their lookup: the state, and those that are ready. The others park, or
are held at the reader limit. -/
def State.lookup (s : State) (d : Fin 4) (e : W16) (q : Fin 8) (l : List Dealt) : State × List Dealt :=
  let x := s.ertEnt e
  if !x.present || (x.wq[d]).isSome || (s.ert.blocked[d]).any fun y => y.tr.expert == e then
    ((if x.present then s else s.miss d e).parkAll d e q l, [])
  else
    l.foldl (fun a y => match State.emitRecord a.1 y with
      | some s' => (s', a.2 ++ [y])
      | none => (State.holdLimit a.1 y, a.2)) (s, [])

/-- The closes whose lookups are due, by die and queue, with their gangs: the oldest of each queue, taken in an earlier cycle. -/
def State.dueCloses (s : State) : List (Fin 4 × Fin 8 × Gang × Closing) :=
  (List.finRange 4).flatMap fun d => (List.finRange 8).filterMap fun q =>
    match (s.dq d q).closing.find? fun c => !c.looked, (s.dq d q).bound.bind s.gang with
    | some c, some g => if c.at_ < s.now then some (d, q, g, c) else none
    | _, _ => none

/-- A close that has been looked up: its members' ready records are batches, the others are owed. -/
def State.lookedUp (s : State) (d : Fin 4) (q : Fin 8) (round : Nat) (dealt ready : List Dealt) : State :=
  s.modDq d q fun x => { x with
    closing := x.closing.map fun (y : Closing) => if y.round == round then { y with looked := true } else y
    members := x.members.map fun (m : Member) =>
      let mine := ready.filter fun y => y.member == m.rank
      let bs := batchesOf mine.length mine
      { m with pend := m.pend ++ [⟨round, false, (dealt.countP fun y => y.member == m.rank) - mine.length, bs, bs.length, [], []⟩] } }

/-- Steps 4, 5 and 7 of the closes of one cycle: their records are cut, dealt, looked up expert by expert and die by die, those of
lower dispatchers first (R39), and either ready, parked or held. -/
def State.lookUpRounds (s : State) (cs : List (Fin 4 × Fin 8 × Gang × Closing)) : State :=
  let cut := cs.map fun c => (c.1, c.2.1, c.2.2.2,
    deal c.2.2.1 c.1 c.2.1 c.2.2.2.round (Vector.replicate 4 0) (cutRound c.2.2.1 c.1 c.2.2.2.round c.2.2.2.rows))
  let r := (expertsOf (cs.flatMap fun c => c.2.2.2.rows)).foldl (fun (a : State × List Dealt) e =>
    (List.finRange 4).foldl (fun (a : State × List Dealt) dd =>
      cut.foldl (fun (a : State × List Dealt) c =>
        let l := c.2.2.2.filter fun x => x.tr.expert == e && x.die == dd
        if l.isEmpty then a
        else
          let y := State.lookup a.1 dd e c.2.1 l
          (y.1, a.2 ++ y.2)) a) a) (s, [])
  cut.foldl (fun s c =>
    (s.lookedUp c.1 c.2.1 c.2.2.1.round c.2.2.2 (r.2.filter fun x => x.home == c.1 && x.queue == c.2.1 && x.round == c.2.2.1.round)).schedule
      (s.now + 1) c.1.val (.rowAreaWrite c.1 c.2.1)) r.1

/-- The closes whose lookups are due make them; one that needs a frozen entry tries again in the next cycle (R372). -/
def State.lookUpDue (s : State) : State :=
  let held (c : Fin 4 × Fin 8 × Gang × Closing) : Bool := (expertsOf c.2.2.2.rows).any fun e => s.isFrozen 0 e.toNat
  let due := s.dueCloses
  (due.filter held).foldl (fun s c => s.schedule (s.now + 1) c.1.val (.roundClose c.1 c.2.1))
    (s.lookUpRounds (due.filter fun c => !held c))

/-- A close is taken (R356, R357): the first of its round starts the close, any later one ends at once. -/
def State.takeClose (s : State) (d : Fin 4) (q : Fin 8) (p : Push) (g : Gang) : State :=
  let x := s.dq d q
  if p.round < x.round then
    (s.modDq d q fun x => { x with closes := x.closes.tail }).completeOf p.rank p.gang p.xid 1 0
  else
    let a := admitRound (g.klr.km1 + 1) g.klr.cap x.recs
    let s1 := s.modDq d q fun x => { x with
      closes := x.closes.tail
      round := x.round + 1
      recs := []
      closing := x.closing ++ [⟨x.round, s.now, a.rows, p.rank, p.gang, p.xid, false, false, false⟩]
      dropped1 := satAdd x.dropped1 a.dropped1
      dropped3 := satAdd x.dropped3 a.dropped3
      spares := satAdd x.spares a.spares }
    let s2 := ({ s1 with ert := { s1.ert with clock := s1.ert.clock + 1 } } : State).schedule (s1.now + 1) d.val (.roundClose d q)
    if x.pushes.isEmpty then s2 else s2.schedule s2.now d.val (.recqRecordsEnter d q)

/-- ROUND_CLOSE (R357): the lookups of closes taken before this cycle, then a close that has arrived is taken. -/
def execRoundClose (die : Fin 4) (q : Fin 8) (s : State) : Host.Outcome State Fault Refusal :=
  let s := s.lookUpDue
  match (s.dq die q).closes, (s.dq die q).bound.bind s.gang with
  | p :: _, some g => .next (if p.at_ ≤ s.now then s.takeClose die q p g else s)
  | _, _ => .next s

/-! ### Steps 6 to 9 (R357, R358) -/

/-- Whether the entry of q1 with a number has been popped for good. -/
def Tile.tookQ1 (t : Tile) (n : Nat) : Bool := decide (n + (t.spec.map fun sp => sp.pop1.length).getD 0 < t.regs.popped)

/-- The tile of a member of a gang: its saved copy while it is suspended (R375). -/
def State.memberTile (s : State) (h : W32) (r : Rank) : Tile :=
  ((s.sched.saves.find? fun v => v.rank == r && v.tile.thr.gang == some h).map (·.tile)).getD (s.tile (keyOf r))

/-- Whether every member has popped its terminator of round `r` − 2. -/
def State.rowsFree (s : State) (h : W32) (x : DispQ) (r : Nat) : Bool :=
  decide (r < 2) || x.members.all fun m =>
    ((m.ends[r - 2]?).map fun n => (s.memberTile h m.rank).tookQ1 n).getD false

/-- The closes whose rows are written and whose ready batches have all been delivered are done (R357 step 9). -/
def State.closesDone (s : State) (d : Fin 4) (q : Fin 8) : State :=
  let x := s.dq d q
  let ended (c : Closing) : Bool := c.written &&
    x.members.all fun m => m.pend.all fun (y : Coming) => y.round != c.round || y.ready == 0
  (x.closing.filter ended).foldl (fun s c => s.completeOf c.rank c.gang c.xid 1 0)
    (s.modDq d q fun x => { x with closing := x.closing.filter fun c => !ended c })

/-- A round's rows are written: its batches may go out (R357 step 8). -/
def State.openRound (s : State) (d : Fin 4) (q : Fin 8) (round : Nat) : State :=
  ((s.modDq d q fun x => { x with
    closing := x.closing.map fun (y : Closing) => if y.round == round then { y with written := true } else y
    members := x.members.map fun (m : Member) => { m with
      pend := m.pend.map fun (y : Coming) => if y.round == round then { y with opened := true } else y } }).kickQueue d
    q).closesDone d q

/-- A put of a round's rows has faulted: the round stays closing, and the supervisor is told (R358). DESIGN CHOICE (log 64): under the
dispatcher's rank. -/
def State.stallRound (s : State) (d : Fin 4) (q : Fin 8) (round reason : Nat) : State :=
  (s.modDq d q fun x => { x with
    closing := x.closing.map fun (y : Closing) => if y.round == round then { y with stalled := true } else y }).reportEvent
    d (s.dispRank d) 0x31 (reason + 2 ^ 8 * q.val)

/-- ROW_AREA_WRITE (R358): a round whose half is free sends its rows to the moon, under the dispatcher's rank; the last answer ends
the step. -/
def execRowAreaWrite (die : Fin 4) (q : Fin 8) (s : State) : Host.Outcome State Fault Refusal :=
  let ev : Instr := .rowAreaWrite die q
  let again (s : State) : State :=
    if (s.dq die q).closing.any fun c => c.looked && !c.written && !c.stalled then s.schedule (s.now + 1) die.val ev else s
  match s.jobsOf die.val ev with
  | j :: _ =>
    if !j.done then .next s
    else
      let s := s.endJobs die.val ev
      .next (again (match j.fault with
        | some f => s.stallRound die q j.tag f.1
        | none => s.openRound die q j.tag))
  | [] =>
    let x := s.dq die q
    match x.bound.bind s.gang with
    | none => .next s
    | some g =>
      match x.closing.find? fun c => c.looked && !c.written && !c.stalled && s.rowsFree g.handle x c.round with
      | none => .next (again s)
      | some c =>
        let bs := c.rows.flatMap RouteRec.bytes
        if bs.isEmpty then .next (again (s.openRound die q c.round))
        else
          .next (s.startJob (s.dispRank die) die.val ev c.round 1 false g.klr.asid (fun p => (bs.drop p.off).take p.len)
            (cutPieces g.klr.outmoon (g.klr.outva + c.round % 2 * 0x40000) bs.length 0 cutFuel))

/-! ### Delivery (R361) -/

/-- Whether q1 holds 32 entries, those that speculation may put back included (R334). -/
def Tile.q1Full (t : Tile) : Bool := decide (32 ≤ t.q1Count + (t.spec.map fun sp => sp.pop1.length).getD 0)

/-- The dispatcher's push of q1, and the number of the entry. -/
def Tile.pushQ1 (t : Tile) (x : Nat) : Tile × Nat :=
  ({ t with regs := { t.regs with q1 := t.regs.q1 ++ [BitVec.ofNat 32 x] } }, t.regs.popped + t.regs.q1.length)

/-- Whether the next batch's half may be written: the batch before it has been popped. -/
def Member.halfFree (m : Member) (t : Tile) : Bool :=
  match m.last with
  | n :: _ :: _ => t.tookQ1 n
  | _ => true

/-- A member changed. -/
def State.modMember (s : State) (d : Fin 4) (q : Fin 8) (r : Rank) (f : Member → Member) : State :=
  s.modDq d q fun x => { x with members := x.members.map fun (m : Member) => if m.rank == r then f m else m }

/-- A batch goes into the ring and its count into q1. -/
def State.deliverBatch (s : State) (d : Fin 4) (q : Fin 8) (m : Member) (ring : Nat) (b : List Dealt) : State :=
  let k := keyOf m.rank
  let t := (s.tile k).spmWrite false (ring + if m.half then 4096 else 0) (b.flatMap fun x => x.tr.bytes)
  let p := t.pushQ1 b.length
  (s.setTile k p.1).modMember d q m.rank fun m => { m with
    half := !m.half
    last := p.2 :: m.last.take 1
    pend := match m.pend with
      | c :: r => { c with batches := c.batches.tail, ready := c.ready - 1 } :: r
      | [] => [] }

/-- A round's terminator goes into q1. -/
def State.deliverEnd (s : State) (d : Fin 4) (q : Fin 8) (m : Member) : State :=
  let k := keyOf m.rank
  let p := (s.tile k).pushQ1 0
  (s.setTile k p.1).modMember d q m.rank fun m => { m with ends := m.ends ++ [p.2], pend := m.pend.tail }

/-- BATCH_DELIVERY (R361): the next batch or terminator of a member, once its gang is not suspended and there is room. -/
def execBatchDelivery (die : Fin 4) (q : Fin 8) (rank : Rank) (s : State) : Host.Outcome State Fault Refusal :=
  let x := s.dq die q
  match x.members.find? fun m => m.rank == rank, x.bound.bind s.gang with
  | some m, some g =>
    let t := s.tile (keyOf rank)
    let next (s : State) : State := s.kick die q rank
    if g.suspended || g.suspending then .next s
    else
      match m.pend with
      | [] => .next s
      | c :: _ =>
        if !c.opened then .next s
        else
          match c.batches with
          | b :: _ =>
            .next (next (if t.q1Full || !m.halfFree t then s else (s.deliverBatch die q m g.klr.ring b).closesDone die q))
          | [] =>
            if c.owed != 0 || !c.part.isEmpty || !c.late.isEmpty then .next s
            else .next (next (if t.q1Full then s else s.deliverEnd die q m))
  | _, _ => .next s

end Sys2Proof.Machine
end

