-- ==== Sys2Proof/Machine/Sched.lean ====
section
/-!
DEFINITION. Launch queues, dependences and priority (R345-R348), placement (R349-R351), completion (R352), pre-emption's
resumption (R377), and the end of a thread (R300, R370).
-/

namespace Sys2Proof.Machine

/-! ### Dependence counters (R346) -/

def State.dctr (s : State) (i : Nat) : W32 := (s.sched.dctr.find i).getD 0

/-- Every queued launch with the dependences that are now met; one once met stays met. -/
def State.refreshMet (s : State) : State :=
  { s with sched := { s.sched with q := s.sched.q.map fun l => l.map fun x =>
      { x with met := (List.range x.klr.deps.length).filter fun j =>
          x.met.contains j || (match x.klr.deps[j]? with
            | some d => decide (d.2 ≤ (s.dctr d.1).toNat)
            | none => true) } } }

/-- A counter takes a value, and what waits on it is looked at again. -/
def State.setDctr (s : State) (i : Nat) (v : W32) : State :=
  ({ s with sched := { s.sched with dctr := if v = 0 then s.sched.dctr.del i else s.sched.dctr.put i v } } :
    State).refreshMet.wakeSchedulers

/-- DCTR_WRITE: a frozen counter is rewritten by it (R372). -/
def execDctrWrite (i : Fin 4096) (v : W32) (s : State) : Host.Outcome State Fault Refusal :=
  .next ({ s with frozen := s.frozen.filter fun f => f != (3, i.val) }.setDctr i.val v)

/-! ### Queues (R345) -/

/-- The queue that a record enters: its die's for form 1, the package's for form 0. -/
def Klr.sched (r : Klr) : Fin 5 := if r.form then Fin.ofNat 5 r.die.val else 4

/-- A launch enters its queue behind those of earlier cycles and those that a lower rank submits in this one (R384). -/
def insertQueued (x : Queued) : List Queued → List Queued
  | [] => [x]
  | y :: r =>
    if !y.resume && y.entered == x.entered && decide (x.origin.toNat < y.origin.toNat) then x :: y :: r
    else y :: insertQueued x r

/-- A record enters its queue; none where the queue is full. -/
def State.enqueue (s : State) (r : Klr) (die : Fin 4) (origin : Rank) : Option (State × W32) :=
  let q := r.sched
  if 256 ≤ (s.sched.q[q]).length then none
  else
    let h := s.sched.handle
    let e : Queued := ⟨h, r, die, [], s.now, false, origin⟩
    some ((({ s with sched := { s.sched with handle := h + 1, q := s.sched.q.set q (insertQueued e s.sched.q[q]) } } :
      State).refreshMet).wakeSchedulers, h)

/-- `launch` (R312). -/
def execLaunch (a : Attr) (uli : Bool) (d sa : Reg) (s : State) : Host.Outcome State Fault Refusal :=
  finish s do
    s.noSpec
    let x := (s.rdS sa).toNat
    let addr := fld x 0 20
    let ok := fld x 20 44 == 0 && addr % 16 == 0 && !outOfSpm addr 128 && !s.t.hitsHamper addr 128
    let bs := s.t.spmRead false addr 128
    let r := Klr.of bs
    s.engineOp a d .launch 0 uli Xfer.empty [(ok, 0x81), (!(s.t.badWord addr 128).isSome, 0x85),
      ((r.refusal bs).isNone, 0x84)] fun s xid =>
        match s.enqueue r (dieOf s.cur) (s.rankOf s.cur) with
        | some (s1, _) => s1.complete s.cur xid 1 none 0
        | none => s.complete s.cur xid 5 none 0

/-! ### Priority (R347) -/

/-- Every launch, queued or placed: its handle, its record. -/
def State.launches (s : State) : List (W32 × Klr) :=
  (s.sched.q.toList.flatMap fun l => l.map fun x => (x.handle, x.klr)) ++
    (s.sched.gangs.filter fun g => !g.suspended || g.resuming).map fun g => (g.handle, g.klr)

/-- The queued launches that a launch feeds. -/
def State.feeds (s : State) (r : Klr) : List (W32 × Klr) :=
  match r.donectr with
  | none => []
  | some c => (s.sched.q.toList.flatMap id).filterMap fun x =>
      if x.klr.deps.zipIdx.any fun d => d.1.1 == c && !x.met.contains d.2 then some (x.handle, x.klr) else none

/-- Effective priorities over chains of at most `n` edges. -/
def State.effective (s : State) : Nat → List (W32 × Nat)
  | 0 => s.launches.map fun l => (l.1, l.2.prio)
  | n + 1 =>
    let prev := s.effective n
    s.launches.map fun l => (l.1, (s.feeds l.2).foldl (fun m f => max m (((prev.find? fun p => p.1 == f.1).map (·.2)).getD 0)) l.2.prio)

/-- The effective priority of a launch. -/
def State.prioOf (s : State) (h : W32) (r : Klr) : Nat := (((s.effective 16).find? fun p => p.1 == h).map (·.2)).getD r.prio

/-! ### Picking (R346, R348) -/

/-- Whether a queued launch is ready. -/
def State.ready (s : State) (x : Queued) : Bool :=
  (x.resume || decide (x.met.length = x.klr.deps.length)) &&
    (x.resume || !x.klr.rwv ||
      ((s.dq x.bindDie x.klr.queue).bound.isNone && (s.dq x.bindDie x.klr.queue).reserved.isNone))

/-- The launch a scheduler picks: the ready one of greatest effective priority, the oldest of equals. -/
def State.pick (s : State) (k : Fin 5) : Option (Queued × Nat) :=
  ((s.sched.q[k]).filter s.ready).foldl (fun (m : Option (Queued × Nat)) x =>
    let p := s.prioOf x.handle x.klr
    match m with
    | some b => if b.2 < p then some (x, p) else some b
    | none => some (x, p)) none

/-! ### Tiles (R349, R350) -/

/-- Whether a tile of a key is free. -/
def State.freeTile (s : State) (k : Nat) : Bool := (s.tile k).thr.st == .none

/-- The exposed tiles, by ascending die and index. -/
def exposed : List Nat := (List.range 4).flatMap fun d => (List.range 288).map fun i => d * 1024 + i

/-- The tiles that a form 1 record names. -/
def Klr.rect (r : Klr) : List Nat :=
  (List.range r.nrows).flatMap fun i => (List.range r.ncols).map fun j =>
    r.die.val * 1024 + (r.row0 + i) * 16 + (r.col0 + j)

/-- The tiles a launch takes, if `free` lets it be placed. -/
def chooseTiles (r : Klr) (free : Nat → Bool) : Option (List Nat) :=
  if r.form then if r.rect.all free then some r.rect else none
  else if r.tdom then
    (List.range 4).findSome? fun d =>
      let l := (((List.range 288).map fun i => d * 1024 + i).filter free).take r.ntiles
      if l.length = r.ntiles then some l else none
  else
    let l := (exposed.filter free).take r.ntiles
    if l.length = r.ntiles then some l else none

/-- The tiles of a queued launch: a resumed gang takes those it held. -/
def State.tilesFor (s : State) (x : Queued) (free : Nat → Bool) : Option (List Nat) :=
  if x.resume then
    (s.gang x.handle).bind fun g =>
      let l := g.ranks.map keyOf
      if l.all fun k => free k || ((s.tile k).thr.st == .suspended && (s.tile k).thr.gang == some x.handle) then some l
      else none
  else chooseTiles x.klr free

/-- The gangs that a launch of a priority may pre-empt, in the order they are taken: lowest effective priority first, then
latest placed. -/
def State.victims (s : State) (x : Queued) (p : Nat) : List Gang :=
  let need : Option (List Nat) :=
    if x.resume then (s.gang x.handle).map fun g => g.ranks.map keyOf else if x.klr.form then some x.klr.rect else none
  let ok := s.sched.gangs.filter fun g =>
    g.klr.spill && decide (s.prioOf g.handle g.klr < p) && s.canPreempt g &&
      (need.map fun l => g.ranks.any fun r => l.contains (keyOf r)).getD true
  let before (a b : Gang) : Bool :=
    decide (s.prioOf a.handle a.klr < s.prioOf b.handle b.klr) ||
      (s.prioOf a.handle a.klr == s.prioOf b.handle b.klr && decide (b.placedAt < a.placedAt))
  ok.foldl (fun l g => (l.filter fun y => !before g y) ++ g :: l.filter fun y => before g y) []

/-- Whether the save slots of every die hold some gangs together (R375). -/
def State.savesFit (s : State) (gs : List Gang) : Bool :=
  (List.finRange 4).all fun d =>
    decide (((gs.flatMap (·.ranks)).filter fun r => dieOf (keyOf r) == d).length ≤ (s.freeSaves d).length)

/-- Whether a launch fits on the free tiles, those of gangs being suspended that spill, and those of gangs that would be
pre-empted. -/
def State.wouldFit (s : State) (x : Queued) (taken : List Gang) : Bool :=
  let going := s.sched.gangs.filter fun g => g.suspending && g.klr.spill
  (s.tilesFor x fun k => s.freeTile k || (going ++ taken).any fun v => v.ranks.any fun q => keyOf q == k).isSome

/-- The fewest victims, in their order, with whose tiles the launch would fit; one that finds no save slots beside those taken is left
out. -/
def State.takeVictims (s : State) (x : Queued) (taken : List Gang) : List Gang → Option (List Gang)
  | [] => if s.wouldFit x taken then some taken else none
  | g :: r =>
    if s.wouldFit x taken then some taken
    else s.takeVictims x (if s.savesFit (taken ++ [g]) then taken ++ [g] else taken) r

/-- A launch leaves its queue. -/
def State.dequeue (s : State) (k : Fin 5) (h : W32) : State :=
  { s with sched := { s.sched with q := s.sched.q.set k ((s.sched.q[k]).filter fun x => x.handle != h) } }

/-- The picked launch gets its tiles: they are held for it, and its placement or resumption follows in this cycle. -/
def State.grant (s : State) (k : Fin 5) (x : Queued) (tiles : List Nat) : State :=
  let s := s.dequeue k x.handle
  if x.resume then
    let s := tiles.foldl (fun s t => s.modTile t fun u =>
      if u.thr.st == .none then { u with thr := { Thread.reset with st := .suspended, gang := some x.handle } } else u) s
    (s.modGang x.handle fun g => { g with resuming := true }).schedule s.now switchKey (.gangResume x.handle)
  else
    let g : Gang := ⟨x.handle, x.klr, x.bindDie, tiles.map fun t => s.rankOf t, false, false, false, s.now, [], []⟩
    let s := tiles.foldl (fun s t => s.modTile t fun u => { u with
      thr := { Thread.reset with st := .running, gang := some x.handle, starting := true } }) s
    let s := if x.klr.rwv then s.modDq x.bindDie x.klr.queue fun q => { q with reserved := some x.handle } else s
    ({ s with sched := { s.sched with gangs := s.sched.gangs ++ [g] } } : State).schedule s.now switchKey (.gangPlace x.handle)

/-- A scheduler picks, and places, pre-empts or waits (R348, R350). After a placement it looks again in the next cycle. -/
def State.runPick (s : State) (k : Fin 5) : State :=
  match s.pick k with
  | none => s
  | some (x, p) =>
    match s.tilesFor x s.freeTile with
    | some tiles => (s.grant k x tiles).wakeSchedulers
    | none =>
      match s.takeVictims x [] (s.victims x p) with
      | some gs => gs.foldl State.requestPreempt s
      | none => s

/-- SCHEDULER_PICK. Of the schedulers that pick in one cycle, the one whose launch has the greatest effective priority goes
first, then the one whose launch entered its queue earlier, then the lowest (R348). -/
def execSchedulerPick (sched : Fin 5) (s : State) : Host.Outcome State Fault Refusal :=
  let others := (List.finRange 5).filter fun j => s.agenda.any fun e => decide (e.due ≤ s.now) && e.ev == .schedulerPick j
  let key (j : Fin 5) : Nat × Nat := ((s.pick j).map fun x => (x.2 + 1, x.1.entered)).getD (0, 0)
  let best := others.foldl (fun (b : Fin 5) j =>
    if (key b).1 < (key j).1 || ((key b).1 == (key j).1 && (decide ((key j).2 < (key b).2) ||
      ((key j).2 == (key b).2 && decide (j.val < b.val)))) then j else b) sched
  if best = sched then .next (s.runPick sched)
  else
    let s1 := { s with agenda := s.agenda.filter fun e => !(decide (e.due ≤ s.now) && e.ev == Instr.schedulerPick best) }
    .next ((s1.runPick best).schedule s.now switchKey (.schedulerPick sched))

/-! ### Placement (R351) -/

/-- The binding of a queue, round 0 open (R346, R356, R361). -/
def State.bindQueue (s : State) (g : Gang) : State :=
  if g.klr.rwv then
    s.modDq g.bindDie g.klr.queue fun q => { DispQ.reset with
      bound := some g.handle
      members := g.ranks.map fun r => ⟨r, [], false, [], []⟩
      dropped1 := q.dropped1, dropped3 := q.dropped3, spares := q.spares, carried := q.carried }
  else s

/-- The registration that a launch makes for each member (R351 step 5). -/
def State.joinLaunch (s : State) (g : Gang) (w : W64) : State :=
  if s.homeReached w then
    g.ranks.foldl (fun s r => s.schedule (s.now + s.toSwitch (keyOf r)) switchKey (.groupJoinRegister r w)) s
  else s.abandonGang g.handle 0x84

/-- Steps 4 and 5 of a placement whose images and arguments have been fetched. -/
def State.placeGang (s : State) (g : Gang) (fetched : List (Rank × List (List Byte))) : State :=
  let s1 := fetched.foldl (fun s x => s.modTile (keyOf x.1) fun t =>
    t.placed (keyOf x.1) g s.now (x.2.getD 0 []) (x.2.getD 1 [])) s
  let s2 := s1.bindQueue g
  g.klr.grp.elim s2 fun w => s2.joinLaunch g w

/-- GANG_PLACE (R351): every member fetches its image, then its arguments; when the last answer is there, the gang is placed. -/
def execGangPlace (handle : W32) (s : State) : Host.Outcome State Fault Refusal :=
  let ev : Instr := .gangPlace handle
  match s.gang handle with
  | none => .next s
  | some g =>
    match s.jobFault switchKey ev with
    | some reason => .next (s.abandonGang handle reason)
    | none =>
      let x := s.readAll switchKey ev (fun _ => [g.klr.imageRead, g.klr.argRead]) g.ranks
      .next (match x.2 with
        | some l => (x.1.endJobs switchKey ev).placeGang g l
        | none => x.1)

/-! ### Completion (R352) and resumption (R377) -/

/-- The tile records of a gang leave the reader counts (R33). -/
def State.dropRecords (s : State) (recs : List W16) : State :=
  recs.eraseDups.foldl (fun s e => s.dropReaders e (recs.count e)) s

/-- GANG_COMPLETE (R352). -/
def execGangComplete (handle : W32) (s : State) : Host.Outcome State Fault Refusal :=
  match s.gang handle with
  | none => .next s
  | some g =>
    if !(g.ranks.all fun r => (s.tile (keyOf r)).thr.st == .halted && (s.tile (keyOf r)).thr.gang == some handle) then .next s
    else if (g.klr.donectr.map fun c => s.isFrozen 3 c).getD false then
      .next (s.schedule (s.now + 1) switchKey (.gangComplete handle))
    else
      let s1 := ((s.dropRecords g.recs).unbind g).freeTiles g
      let s2 := { s1 with sched := { s1.sched with gangs := s1.sched.gangs.filter fun x => x.handle != handle } }
      .next ((g.klr.donectr.elim s2 fun c => s2.setDctr c (s2.dctr c + 1)).wakeSchedulers)

/-- The saved copy of a member. -/
def State.savedIn (s : State) (g : Gang) (r : Rank) : Option Saved :=
  s.sched.saves.find? fun v => v.rank == r && v.tile.ofGang (some g.handle)

/-- What a member reads to be resumed: its program image, then its save image (R377 steps 3, 4). -/
def State.resumeReads (s : State) (g : Gang) (r : Rank) : List MoonRead :=
  match s.savedIn g r with
  | some v => [g.klr.imageRead, (true, 0, s.savePieces v.die v.slot g.klr.spill)]
  | none => []

/-- Every member is restored, and the gang runs again (R377 steps 5, 6). -/
def State.resumeGang (s : State) (g : Gang) (read : List (Rank × List (List Byte))) : State :=
  let s1 := read.foldl (fun s x => match s.savedIn g x.1 with
    | some v => s.restore v (x.2.getD 0 []) (x.2.getD 1 []) g.klr.spill
    | none => s) s
  let s2 := s1.modGang g.handle fun g => { g with suspended := false, resuming := false, placedAt := s.now }
  if g.klr.rwv then s2.kickQueue g.bindDie g.klr.queue else s2

/-- GANG_RESUME (R377): every member reads its program image, then its save image; when the last answer is there, the gang goes
on. DESIGN CHOICE (log 44): a read that faults ends the gang as R351 does a placement. -/
def execGangResume (handle : W32) (s : State) : Host.Outcome State Fault Refusal :=
  let ev : Instr := .gangResume handle
  match s.gang handle with
  | none => .next s
  | some g =>
    match s.jobFault switchKey ev with
    | some reason => .next (s.abandonGang handle reason)
    | none =>
      let x := s.readAll switchKey ev (s.resumeReads g) g.ranks
      .next (match x.2 with
        | some l => (x.1.endJobs switchKey ev).resumeGang g l
        | none => x.1)

/-! ### The end of a thread (R97, R300, R370) -/

/-- A gang whose members have all halted completes in the next cycle. -/
def State.checkGang (s : State) (h : W32) : State :=
  match s.gang h with
  | some g =>
    if !g.suspended && g.ranks.all fun r => (s.tile (keyOf r)).thr.st == .halted then
      s.schedule (s.now + 1) switchKey (.gangComplete h)
    else s
  | none => s

/-- What a halting thread leaves behind (R97, R300): posted receives go, the senders of held RTS and host envelopes get
DEST_GONE, held data goes, and a BUSY `recvr`, `gbar` or `join` is withdrawn. -/
def State.withdraw (s : State) : State :=
  let t := s.t
  let es := ((t.msg.hamper.filter fun h => h.kind == .rts && h.taken.isNone).map (·.env)) ++ t.msg.released ++ t.msg.ingress
  let s1 := es.foldl (fun s e => s.replyTo e 0x08 3 0) s
  let s2 := s1.modT fun t => { t with
    msg := { t.msg with posted := [], hamper := t.msg.hamper.filter fun h => h.taken.isSome, released := [], ingress := [] }
    cpl := t.cpl.map fun c => if c.used && !c.terminal &&
      (c.op == .recvr || c.op == .gbar || c.op == .join) then c.freed else c }
  s2.dropJoiners fun j => j.rank == s.rankOf s.cur && j.gang == t.thr.gang

/-- The current thread ends. -/
def State.endThread (s : State) : State :=
  let s1 := s.withdraw.modT fun t => { t with thr := { t.thr with st := .halted, tbar := none, tbarGo := none } }
  s1.t.thr.gang.elim s1 s1.checkGang

/-- `halt` (R300). -/
def execHalt (_a : Attr) (s : State) : Host.Outcome State Fault Refusal :=
  finish s do
    s.noSpec
    check (s.t.iss.clear || s.t.fenceDone 2) (.stall 0)
    return s.endThread

end Sys2Proof.Machine
end

