-- ==== Sys2Proof/Machine/Sup.lean ====
section
/-!
DEFINITION. The supervisor's commands over the service network (R315, R368, R369, R371, R378): each is one operation on the
rank it names, with the answer it returns, issued by `tctl` or as a step of its own.
-/

namespace Sys2Proof.Machine

/-! ### Whom a command reaches -/

/-- Whether a rank is of the die of the supervisor that is `cur`. -/
def State.ownDie (s : State) (r : Rank) : Bool := s.isLocal r && dieOf (keyOf r) == dieOf s.cur

/-- The saved copy of a suspended member. -/
def State.savedOf (s : State) (r : Rank) : Option Saved :=
  s.sched.saves.find? fun v => v.rank == r && ((v.tile.thr.gang.bind s.gang).map fun g => g.suspended).getD false

/-- The thread state of a rank as STATE reports it. -/
def State.threadSt (s : State) (r : Rank) : ThreadSt :=
  let st := (s.tile (keyOf r)).thr.st
  if st == .none && (s.savedOf r).isSome then .suspended else st

/-- The refusals that RESUME and WRCSR share, then BUSY for a suspended or suspending member (R315, R378). DESIGN CHOICE (log 65): BUSY
also while the report of the thread's trap waits for room, since the reporter stays as it is (R366). -/
def State.ctlGuard (s : State) (r : Rank) : Option W64 :=
  if !s.ownDie r then some cmdRefused
  else
    match s.threadSt r with
    | .none | .halted => some cmdRefused
    | .suspended => some cmdBusy
    | _ => if (s.tile (keyOf r)).thr.preempt != .none || s.reportWaits (dieOf (keyOf r)) r then some cmdBusy else none

/-! ### STATE -/

def State.ctlState (s : State) (r : Rank) : State × W64 :=
  (s, if !s.ownDie r then BitVec.allOnes 64
    else match s.threadSt r with
      | .running => 0
      | .stopped => 1
      | .suspended => 2
      | .halted => 3
      | .none => 4)

/-! ### RESUME (R341, R369) -/

/-- A stopped thread runs again, its pdist counted from now (R186). -/
def Tile.runs (t : Tile) (now : Nat) : Tile :=
  { t with
    thr := { t.thr with st := .running, base := now, drain := true, trapped := false }
    iss := Iss.none }

/-- A stopped thread runs again at an address, which R173 must allow; the bundle there is checked anew. -/
def Tile.resumeAt (t : Tile) (now : Nat) (a : IAddr) : Tile :=
  let t := t.runs now
  { t with thr := { t.thr with pc := a, badTarget := if t.targetOk a.toNat then none else some a } }

/-- The thread of the current tile resumes: after the `trap` bundle of SW_TRAP, under R341 after CBR_TIMEOUT, at `epc`
otherwise. -/
def State.resumeThread (s : State) : State :=
  let t := s.t
  match t.spec with
  | some sp =>
    let latch := t.csr.latch[sp.gm]
    if sp.expelled || latch == 3 then s.cbrTimeout sp (latch == 3)
    else if latch == 0 then s.modT fun t => ({ t with spec := some { sp with left := t.csr.cbrto } } : Tile).runs s.now
    else
      (s.modT fun t => ({ t with
        spec := none
        csr := { t.csr with latch := t.csr.latch.set sp.gm 0 } } : Tile).runs s.now).takePath sp (latch == 2)
  | none =>
    if fld t.csr.cause.toNat 0 8 = causeCode .swTrap then
      s.modT fun t =>
        let t := t.resumeAt s.now t.csr.epc
        let nxt := t.nextAddr t.csr.epc.toNat
        if t.thr.badTarget.isSome then t
        else if t.thr.inHandler then t.goto nxt else ({ t with loops := t.loops.advance 1 } : Tile).settle s.now nxt 7
    else s.modT fun t => t.resumeAt s.now t.csr.epc

def State.ctlResume (s : State) (r : Rank) : State × W64 :=
  match s.ctlGuard r with
  | some v => (s, v)
  | none =>
    if s.threadSt r == .stopped then ({ ({ s with cur := keyOf r } : State).resumeThread with cur := s.cur }, cmdOk)
    else (s, cmdRefused)

/-! ### EXPEL (R310, R339) -/

/-- What an expulsion does to the tile that holds the member: v = 0, ex = 1, and a branch on the group that is unresolved
learns of it. -/
def State.expelAt (s : State) (r : Rank) (gm : Fin 8) : State :=
  let k := keyOf r
  let g := (s.tile k).csr.gm[gm]
  if !g.getLsbD 16 then s
  else
    let s1 := (s.removeMember (gmGroup g) r).setGm k gm (BitVec.ofNat 64 ((gmGroup g).toNat + 2 ^ 17))
    s1.modTile k fun t => { t with spec := t.spec.map fun sp => if sp.gm = gm then { sp with expelled := true } else sp }

/-- An expulsion of a suspended member acts on its saved copy (R378), and on the tile where its thread is held there. -/
def State.expelSaved (s : State) (v : Saved) (gm : Fin 8) : State :=
  let k := keyOf v.rank
  let old := s.tile k
  let s1 := (s.setTile k v.tile).expelAt v.rank gm
  let new := s1.tile k
  let held := if old.thr.gang == v.tile.thr.gang then { old with csr := { old.csr with gm := new.csr.gm } } else old
  { s1.setTile k held with
    sched := { s1.sched with saves := s1.sched.saves.map fun x => if x == v then { x with tile := new } else x } }

def State.ctlExpel (s : State) (r : Rank) (gm : Fin 8) : State × W64 :=
  if !s.ownDie r then (s, cmdRefused)
  else
    match s.threadSt r with
    | .none | .halted => (s, cmdRefused)
    | .suspended => ((s.savedOf r).elim s fun v => s.expelSaved v gm, cmdOk)
    | _ => (s.expelAt r gm, cmdOk)

/-! ### PREEMPT (R375, R378) -/

def State.ctlPreempt (s : State) (r : Rank) : State × W64 :=
  if !s.ownDie r then (s, cmdRefused)
  else
    match s.threadSt r with
    | .none | .halted => (s, cmdRefused)
    | .suspended => (s, cmdBusy)
    | _ =>
      match (s.tile (keyOf r)).thr.gang.bind s.gang with
      | none => (s, cmdRefused)
      | some g => if s.canPreempt g then (s.requestPreempt g, cmdOk) else (s, cmdBusy)

/-! ### MAPSPARE (R13, R371) -/

/-- Condition 4 of R371. -/
def State.unchained (s : State) (r : Rank) : Bool :=
  let k := keyOf r
  let t := s.tile k
  ((List.finRange 64).all fun i => !(t.msg.chan[i]).v) &&
    s.tiles.all fun p => p.1 == k || dieOf p.1 != dieOf k ||
      (((List.finRange 64).all fun i => !((p.2.msg.chan[i]).v && (p.2.msg.chan[i]).peer == k % 1024)) &&
        (t.thr.st == .none || p.2.thr.st == .none || p.2.thr.domain != t.thr.domain))

/-- A scratchpad word becomes zero; one of the second half of the swap region is named by its address plus 0x100000. -/
def Tile.zeroWord (t : Tile) (w : Nat) : Tile :=
  if w < 0x100000 then { t with spm := t.spm.write w (List.replicate 16 0) }
  else { t with swap := { t.swap with half := t.swap.half.write (w - 0x100000 - t.csr.swapbase.toNat) (List.replicate 16 0) } }

/-- The words of the current tile that hold an uncorrectable error become zero, and the address of each is reported. -/
def State.zeroBad (s : State) : State :=
  let bad := s.t.spmBad
  (bad.foldl (fun s w => s.reportEvent (dieOf s.cur) (s.rankOf s.cur) 0x09 (w % 0x100000)) s).modT fun t =>
    { bad.foldl Tile.zeroWord t with spmBad := [] }

/-- The spares of a die, changed. -/
def State.modSpares (s : State) (d : Fin 4) (f : Spares → Spares) : State :=
  { s with sched := { s.sched with spares := s.sched.spares.set d (f s.sched.spares[d]) } }

/-- The answer to a `tctl` that its supervisor still awaits lands in the next cycle. -/
def State.answerLate (s : State) (d : Fin 4) (v : W64) : State :=
  let k := d.val * 1024 + 306
  let s := { s with agenda := s.agenda.filter fun e => !(e.unit == k && decide (lateDue ≤ e.due)) }
  (s.modTile k fun t => { t with regs := { t.regs with flight := t.regs.flight.map fun w =>
    if lateDue ≤ w.due then { w with due := s.now + 1, val := v.setWidth 512 } else w } }).schedule (s.now + 1) k .resultWriteback

/-- A rank's move to a spare is over, and MAPSPARE is answered. -/
def State.moveOver (s : State) (d : Fin 4) (v : W64) : State :=
  match (s.sched.spares[d]).moving with
  | none => s
  | some m =>
    let s := s.modSpares d fun sp => { sp with moving := none }
    if m.2.2 then s.answerLate d v else s.readOut v

/-- The routers switch a rank to its spare. -/
def State.mapSpare (s : State) (r : Rank) (n : Nat) : State :=
  s.modSpares (dieOf (keyOf r)) fun sp => { sp with used := sp.used.filter (fun u => u.1 != keyOf r % 1024) ++ [(keyOf r % 1024, n)] }

/-- MAPSPARE (R371): a refusal; the mapping of a rank without a thread; or the start of the move of a stopped one, whose answer comes
later (none). DESIGN CHOICE (log 66): BUSY while the die has no free save slot, or moves another rank. -/
def State.ctlMapspare (s : State) (r : Rank) (spare : BitVec 4) (tctl : Bool) : State × Option W64 :=
  let k := keyOf r
  let d := dieOf k
  let sp := s.sched.spares[d]
  let n := spare.toNat
  let st := s.threadSt r
  let ok := s.ownDie r && isCompute k && sp.armed == some (r, spare) && decide (n < 8) && (st == .none || st == .stopped) &&
    (s.tile k).thr.preempt == .none && !(sp.used.any fun u => u.2 == n) && !sp.bad.contains n && s.unchained r
  if !ok then (s, some cmdRefused)
  else if st == .none then
    (((s.modSpares d fun sp => { sp with armed := none }).mapSpare r n).modTile k fun t =>
      { Tile.reset with msg := t.msg.cleared }, some cmdOk)
  else
    match s.freeSaves d, sp.moving with
    | slot :: _, none =>
      let s1 := s.modSpares d fun sp => { sp with armed := none, moving := some (r, n, tctl) }
      let s2 := ({ s1 with cur := k } : State).freezeEngines.modT fun t => { t with thr := { t.thr with saveSlot := some slot } }
      ({ s2.schedule (s.now + 1) k .preemptHalt with cur := s.cur }, none)
    | _, _ => (s, some cmdBusy)

/-- The tile of a stopped thread that has moved to a spare: its registers, tables and memories are the spare's, without errors, and it
is left stopped. -/
def State.moved (s : State) (v : Saved) (prog img : List Byte) (n : Nat) : State :=
  let s1 := s.restore v prog img true
  ((s1.modTile (keyOf v.rank) fun t => { t with bad := [], msg := { t.msg with dead := false } }).mapSpare v.rank n).moveOver v.die cmdOk

/-- A move that a moon's fault ends: the thread stays where it is, and MAPSPARE is refused (log 66). -/
def State.moveFails (s : State) : State :=
  let s1 := (s.endJobs s.cur .saveImageWrite).modT fun t => { t with thr := { t.thr with preempt := .none, saveSlot := none } }
  ({ s1 with sched := { s1.sched with saves := s1.sched.saves.filter fun v => v.rank != s.rankOf s.cur || !v.tile.ofGang s.t.thr.gang } } :
    State).goOn.moveOver (dieOf s.cur) cmdRefused

/-- The move of the current tile's thread: its image is written, with the whole scratchpad, then its program image and its save image are
read for the spare (R371). -/
def State.moveStep (s : State) (g : Gang) (slot n : Nat) : State :=
  let ev : Instr := .saveImageWrite
  match s.jobsOf s.cur ev with
  | [] =>
    if s.t.moonWaits || !s.drained then s.schedule (s.now + 1) s.cur ev else s.zeroBad.saveTile slot true
  | js =>
    if (s.jobFault s.cur ev).isSome then s.moveFails
    else if js.any fun j => j.tag == 0 && !j.done then s
    else
      let x := s.readOn (s.rankOf s.cur) s.cur ev 1 [g.klr.imageRead, (true, 0, s.savePieces (dieOf s.cur) slot true)]
      match x.2, s.savedIn g (s.rankOf s.cur) with
      | some l, some v => (x.1.endJobs s.cur ev).moved v (l.getD 0 []) (l.getD 1 []) n
      | _, _ => x.1

/-- SAVE_IMAGE_WRITE (R371, R375): a halted member saves itself, or a thread on its way to a spare. -/
def execSaveImageWrite (s : State) : Host.Outcome State Fault Refusal :=
  match s.t.thr.gang.bind s.gang, s.t.thr.saveSlot with
  | some g, some slot =>
    match (s.sched.spares[dieOf s.cur]).moving with
    | some m => .next (if m.1 == s.rankOf s.cur then s.moveStep g slot m.2.1 else s.saveMember g slot)
    | none => .next (s.saveMember g slot)
  | _, _ => .next s

/-! ### WRCSR, RDCSR (R315, R337) -/

def State.ctlWrcsr (s : State) (r : Rank) (n : Nat) (v : W64) : State × W64 :=
  match s.ctlGuard r with
  | some x => (s, x)
  | none =>
    if s.threadSt r != .stopped then (s, cmdRefused)
    else
      let k := keyOf r
      match n with
      | 0x010 => (s.modTile k fun t => { t with csr := { t.csr with cause := v.setWidth 9 } }, cmdOk)
      | 0x011 =>
        (s.modTile k fun t => { t with
          csr := { t.csr with
            epc := v.setWidth 26
            latch := match t.spec with
              | some sp => t.csr.latch.set sp.gm 0
              | none => t.csr.latch }
          spec := none }, cmdOk)
      | 0x012 => (s.modTile k fun t => { t with csr := { t.csr with tval := v } }, cmdOk)
      | _ => (s, cmdRefused)

def State.ctlRdcsr (s : State) (r : Rank) (n : Nat) : State × W64 :=
  if !s.ownDie r then (s, cmdRefused)
  else
    match s.threadSt r with
    | .none => (s, 0)
    | .suspended => (s, ((s.savedOf r).map fun v => (s.setTile (keyOf r) v.tile).csrRead (keyOf r) n).getD
        (s.csrRead (keyOf r) n))
    | _ => (s, s.csrRead (keyOf r) n)

/-! ### The instructions -/

/-- A command's answer, where its issuer reads it. -/
def answered (x : State × W64) : State := x.1.readOut x.2

def execState (rank : Rank) (s : State) : Host.Outcome State Fault Refusal := .next (answered (s.ctlState rank))
def execResume (rank : Rank) (s : State) : Host.Outcome State Fault Refusal := .next (answered (s.ctlResume rank))
def execExpel (rank : Rank) (gm : Fin 8) (s : State) : Host.Outcome State Fault Refusal :=
  .next (answered (s.ctlExpel rank gm))
def execPreempt (rank : Rank) (s : State) : Host.Outcome State Fault Refusal := .next (answered (s.ctlPreempt rank))
def execMapspare (rank : Rank) (spare : BitVec 4) (s : State) : Host.Outcome State Fault Refusal :=
  let x := s.ctlMapspare rank spare false
  .next (x.2.elim x.1 fun v => x.1.readOut v)
def execWrcsr (rank : Rank) (n : BitVec 12) (v : W64) (s : State) : Host.Outcome State Fault Refusal :=
  .next (answered (s.ctlWrcsr rank n.toNat v))
def execRdcsr (rank : Rank) (n : BitVec 12) (s : State) : Host.Outcome State Fault Refusal :=
  .next (answered (s.ctlRdcsr rank n.toNat))

/-- `tctl` (R315): the command code is in s[sb], and the answer is of variable latency. -/
def execTctl (a : Attr) (d sa sb sc : Reg) (s : State) : Host.Outcome State Fault Refusal :=
  finish s do
    s.noSpec
    let r : Rank := (s.rdS sa).setWidth 32
    let w := (s.rdS sb).toNat
    let v := s.rdS sc
    let gm : Fin 8 := Fin.ofNat 8 (fld w 8 3)
    let now (x : State × W64) : State × Option W64 := (x.1, some x.2)
    let x : State × Option W64 := match fld w 0 4 with
      | 0 => now (s.ctlState r)
      | 1 => now (s.ctlResume r)
      | 2 => now (s.ctlExpel r gm)
      | 3 => now (s.ctlPreempt r)
      | 4 => s.ctlMapspare r (BitVec.ofNat 4 (fld w 12 4)) true
      | 5 => now (s.ctlWrcsr r (fld w 16 12) v)
      | 6 => now (s.ctlRdcsr r (fld w 16 12))
      | _ => (s, some cmdRefused)
    let dl := x.1.delay
    match x.2 with
    | some v => dl.2.wrS a (1 + dl.1) d v
    | none => dl.2.wrS a (lateDue - s.now) d 0

end Sys2Proof.Machine
end

