-- ==== Sys2Proof/Machine/Host.lean ====
section
/-!
DEFINITION. Host queues: doorbells and the taking of entries (R380, R384), the seven kinds of entry (R381-R383), and the
abort of a gang (R370).
-/

namespace Sys2Proof.Machine

/-! ### Taking entries (R380, R384) -/

/-- Whether the host port accepts queue traffic (R386 stage 6). -/
def State.hostUp (s : State) : Bool := s.mgmt.bootst == 0x06

/-- Whether a pair has an entry to be taken: enabled, of a ring size that R380 allows, its ring not empty. -/
def Pair.hasWork (p : Pair) : Bool :=
  p.en && decide (4 ≤ p.lsize.toNat) && decide (p.lsize.toNat ≤ 12) && p.head != p.tail.toNat % p.size

/-- The bytes of a pair's next submission entry. -/
def State.hostEntryBytes (s : State) (p : Pair) : List Byte :=
  s.host.mem.read ((p.sub.toNat + 256 * p.head) % 2 ^ 64) 256

/-- A field of an entry: `n` bytes from a byte offset. -/
def entryField (bs : List Byte) (off n : Nat) : Nat := ofBytes ((bs.drop off).take n)

/-- The step that takes an entry of a kind; one of no known kind is refused by whichever step finds it. -/
def hostStep (kind : Nat) : Instr :=
  match kind with
  | 2 => .hostDctr
  | 3 => .hostAbort
  | 4 => .hostSend
  | 5 => .hostRecv
  | 6 => .hostCancel
  | 7 => .hostHwin
  | _ => .hostLaunch

/-- Whether a step takes a host entry. -/
def isHostStep : Instr → Bool
  | .hostLaunch | .hostDctr | .hostAbort | .hostSend | .hostRecv | .hostCancel | .hostHwin => true
  | _ => false

/-- The next pair with work, round-robin after the one served last, is served in the next cycle (R384). -/
def State.hostServe (s : State) : State :=
  if s.agenda.any fun e => isHostStep e.ev then s
  else
    match ((List.range 64).map fun i => Fin.ofNat 64 (s.host.last.val + 1 + i)).find? fun q => (s.pair q).hasWork with
    | some q => s.schedule (s.now + 1) q.val (hostStep (entryField (s.hostEntryBytes (s.pair q)) 0 1))
    | none => s

/-- HOST_DOORBELL (R380): the tail of a pair, written by the host. -/
def execHostDoorbell (q : Fin 64) (tail : BitVec 12) (s : State) : Host.Outcome State Fault Refusal :=
  .next (if s.hostUp then (s.setPair q { s.pair q with tail := tail }).hostServe else s)

/-- Whether every byte outside the listed (offset, length) ranges, the kind and the tag is 0. -/
def entryRsvOk (bs : List Byte) (used : List (Nat × Nat)) : Bool :=
  bs.zipIdx.all fun b => b.1 == 0 || ((0, 1) :: (2, 2) :: used).any fun u => decide (u.1 ≤ b.2) && decide (b.2 < u.1 + u.2)

/-- A completion entry of the pair `q`, DONE unless said otherwise. -/
abbrev statusDone : Nat := 1
abbrev statusRefused : Nat := 0x10
abbrev statusNotFound : Nat := 0x11
abbrev statusAborted : Nat := 0x12

/-- A step of the pair `State.cur` takes its next entry: of the expected kind, with its reserved bytes zero, it has its
effect; where the entry found is of another known kind, that kind's step takes it in the same cycle; otherwise it is REFUSED (R381). An
entry that `hold` leaves in its ring, or whose completion ring the host has left full (R383), stays, and the other pairs go on. -/
def State.takeEntry (s : State) (kind : Nat) (used : List (Nat × Nat)) (hold : State → List Byte → Option State)
    (act : State → Fin 64 → W16 → List Byte → State) : Host.Outcome State Fault Refusal :=
  let q := Fin.ofNat 64 s.cur
  let p := s.pair q
  let bs := s.hostEntryBytes p
  let found := entryField bs 0 1
  if p.hasWork && found != kind && decide (1 ≤ found) && decide (found ≤ 7) then .next (s.schedule s.now s.cur (hostStep found))
  else
    let s := { s with host := { s.host with last := q } }
    if !p.hasWork then .next s.hostServe
    else
      let full := Config.ringFull s.freeCtr
      let s := { s with freeCtr := s.freeCtr + 1 }
      let ok := found == kind && entryRsvOk bs used
      match if full then some s else if ok then hold s bs else none with
      | some s' => .next s'.hostServe
      | none =>
        let tag : W16 := BitVec.ofNat 16 (entryField bs 2 2)
        let s := { s.setPair q { p with head := if p.head + 1 = p.size then 0 else p.head + 1 } with cur := 1023 }
        .next (if ok then (act s q tag bs).hostServe else (s.hostComplete q tag statusRefused 0 0).hostServe)

/-! ### LAUNCH and DCTR -/

/-- HOST_LAUNCH (R381, R383): the binding die is die 0 (R344). -/
def execHostLaunch (s : State) : Host.Outcome State Fault Refusal :=
  s.takeEntry 1 [(32, 128)] (fun _ _ => none) fun s q tag bs =>
    let rec_ := (bs.drop 32).take 128
    let r := Klr.of rec_
    match r.refusal rec_ with
    | some w => s.hostComplete q tag statusRefused 0 (BitVec.ofNat 64 (2 ^ 32 * w))
    | none =>
      match s.enqueue r 0 (s.rankOf 1023) with
      | some (s1, h) => s1.hostComplete q tag statusDone 0 (h.setWidth 64)
      | none => s.hostComplete q tag 5 0 0

/-- HOST_DCTR (R382, R384); a frozen counter holds it back (R372). -/
def execHostDctr (s : State) : Host.Outcome State Fault Refusal :=
  s.takeEntry 2 [(32, 2), (36, 4)] (fun s bs => if s.isFrozen 3 (entryField bs 32 2) then some s else none) fun s q tag bs =>
    let c := entryField bs 32 2
    if 4096 ≤ c then s.hostComplete q tag statusRefused 0 0
    else (s.setDctr c (BitVec.ofNat 32 (entryField bs 36 4))).hostComplete q tag statusDone 0 0

/-! ### ABORT (R370) -/

/-- A tile's message tables without a withdrawn send: a held envelope goes, and a receive that pulls from it completes
DEST_GONE. -/
def Tile.dropSend (t : Tile) (now : Nat) (r : Rank) (xid : W16) : Tile :=
  let mine (e : Env) : Bool := e.src == r && e.sxid == xid
  let gone := t.msg.pulls.filter fun u => mine u.env
  if gone.isEmpty && !(t.msg.hamper.any fun h => mine h.env) && !((t.msg.ingress ++ t.msg.released).any mine) then t
  else
    { t with
      msg := { t.msg with
        hamper := t.msg.hamper.filter fun h => !(mine h.env && h.taken.isNone)
        ingress := t.msg.ingress.filter fun e => !mine e
        released := t.msg.released.filter fun e => !mine e
        pulls := t.msg.pulls.filter fun u => !mine u.env }
      cpl := gone.foldl (fun c u => match t.live u.xid with
        | some x => c.set (slotIx u.xid) (x.ended now 7 none 0)
        | none => c) t.cpl }

/-- A send of rank `r` is withdrawn from every receiver of this module (R370). -/
def State.withdrawSend (s : State) (r : Rank) (xid : W16) : State :=
  let s1 := { s with
    tiles := s.tiles.map fun p => (p.1, p.2.dropSend s.now r xid)
    sched := { s.sched with saves := s.sched.saves.map fun (v : Saved) => { v with tile := v.tile.dropSend s.now r xid } }
    host := { s.host with
      headers := s.host.headers.filter fun h => !(h.1.src == r && h.1.sxid == xid)
      pulls := s.host.pulls.filter fun u => !(u.2.1 == r && u.2.2.1 == xid) } }
  (s.host.pulls.filter fun u => u.2.1 == r && u.2.2.1 == xid).foldl (fun s u =>
    match s.host.xfer.find u.1 with
    | some x => s.hostEnd u.1 x 7 u.2.2.2.2 0
    | none => s) s1

/-- The BUSY sends of a tile. -/
def Tile.busySends (t : Tile) : List W16 :=
  (List.finRange 64).filterMap fun k =>
    let c := t.cpl[k]
    if c.used && !c.terminal && (c.op == .send || c.op == .ssend) then some (mkXid k c.seq) else none

/-- A member ends (R370): its sends are withdrawn, the senders that it holds get DEST_GONE (R97), its groups leave its tile's
filter, and the replies of its moons will be discarded. `v` is the member's saved copy, if it is saved. -/
def State.abortMember (s : State) (r : Rank) (v : Option Saved) : State :=
  let home := s.cur
  let k := keyOf r
  let t := (v.map (·.tile)).getD (s.tile k)
  let s := t.busySends.foldl (fun s x => s.withdrawSend r x) { s with cur := k }
  let held := ((t.msg.hamper.filter fun h => h.kind == .rts && h.taken.isNone).map (·.env)) ++ t.msg.released ++ t.msg.ingress
  let s := if v.isSome then held.foldl (fun s e => s.replyTo e 0x08 3 0) s else s.withdraw
  let grps := t.groups
  let s := s.modT fun u => { u with msg := { u.msg with filter := u.msg.filter.filter fun g => !grps.contains g } }
  let s := if v.isSome then s
    else s.modT fun u => { u with
      thr := { u.thr with st := .halted, tbar := none, tbarGo := none }
      cpl := u.cpl.map fun c => if c.used && !c.terminal then c.freed else c
      msg := { u.msg with orphans := u.msg.orphans ++ u.awaited } }
  { s with cur := home }

/-- What an aborted member still waits for at its boundary: what `halt` waits for (R300), its sends and moon requests aside. -/
def Tile.abortReady (t : Tile) : Bool :=
  t.spec.isNone && !(t.busy fun op => op.fenced && !op.moonOp && op != .send && op != .ssend) && t.mat.arr.isEmpty &&
    t.mat.wgt.isEmpty && t.mat.wide.isEmpty && t.regs.flight.isEmpty && t.regs.loads.all fun l => l.write.isNone

/-- Whether a member of a gang that is aborted ends in this cycle: at once where its thread does not run or is held by a placement or a
pre-emption, else at its next bundle boundary (R370). -/
def Tile.abortsNow (t : Tile) (now : Nat) : Bool :=
  t.thr.st != .halted && (t.thr.st != .running || t.thr.starting || t.thr.preempt != .none ||
    ((t.boundary now).isNone && t.abortReady))

/-- A gang whose members have all ended under an ABORT: its save slots, tiles, tile records and queue are free, `donectr` stays, the
supervisor of die 0 is told, and the ABORT is answered (R370, R383). -/
def State.abortOver (s : State) (g : Gang) : State :=
  let s1 := (List.finRange 4).foldl (fun s d =>
    if (s.sched.spares[d]).moving.any fun m => g.ranks.contains m.1 then s.moveOver d cmdRefused else s) s
  let s2 := (((s1.dropRecords g.recs).unbind g).freeTiles g).dropGang g.handle
  let s3 := { s2 with sched := { s2.sched with
    aborted := s2.sched.aborted ++ g.aborts.map fun q => (g.handle, q)
    q := s2.sched.q.map fun (l : List Queued) => l.filter fun x => x.handle != g.handle } }
  (s3.reportEvent 0 (s3.rankOf 306) 0x30 g.handle.toNat).wakeSchedulers

/-- A gang under an ABORT in a new cycle: the members whose time has come end, and when all have, the gang is over. -/
def State.abortStep (s : State) (g : Gang) : State :=
  let held (s : State) (r : Rank) : Bool := (s.savedIn g r).isSome && !(s.tile (keyOf r)).ofGang (some g.handle)
  let s1 := g.ranks.foldl (fun s r =>
    if (s.savedIn g r).isSome || (s.tile (keyOf r)).abortsNow s.now then s.abortMember r (s.savedIn g r) else s) s
  if g.ranks.all fun r => (s1.savedIn g r).isSome || held s1 r || (s1.tile (keyOf r)).thr.st == .halted then s1.abortOver g else s1

/-- The gangs under an ABORT in a new cycle. -/
def State.abortCycle (s : State) : State :=
  (s.sched.gangs.filter fun g => !g.aborts.isEmpty).foldl State.abortStep s

/-- HOST_ABORT (R370, R383): the entry of a placed or suspended gang stays until every member has ended. -/
def execHostAbort (s : State) : Host.Outcome State Fault Refusal :=
  let hold (s : State) (bs : List Byte) : Option State :=
    let h : W32 := BitVec.ofNat 32 (entryField bs 32 4)
    (s.gang h).map fun _ => s.modGang h fun g =>
      if g.aborts.contains s.host.last then g else { g with aborts := g.aborts ++ [s.host.last] }
  s.takeEntry 3 [(32, 4)] hold fun s q tag bs =>
    let h : W32 := BitVec.ofNat 32 (entryField bs 32 4)
    if s.sched.aborted.contains (h, q) then
      ({ s with sched := { s.sched with aborted := s.sched.aborted.erase (h, q) } } : State).hostComplete q tag statusDone 0 0
    else if s.sched.q.toList.any fun l => l.any fun x => x.handle == h then
      ({ s with sched := { s.sched with q := s.sched.q.map fun l => l.filter fun x => x.handle != h } } :
        State).wakeSchedulers.hostComplete q tag statusAborted 0 0
    else s.hostComplete q tag statusNotFound 0 0

/-! ### SEND, RECV, CANCEL (R382, R385) -/

/-- The lowest free slot of the transfer table. -/
def State.freeHXfer (s : State) : Option Nat :=
  (List.range 4096).find? fun k => !(((s.host.xfer.find k).map (·.used)).getD false)

/-- A transfer takes a slot; its first completion entry gives the transfer id (R382). -/
def State.openHXfer (s : State) (x : HXfer) : State × Nat × HXfer :=
  let k := s.freeHXfer.getD 0
  let seq : BitVec 20 := ((s.host.xfer.find k).map fun o => o.seq + 1).getD 0
  let x := { x with used := true, seq := seq }
  ((s.setHXfer k x).hostComplete x.q x.tag 0 0 (BitVec.ofNat 64 (hxidOf k x % 2 ^ 32)), k, x)

/-- HOST_SEND (R382, R385): always a rendezvous; a destination that R16 refuses completes FAULT. -/
def execHostSend (s : State) : Host.Outcome State Fault Refusal :=
  s.takeEntry 4 [(32, 4), (36, 4), (40, 2), (42, 1), (44, 4), (48, 8)] (fun s _ => if s.freeHXfer.isSome then none else some s) fun s q tag bs =>
    let ty := entryField bs 42 1
    let len := entryField bs 44 4
    if 32 ≤ ty || ty % 16 = 15 || 1048576 < len then s.hostComplete q tag statusRefused 0 0
    else
      let dst : Rank := BitVec.ofNat 32 (entryField bs 32 4)
      let o := s.openHXfer
        { used := true, seq := 0, recv := false, q := q, tag := tag, haddr := entryField bs 48 8, len := len, peer := dst
          mtag := BitVec.ofNat 32 (entryField bs 36 4), tmask := 0, group := BitVec.ofNat 16 (entryField bs 40 2)
          etype := BitVec.ofNat 4 ty, nan := ty / 16 == 1, matched := false, streaming := false }
      if destOk dst then o.1.emit ((o.1.hostEnv o.2.1 o.2.2).packet [])
      else o.1.hostEnd o.2.1 o.2.2 2 len (faultDetail 0x82 0)

/-- HOST_RECV (R382, R385). -/
def execHostRecv (s : State) : Host.Outcome State Fault Refusal :=
  s.takeEntry 5 [(32, 4), (36, 4), (40, 4), (44, 2), (48, 4), (56, 8)] (fun s _ => if s.freeHXfer.isSome then none else some s) fun s q tag bs =>
    let cap := entryField bs 48 4
    if 1048576 < cap then s.hostComplete q tag statusRefused 0 0
    else
      let o := s.openHXfer
        { used := true, seq := 0, recv := true, q := q, tag := tag, haddr := entryField bs 56 8, len := cap
          peer := BitVec.ofNat 32 (entryField bs 32 4), mtag := BitVec.ofNat 32 (entryField bs 36 4)
          tmask := BitVec.ofNat 32 (entryField bs 40 4), group := BitVec.ofNat 16 (entryField bs 44 2)
          etype := 0, nan := false, matched := false, streaming := false }
      o.1.hostPost o.2.1 o.2.2

/-- HOST_CANCEL (R382). -/
def execHostCancel (s : State) : Host.Outcome State Fault Refusal :=
  s.takeEntry 6 [(32, 4)] (fun _ _ => none) fun s q tag bs =>
    let id := entryField bs 32 4
    let k := id % 4096
    match s.host.xfer.find k with
    | some x =>
      if hxidOf k x % 2 ^ 32 != id || !x.recv then s.hostComplete q tag statusDone 0 2
      else if x.used && s.host.posted.contains k then
        (({ s with host := { s.host with posted := s.host.posted.erase k } } : State).hostComplete q tag statusDone 0 0).hostEnd
          k x 4 x.len 0
      else s.hostComplete q tag statusDone 0 1
    | none => s.hostComplete q tag statusDone 0 2

/-! ### HWIN (R294, R382, R385) -/

/-- HOST_HWIN: the tile acts as though it had issued `hwin`, which waits while the thread is speculative (R292). -/
def execHostHwin (s : State) : Host.Outcome State Fault Refusal :=
  s.takeEntry 7 [(32, 4)] (fun s bs => if (s.tile (keyOf (BitVec.ofNat 32 (entryField bs 32 4)))).isSpec then some s else none) fun s q tag bs =>
    let r : Rank := BitVec.ofNat 32 (entryField bs 32 4)
    let k := keyOf r
    let t := s.tile k
    if s.isLocal r && ((s.sched.saves.any fun v => v.rank == r) || t.thr.st == .suspended) then
      s.hostComplete q tag 8 0 0
    else if !s.isLocal r || t.thr.st == .none then s.hostComplete q tag statusNotFound 0 0
    else
      { ({ s with cur := k } : State).openIngress with cur := s.cur }.hostComplete q tag statusDone 0 0

end Sys2Proof.Machine
end

