-- ==== Sys2Proof/Machine/MaskOps.lean ====
section
/-!
DEFINITION. The mask instructions of the P slot (R257, R279).
-/

namespace Sys2Proof.Machine

def execMand (a : Attr) (d x y : Reg) (s : State) : Host.Outcome State Fault Refusal :=
  finish s (.ok (s.wrM a d (s.rdM x &&& s.rdM y)))
def execMor (a : Attr) (d x y : Reg) (s : State) : Host.Outcome State Fault Refusal :=
  finish s (.ok (s.wrM a d (s.rdM x ||| s.rdM y)))
def execMxor (a : Attr) (d x y : Reg) (s : State) : Host.Outcome State Fault Refusal :=
  finish s (.ok (s.wrM a d (s.rdM x ^^^ s.rdM y)))
def execMandn (a : Attr) (d x y : Reg) (s : State) : Host.Outcome State Fault Refusal :=
  finish s (.ok (s.wrM a d (s.rdM x &&& ~~~(s.rdM y))))
def execMnot (a : Attr) (d x : Reg) (s : State) : Host.Outcome State Fault Refusal :=
  finish s (.ok (s.wrM a d (~~~(s.rdM x))))
def execMmov (a : Attr) (d x : Reg) (s : State) : Host.Outcome State Fault Refusal :=
  finish s (.ok (s.wrM a d (s.rdM x)))
def execMset (a : Attr) (d sa : Reg) (s : State) : Host.Outcome State Fault Refusal :=
  finish s (.ok (s.wrM a d (s.rdS sa)))
def execMsetLo (a : Attr) (d : Reg) (n : BitVec 7) (s : State) : Host.Outcome State Fault Refusal :=
  finish s (.ok (s.wrM a d (BitVec.ofNat 64 (2 ^ n.toNat - 1))))

/-- `mfromv`: lanes that are not zero, or sign bits; a queue source is popped whatever the destination (R279). -/
def execMfromv (a : Attr) (t : Ety) (sign : Bool) (d x : Reg) (s : State) : Host.Outcome State Fault Refusal :=
  finish s do
    let s ← s.popV x
    return s.wrM a d (maskOfLanes (BitVec.allOnes 64) ((lanesOf t.width (s.rdV t.width x)).map fun v =>
      if sign then v.testBit (t.width - 1) else v != 0))

end Sys2Proof.Machine
end

