-- ==== Sys2Proof/Machine/Mgmt.lean ====
section
/-!
DEFINITION. The management core: bring-up (R386, R387), attestation (R388), management commands (R389), power (R390-R392), and
writes of the registers that have no row of their own (R5).
-/

namespace Sys2Proof.Machine

/-- A management request is answered. -/
def State.reply (s : State) (r : MgmtReply) : State := { s with mgmt := { s.mgmt with replies := s.mgmt.replies ++ [r] } }

/-- OK with an effect, or REFUSED. -/
def State.command (s : State) (ok : Bool) (act : State → State) : Host.Outcome State Fault Refusal :=
  .next (if ok then (act s).reply .ok else s.reply .refused)

/-! ### Bring-up (R386, R387) -/

/-- Why an image is refused: signature (the digest that it signs included, log 68), key hash or rollback. -/
def imageFault (img : List Byte) : Option Nat :=
  if !(Config.digestMatches img && Config.ecdsaVerifies img && Config.lmsVerifies img) then some 0x01
  else if !Config.keyHashMatches img then some 0x02
  else if Config.securityVersion img < Config.fusedVersion then some 0x03
  else none

/-- The image that stages 1 to 3 choose, or the reason why the backup fails too. -/
def chooseImage (b : BootInput) : Except Nat (List Byte) :=
  if (imageFault b.primary).isNone then .ok b.primary
  else
    match imageFault b.backup with
    | none => .ok b.backup
    | some r => .error r

/-- The failure report at BAR4 offset 0x100 (R387). -/
def failReport (stage reason die unit detail : Nat) : BitVec 256 :=
  BitVec.ofNat 256 (stage + 2 ^ 8 * reason + 2 ^ 16 * die + 2 ^ 20 * unit + 2 ^ 32 * detail)

/-- The safe state: nothing runs, and `bootst` shows the stage that failed. -/
def State.safe (s : State) (stage : Nat) (rep : BitVec 256) : State :=
  { s with mgmt := { s.mgmt with bootst := BitVec.ofNat 8 (0x80 + stage), failrep := rep } }

/-- A supervisor released with its firmware: it runs from instruction address 0. -/
def Tile.supervisor (k : Nat) (code : List Byte) : Tile :=
  { Tile.reset with
    imem := Mem.ofBytes 0 code
    csr := { Csr.reset with isapin := 3 }
    thr := { Thread.reset with st := .running, domain := k + 1 } }

/-- The keys of the supervisors. -/
def supervisorKeys : List Nat := (List.range 4).map fun d => d * 1024 + 306

/-- The package id that stage 5 assigns: that of a SETPKG sent before it in this boot, else that of the configuration record. A
SETPKG of a boot that ended earlier counts no more. -/
def State.bootPkg (s : State) (b : BootInput) : BitVec 20 :=
  let early := if s.mgmt.bootst = 0 then s.mgmt.pkgSet else none
  match b.setpkg.filter fun p => p != 0xFFFFF with
  | some p => p
  | none => early.getD b.pkg

/-- POWER_ON (R386): the module as reset leaves it takes stages 1 to 6, or enters the safe state (R387) at the first stage that
fails; a record that holds the package id which is never assigned fails stage 5 (R15, log 68). What lies outside the module (host
memory, the inputs still to come) stays. -/
def execPowerOn (b : BootInput) (s : State) : Host.Outcome State Fault Refusal :=
  let s0 := { State.reset with
    delays := s.delays
    inputs := s.inputs
    freeCtr := s.freeCtr
    host := { HostSt.reset with mem := s.host.mem }
    mgmt := { Mgmt.reset with boot := some b } }
  let fail (f : BootFail) : State :=
    s0.safe f.stage.val (failReport f.stage.val f.reason.toNat f.die.toNat f.unit.toNat f.detail.toNat)
  match chooseImage b, b.selfTest with
  | .error r, some f => .next (if f.stage.val < 3 then fail f else s0.safe 3 (failReport 3 r 4 0 0))
  | .error r, none => .next (s0.safe 3 (failReport 3 r 4 0 0))
  | .ok _, some f => .next (fail f)
  | .ok img, none =>
    if s.bootPkg b = 0xFFFFF then .next (s0.safe 5 (failReport 5 Config.badPackageReason.toNat 4 0 0))
    else
      .next { s0 with
        sched := { s0.sched with spares := Vector.ofFn fun d : Fin 4 =>
          ⟨none, none, [], (b.badSpares.filter fun x => x.1 == d).map (·.2.val)⟩ }
        tiles := supervisorKeys.map fun k => (k, Tile.supervisor k (Config.supervisorCode img))
        mgmt := { s0.mgmt with bootst := 0x06, pkg := s.bootPkg b } }

/-! ### Management commands (R389) -/

def execStatus (s : State) : Host.Outcome State Fault Refusal :=
  .next (s.reply (.status s.mgmt.bootst s.mgmt.temp s.mgmt.watts s.mgmt.pwrctl))

/-- SETPKG: before stage 5 only, and never the package id that is not assigned (R15). -/
def execSetpkg (pkg : BitVec 20) (s : State) : Host.Outcome State Fault Refusal :=
  s.command (decide (s.mgmt.bootst.toNat % 128 < 5) && pkg != 0xFFFFF#20) fun s =>
    { s with mgmt := { s.mgmt with pkgSet := some pkg } }

/-- SETHAMP: a range of 1 to 64 MiB (R385). -/
def execSethamp (base size : W64) (s : State) : Host.Outcome State Fault Refusal :=
  s.command (decide (0x100000 ≤ size.toNat) && decide (size.toNat ≤ 0x4000000)) fun s =>
    { s with host := { s.host with hampBase := base, hampSize := size } }

/-- SETPWR (R391): its reserved bits stay 0 (R6). -/
def execSetpwr (v : W32) (s : State) : Host.Outcome State Fault Refusal :=
  let limit := fld v.toNat 0 12
  s.command (decide (1200 ≤ limit) && decide (limit ≤ 3600)) fun s =>
    { s with mgmt := { s.mgmt with pwrctl := BitVec.ofNat 32 (fld v.toNat 0 18) } }

/-- ARMSPARE (R371): a compute rank of this module. -/
def execArmspare (rank : Rank) (spare : BitVec 4) (s : State) : Host.Outcome State Fault Refusal :=
  s.command (s.isLocal rank && isCompute (keyOf rank)) fun s =>
    let d := dieOf (keyOf rank)
    { s with sched := { s.sched with
      spares := s.sched.spares.set d { s.sched.spares[d] with armed := some (rank, spare) } } }

/-- RETRAIN: the supervisor of die 0 is asked; the port retrains when it commands that (R71). -/
def execRetrain (port : Fin 18) (s : State) : Host.Outcome State Fault Refusal :=
  s.command true fun s => { s with mgmt := { s.mgmt with retrainAsks := s.mgmt.retrainAsks ++ [port] } }

/-- The five counters of a die's ERT, in the order of R40. -/
def ErtCnt.at_ (c : ErtCnt) (j : Nat) : W32 :=
  [c.misses, c.pageins, c.units, c.evictions, c.exgetFaults].getD j 0

/-- READCTR: a counter of corrected errors (R372) by its number, or from 0x8000 the counters of the four dies' ERTs (R40, log 69). -/
def execReadctr (i : Nat) (s : State) : Host.Outcome State Fault Refusal :=
  let v := if 0x8000 ≤ i ∧ i < 0x8014 then (s.ert.cnt[Fin.ofNat 4 ((i - 0x8000) / 5)]).at_ ((i - 0x8000) % 5)
    else (s.mgmt.ctrs.find i).getD 0
  .next (s.reply (.value (v.setWidth 64)))

/-- RESETMOON (R371): the moon waits for its supervisor to release it. -/
def execResetmoon (moon : Fin 64) (s : State) : Host.Outcome State Fault Refusal :=
  s.command (s.moon moon.val).stopped fun s => s.modMoon moon.val fun m => { m with restarted := true }

/-! ### Attestation (R388) -/

/-- The transcript with a request and its response. -/
def State.record (s : State) (req rsp : List Byte) : State :=
  { s with mgmt := { s.mgmt with transcript := s.mgmt.transcript ++ req ++ rsp } }

/-- An unsigned response of a kind. -/
def State.spdm (s : State) (kind : Nat) (req body : List Byte) : State := (s.record req body).reply (.spdm kind body)

/-- A signed response: an ECDSA signature over the SHA-384 hash of the transcript up to it, which LMSSIG may sign again. It needs
the algorithms to be agreed. -/
def State.spdmSigned (s : State) (kind : Nat) (req body : List Byte) : State :=
  if s.mgmt.algo then
    let s1 := s.record req body
    let h := Config.sha384 s1.mgmt.transcript
    { s1 with mgmt := { s1.mgmt with lastSigned := some h } }.reply (.signed kind body (Config.ecdsaSign h))
  else s.reply .refused

/-- GET_VERSION starts a transcript. -/
def execGetVersion (req : List Byte) (s : State) : Host.Outcome State Fault Refusal :=
  .next ({ s with mgmt := { s.mgmt with transcript := [], algo := false } }.spdm 0x04 req (Config.spdmBody 0x04 req))

def execGetCapabilities (req : List Byte) (s : State) : Host.Outcome State Fault Refusal :=
  .next (s.spdm 0x61 req (Config.spdmBody 0x61 req))

/-- NEGOTIATE_ALGORITHMS: only ECDSA P-384 with SHA-384. -/
def execNegotiateAlgorithms (req : List Byte) (s : State) : Host.Outcome State Fault Refusal :=
  .next ({ s with mgmt := { s.mgmt with algo := Config.offersAlgorithms req } }.spdm 0x63 req (Config.spdmBody 0x63 req))

def execGetDigests (req : List Byte) (s : State) : Host.Outcome State Fault Refusal :=
  .next (s.spdm 0x01 req (Config.spdmBody 0x01 req))

def execGetCertificate (slot : Nat) (req : List Byte) (s : State) : Host.Outcome State Fault Refusal :=
  .next (s.spdm 0x02 req (Config.certChain slot))

def execChallenge (req : List Byte) (s : State) : Host.Outcome State Fault Refusal :=
  .next (s.spdmSigned 0x03 req (Config.spdmBody 0x03 req))

/-- The measurements of the module as it booted; before any boot no image and no record has been read. -/
def State.measurements (s : State) : List Byte :=
  let m (i : Nat) : List Byte := match s.mgmt.boot with
    | some b => Config.measurement i b.primary b.backup b.pkg
    | none => Config.measurement i [] [] 0
  (List.range 5).flatMap m

/-- GET_MEASUREMENTS: boot ROM version, both images, configuration record, fuses. -/
def execGetMeasurements (signed : Bool) (req : List Byte) (s : State) : Host.Outcome State Fault Refusal :=
  let body := s.measurements
  .next (if signed then s.spdmSigned 0x60 req body else s.spdm 0x60 req body)

/-- LMSSIG: an LMS signature over the transcript hash of the last signed response. -/
def execLmssig (_req : List Byte) (s : State) : Host.Outcome State Fault Refusal :=
  .next (match s.mgmt.lastSigned with
    | some h => s.reply (.lms (Config.lmsSign h))
    | none => s.reply .refused)

/-! ### Power (R390-R392) -/

/-- The pulses to swallow in every 64 periods at a package power. -/
def swallow (limit swmax watts : Nat) : Nat :=
  if watts ≤ limit then 0 else min swmax ((64 * (watts - limit) + watts - 1) / watts)

/-- POWER_WINDOW (R391): the measurement of a window of 1024 periods. -/
def execPowerWindow (watts : Nat) (s : State) : Host.Outcome State Fault Refusal :=
  let limit := fld s.mgmt.pwrctl.toNat 0 12
  let swmax := fld s.mgmt.pwrctl.toNat 12 6
  let n := swallow limit swmax watts
  let overs := if n = swmax ∧ limit < watts then s.mgmt.overs + 1 else 0
  let s1 := { s with mgmt := { s.mgmt with watts := watts, swallowed := n, overs := overs } }
  .next (if 1024 ≤ overs then s1.schedule s1.now switchKey .powerOver else s1)

/-- POWER_OVER (R391): 1,048,576 periods at `swmax` above the limit are reported, and the count starts again. -/
def execPowerOver (s : State) : Host.Outcome State Fault Refusal :=
  if s.mgmt.overs < 1024 then .next s
  else
    .next ({ s with mgmt := { s.mgmt with overs := 0 } }.reportEvent 0 (s.rankOf 306) 0x42 (s.mgmt.watts % 2 ^ 16))

/-- THERMTRIP (R392): a junction temperature; at 110 °C every clock stops. -/
def execThermtrip (tenthsC : Nat) (s : State) : Host.Outcome State Fault Refusal :=
  .next { s with mgmt := { s.mgmt with
    temp := tenthsC, trip := if 1100 ≤ tenthsC then some .temperature else s.mgmt.trip } }

/-- RAIL_FAULT (R390): a core rail outside 0.720 V to 0.780 V for more than 100 ns stops every clock. -/
def execRailFault (millivolts nanoseconds : Nat) (s : State) : Host.Outcome State Fault Refusal :=
  .next (if (millivolts < 720 ∨ 780 < millivolts) ∧ 100 < nanoseconds then
    { s with mgmt := { s.mgmt with trip := some .rail } } else s)

/-! ### Registers with no row of their own (R5, R6) -/

/-- A pair enabled anew starts at the head of its rings. -/
def Pair.configured (p : Pair) (v : Nat) : Pair :=
  let en := fld v 4 1 == 1
  let p := if p.en then p else { p with lsize := BitVec.ofNat 4 (fld v 0 4) }
  let p := { p with tail := BitVec.ofNat 12 (fld v 32 12) }
  if en && !p.en then { p with en := true, head := 0, cidx := 0, phase := false } else { p with en := en }

/-- REGISTER_WRITE: reserved bits stay 0; `hqsub`, `hqcpl` and lsize are ignored while the pair is enabled (R380). -/
def execRegisterWrite (r : RegName) (v : W64) (s : State) : Host.Outcome State Fault Refusal :=
  let x := v.toNat
  .next (match r with
    | .mastab moon i => s.modMoon moon.val fun m => { m with
        asid := m.asid.put i.val (BitVec.ofNat 64 (fld x 0 2 + 2 ^ 15 * fld x 15 25)) }
    | .srt i => { s with net := { s.net with srt := s.net.srt.put i.val (BitVec.ofNat 64 (fld x 0 41)) } }
    | .savepool d => { s with sched := { s.sched with savepool := s.sched.savepool.set d (BitVec.ofNat 32 (fld x 0 28)) } }
    | .hqsub q => if !s.hostUp || (s.pair q).en then s else s.setPair q { s.pair q with sub := v }
    | .hqcpl q => if !s.hostUp || (s.pair q).en then s else s.setPair q { s.pair q with cpl := v }
    | .hqcfg q => if !s.hostUp then s else (s.setPair q ((s.pair q).configured x)).hostServe)

end Sys2Proof.Machine
end

