-- ==== Sys2Proof/Machine/Scalar.lean ====
section
/-!
DEFINITION. The scalar instructions of the S slot (R302-R306).
-/

namespace Sys2Proof.Machine

/-! ### The functions -/

def mulHigh (u : Bool) (x y : W64) : W64 :=
  if u then ((x.setWidth 128 * y.setWidth 128) >>> 64).setWidth 64
  else ((x.signExtend 128 * y.signExtend 128) >>> 64).setWidth 64

/-- `div` (R305). -/
def divOf (u : Bool) (x y : W64) : W64 :=
  if y = 0 then BitVec.allOnes 64 else if u then x / y else x.sdiv y

/-- `rem` (R305). -/
def remOf (u : Bool) (x y : W64) : W64 := if y = 0 then x else if u then x % y else x.srem y

/-- The shifts of R304: the count is an unsigned 64-bit number. -/
def shlOf (x y : W64) : W64 := if 64 ≤ y.toNat then 0 else x <<< y.toNat
def shrOf (x y : W64) : W64 := if 64 ≤ y.toNat then 0 else x >>> y.toNat
def sraOf (x y : W64) : W64 := x.sshiftRight (min y.toNat 63)
def rotlOf (x y : W64) : W64 := x.rotateLeft (y.toNat % 64)

def ltOf (u : Bool) (x y : W64) : Bool := if u then x.ult y else x.slt y

def boolWord (b : Bool) : W64 := if b then 1 else 0

def clzOf (x : W64) : W64 := if x = 0 then 64 else BitVec.ofNat 64 (63 - x.toNat.log2)
def ctzOf (x : W64) : W64 := BitVec.ofNat 64 (((List.range 64).find? fun i => x.getLsbD i).getD 64)
def popcOf (x : Nat) : W64 := BitVec.ofNat 64 ((List.range 64).countP fun i => x.testBit i)

/-- The width in bits of `sext` and `zext` (R306). -/
def widBits : Wid → Nat
  | .n8 => 8
  | .n16 => 16
  | .n32 => 32

def sextOf (w : Wid) (x : W64) : W64 := BitVec.ofInt 64 (signExtend x.toNat (widBits w))
def zextOf (w : Wid) (x : W64) : W64 := BitVec.ofNat 64 (x.toNat % 2 ^ widBits w)

/-- The lane that `vext` takes: extended by the type (R306). -/
def vextOf (t : Ety) (x : W512) (k : W64) : W64 :=
  let v := x.toNat / 2 ^ (t.width * (k.toNat % (512 / t.width))) % 2 ^ t.width
  if t.isSigned then BitVec.ofInt 64 (signExtend v t.width) else BitVec.ofNat 64 v

/-! ### The shared forms -/

/-- A two-operand S-slot op: both operands at issue, the result `lat` cycles on (R181, R303). -/
def State.alu2 (s : State) (a : Attr) (lat : Nat) (d ra : Reg) (b : Opd) (f : W64 → W64 → W64) : Except Stop State := do
  let s ← s.popS ra
  let s ← s.popO b
  s.wrS a lat d (f (s.rdS ra) (s.rdO b))

/-- A one-operand S-slot op. -/
def State.alu1 (s : State) (a : Attr) (lat : Nat) (d ra : Reg) (f : W64 → W64) : Except Stop State := do
  let s ← s.popS ra
  s.wrS a lat d (f (s.rdS ra))

/-! ### The instructions -/

def execAdd (a : Attr) (d ra : Reg) (b : Opd) (s : State) : Host.Outcome State Fault Refusal :=
  finish s (s.alu2 a 1 d ra b fun x y => x + y)
def execSub (a : Attr) (d ra : Reg) (b : Opd) (s : State) : Host.Outcome State Fault Refusal :=
  finish s (s.alu2 a 1 d ra b fun x y => x - y)
def execMul (a : Attr) (d ra : Reg) (b : Opd) (s : State) : Host.Outcome State Fault Refusal :=
  finish s (s.alu2 a 3 d ra b fun x y => x * y)
def execMulh (a : Attr) (u : Bool) (d ra : Reg) (b : Opd) (s : State) : Host.Outcome State Fault Refusal :=
  finish s (s.alu2 a 3 d ra b (mulHigh u))
def execDiv (a : Attr) (u : Bool) (d ra : Reg) (b : Opd) (s : State) : Host.Outcome State Fault Refusal :=
  finish s (s.alu2 a 18 d ra b (divOf u))
def execRem (a : Attr) (u : Bool) (d ra : Reg) (b : Opd) (s : State) : Host.Outcome State Fault Refusal :=
  finish s (s.alu2 a 18 d ra b (remOf u))
def execAnd (a : Attr) (d ra : Reg) (b : Opd) (s : State) : Host.Outcome State Fault Refusal :=
  finish s (s.alu2 a 1 d ra b fun x y => x &&& y)
def execOr (a : Attr) (d ra : Reg) (b : Opd) (s : State) : Host.Outcome State Fault Refusal :=
  finish s (s.alu2 a 1 d ra b fun x y => x ||| y)
def execXor (a : Attr) (d ra : Reg) (b : Opd) (s : State) : Host.Outcome State Fault Refusal :=
  finish s (s.alu2 a 1 d ra b fun x y => x ^^^ y)
def execAndn (a : Attr) (d ra : Reg) (b : Opd) (s : State) : Host.Outcome State Fault Refusal :=
  finish s (s.alu2 a 1 d ra b fun x y => x &&& ~~~y)
def execShl (a : Attr) (d ra : Reg) (b : Opd) (s : State) : Host.Outcome State Fault Refusal :=
  finish s (s.alu2 a 1 d ra b shlOf)
def execShr (a : Attr) (d ra : Reg) (b : Opd) (s : State) : Host.Outcome State Fault Refusal :=
  finish s (s.alu2 a 1 d ra b shrOf)
def execSra (a : Attr) (d ra : Reg) (b : Opd) (s : State) : Host.Outcome State Fault Refusal :=
  finish s (s.alu2 a 1 d ra b sraOf)
def execRotl (a : Attr) (d ra : Reg) (b : Opd) (s : State) : Host.Outcome State Fault Refusal :=
  finish s (s.alu2 a 1 d ra b rotlOf)
def execMin (a : Attr) (u : Bool) (d ra : Reg) (b : Opd) (s : State) : Host.Outcome State Fault Refusal :=
  finish s (s.alu2 a 1 d ra b fun x y => if ltOf u y x then y else x)
def execMax (a : Attr) (u : Bool) (d ra : Reg) (b : Opd) (s : State) : Host.Outcome State Fault Refusal :=
  finish s (s.alu2 a 1 d ra b fun x y => if ltOf u x y then y else x)
def execSlt (a : Attr) (u : Bool) (d ra : Reg) (b : Opd) (s : State) : Host.Outcome State Fault Refusal :=
  finish s (s.alu2 a 1 d ra b fun x y => boolWord (ltOf u x y))
def execSeq (a : Attr) (d ra : Reg) (b : Opd) (s : State) : Host.Outcome State Fault Refusal :=
  finish s (s.alu2 a 1 d ra b fun x y => boolWord (x == y))
def execSne (a : Attr) (d ra : Reg) (b : Opd) (s : State) : Host.Outcome State Fault Refusal :=
  finish s (s.alu2 a 1 d ra b fun x y => boolWord (x != y))
def execAddsh (a : Attr) (k : BitVec 6) (d ra : Reg) (b : Opd) (s : State) : Host.Outcome State Fault Refusal :=
  finish s (s.alu2 a 1 d ra b fun x y => x + y <<< k.toNat)

/-- `sel`: a if c is not 0, else b (R304). -/
def execSel (a : Attr) (d ra rb rc : Reg) (s : State) : Host.Outcome State Fault Refusal :=
  finish s do
    let s ← s.popS ra
    let s ← s.popS rb
    let s ← s.popS rc
    s.wrS a 1 d (if s.rdS rc != 0 then s.rdS ra else s.rdS rb)

def execClz (a : Attr) (d ra : Reg) (s : State) : Host.Outcome State Fault Refusal := finish s (s.alu1 a 1 d ra clzOf)
def execCtz (a : Attr) (d ra : Reg) (s : State) : Host.Outcome State Fault Refusal := finish s (s.alu1 a 1 d ra ctzOf)
def execPopc (a : Attr) (d ra : Reg) (s : State) : Host.Outcome State Fault Refusal :=
  finish s (s.alu1 a 1 d ra fun x => popcOf x.toNat)
def execMov (a : Attr) (d ra : Reg) (s : State) : Host.Outcome State Fault Refusal :=
  finish s (s.alu1 a 1 d ra fun x => x)
def execSext (a : Attr) (w : Wid) (d ra : Reg) (s : State) : Host.Outcome State Fault Refusal :=
  finish s (s.alu1 a 1 d ra (sextOf w))
def execZext (a : Attr) (w : Wid) (d ra : Reg) (s : State) : Host.Outcome State Fault Refusal :=
  finish s (s.alu1 a 1 d ra (zextOf w))

def execLi (a : Attr) (n : Bool) (d : Reg) (imm : W32) (s : State) : Host.Outcome State Fault Refusal :=
  finish s (s.wrS a 1 d (if n then imm.setWidth 64 else imm.signExtend 64))

/-- `lih` reads its destination (R306). -/
def execLih (a : Attr) (d : Reg) (imm : W32) (s : State) : Host.Outcome State Fault Refusal :=
  finish s (s.wrS a 1 d (imm ++ (s.rdS d).setWidth 32))

def execMpop (a : Attr) (w : MWid) (d ma : Reg) (s : State) : Host.Outcome State Fault Refusal :=
  finish s (s.wrS a 1 d (popcOf (maskLow w (s.rdM ma))))

/-- `mfirst`: the lowest set bit, or n if there is none (R306). -/
def execMfirst (a : Attr) (w : MWid) (d ma : Reg) (s : State) : Host.Outcome State Fault Refusal :=
  finish s (s.wrS a 1 d
    (BitVec.ofNat 64 (((List.range (MWid.bits w)).find? fun i => (s.rdM ma).getLsbD i).getD (MWid.bits w))))

def execVext (a : Attr) (t : Ety) (d va : Reg) (b : Opd) (s : State) : Host.Outcome State Fault Refusal :=
  finish s do
    let s ← s.popV va
    let s ← s.popO b
    s.wrS a 3 d (vextOf t (s.rdV t.width va) (s.rdO b))

end Sys2Proof.Machine
end

