-- ==== Sys2Proof/Machine/Dispatch.lean ====
section
/-!
DEFINITION. One arm for each instruction: a direct call of its meaning.
-/

namespace Sys2Proof.Machine

/-- The meaning of each instruction. -/
def exec (i : Instr) (s : State) : Host.Outcome State Fault Refusal :=
  match i with
  | .read a d sa sb => Sys2Proof.Machine.execRead a d sa sb s
  | .config a d sa sb => Sys2Proof.Machine.execConfig a d sa sb s
  | .pagein a d sa sb => Sys2Proof.Machine.execPagein a d sa sb s
  | .evict a d sa sb => Sys2Proof.Machine.execEvict a d sa sb s
  | .pin a d sa sb => Sys2Proof.Machine.execPin a d sa sb s
  | .unpin a d sa sb => Sys2Proof.Machine.execUnpin a d sa sb s
  | .discard a d sa sb => Sys2Proof.Machine.execDiscard a d sa sb s
  | .pageinRetry expert => Sys2Proof.Machine.execPageinRetry expert s
  | .farUnitTransfer engine => Sys2Proof.Machine.execFarUnitTransfer engine s
  | .pageinComplete engine => Sys2Proof.Machine.execPageinComplete engine s
  | .pageinFailed engine unit => Sys2Proof.Machine.execPageinFailed engine unit s
  | .readerLimitRetry die expert => Sys2Proof.Machine.execReaderLimitRetry die expert s
  | .noVictim expert => Sys2Proof.Machine.execNoVictim expert s
  | .mreq p => Sys2Proof.Machine.execMreq p s
  | .translationWalk moon id => Sys2Proof.Machine.execTranslationWalk moon id s
  | .moonGet moon id => Sys2Proof.Machine.execMoonGet moon id s
  | .moonPut moon id => Sys2Proof.Machine.execMoonPut moon id s
  | .moonAdd moon id => Sys2Proof.Machine.execMoonAdd moon id s
  | .moonSmin moon id => Sys2Proof.Machine.execMoonSmin moon id s
  | .moonUmin moon id => Sys2Proof.Machine.execMoonUmin moon id s
  | .moonSmax moon id => Sys2Proof.Machine.execMoonSmax moon id s
  | .moonUmax moon id => Sys2Proof.Machine.execMoonUmax moon id s
  | .moonXchg moon id => Sys2Proof.Machine.execMoonXchg moon id s
  | .moonCas moon id => Sys2Proof.Machine.execMoonCas moon id s
  | .moonIngressRetry p => Sys2Proof.Machine.execMoonIngressRetry p s
  | .switchDieForward p => Sys2Proof.Machine.execSwitchDieForward p s
  | .eager p => Sys2Proof.Machine.execEager p s
  | .rts p => Sys2Proof.Machine.execRts p s
  | .pull p => Sys2Proof.Machine.execPull p s
  | .rdata p => Sys2Proof.Machine.execRdata p s
  | .accept p => Sys2Proof.Machine.execAccept p s
  | .keephdr p => Sys2Proof.Machine.execKeephdr p s
  | .held p => Sys2Proof.Machine.execHeld p s
  | .fin p => Sys2Proof.Machine.execFin p s
  | .refuse p => Sys2Proof.Machine.execRefuse p s
  | .hamperCopyDone xid => Sys2Proof.Machine.execHamperCopyDone xid s
  | .mrsp p => Sys2Proof.Machine.execMrsp p s
  | .rcontrib pt p => Sys2Proof.Machine.execRcontrib pt p s
  | .dieCombineTimeout die key => Sys2Proof.Machine.execDieCombineTimeout die key s
  | .memberSwitchTimeout key => Sys2Proof.Machine.execMemberSwitchTimeout key s
  | .slotTimeout key => Sys2Proof.Machine.execSlotTimeout key s
  | .slotWait key => Sys2Proof.Machine.execSlotWait key s
  | .keylistExpire key => Sys2Proof.Machine.execKeylistExpire key s
  | .rresult p => Sys2Proof.Machine.execRresult p s
  | .rresultResend p => Sys2Proof.Machine.execRresultResend p s
  | .brpred pt p => Sys2Proof.Machine.execBrpred pt p s
  | .brresult p => Sys2Proof.Machine.execBrresult p s
  | .e2eack p => Sys2Proof.Machine.execE2eack p s
  | .close p => Sys2Proof.Machine.execClose p s
  | .closeack p => Sys2Proof.Machine.execCloseack p s
  | .e2eRetransmitTimeout src dst => Sys2Proof.Machine.execE2eRetransmitTimeout src dst s
  | .e2ePeerEntryTake src => Sys2Proof.Machine.execE2ePeerEntryTake src s
  | .e2eAbandon p => Sys2Proof.Machine.execE2eAbandon p s
  | .chnelem p => Sys2Proof.Machine.execChnelem p s
  | .chncredit p => Sys2Proof.Machine.execChncredit p s
  | .channelInject entry => Sys2Proof.Machine.execChannelInject entry s
  | .slotViolation entry => Sys2Proof.Machine.execSlotViolation entry s
  | .linkTimeout port => Sys2Proof.Machine.execLinkTimeout port s
  | .replayBufferDrop port => Sys2Proof.Machine.execReplayBufferDrop port s
  | .matrixPipeOpStart p => Sys2Proof.Machine.execMatrixPipeOpStart p s
  | .matrixPipeOpComplete p => Sys2Proof.Machine.execMatrixPipeOpComplete p s
  | .tbarRelease die group => Sys2Proof.Machine.execTbarRelease die group s
  | .joinFormTimeout home group => Sys2Proof.Machine.execJoinFormTimeout home group s
  | .groupJoinRegister rank word => Sys2Proof.Machine.execGroupJoinRegister rank word s
  | .schedulerPick sched => Sys2Proof.Machine.execSchedulerPick sched s
  | .gangPlace handle => Sys2Proof.Machine.execGangPlace handle s
  | .gangComplete handle => Sys2Proof.Machine.execGangComplete handle s
  | .recqRecordsEnter die q => Sys2Proof.Machine.execRecqRecordsEnter die q s
  | .roundClose die q => Sys2Proof.Machine.execRoundClose die q s
  | .rowAreaWrite die q => Sys2Proof.Machine.execRowAreaWrite die q s
  | .batchDelivery die q rank => Sys2Proof.Machine.execBatchDelivery die q rank s
  | .gangResume handle => Sys2Proof.Machine.execGangResume handle s
  | .csrwFmt a sa => Sys2Proof.Machine.execCsrwFmt a sa s
  | .csrwEagerlim a sa => Sys2Proof.Machine.execCsrwEagerlim a sa s
  | .csrwCbrto a sa => Sys2Proof.Machine.execCsrwCbrto a sa s
  | .nop a => Sys2Proof.Machine.execNop a s
  | .br a target => Sys2Proof.Machine.execBr a target s
  | .brIndirect a sa => Sys2Proof.Machine.execBrIndirect a sa s
  | .bz a sa target => Sys2Proof.Machine.execBz a sa target s
  | .bnz a sa target => Sys2Proof.Machine.execBnz a sa target s
  | .bm a cc w ma target => Sys2Proof.Machine.execBm a cc w ma target s
  | .call a d target => Sys2Proof.Machine.execCall a d target s
  | .callIndirect a d sa => Sys2Proof.Machine.execCallIndirect a d sa s
  | .ret a sa => Sys2Proof.Machine.execRet a sa s
  | .loop a len count => Sys2Proof.Machine.execLoop a len count s
  | .loopScalar a len sc => Sys2Proof.Machine.execLoopScalar a len sc s
  | .loopQ1 a len => Sys2Proof.Machine.execLoopQ1 a len s
  | .lstr a d sa => Sys2Proof.Machine.execLstr a d sa s
  | .lstrImm a d imm => Sys2Proof.Machine.execLstrImm a d imm s
  | .lbrk a => Sys2Proof.Machine.execLbrk a s
  | .lbrkZ a sa => Sys2Proof.Machine.execLbrkZ a sa s
  | .lbrkNz a sa => Sys2Proof.Machine.execLbrkNz a sa s
  | .cbrAny a gm p hint target => Sys2Proof.Machine.execCbrAny a gm p hint target s
  | .cbrAll a gm p hint target => Sys2Proof.Machine.execCbrAll a gm p hint target s
  | .hwin a => Sys2Proof.Machine.execHwin a s
  | .fmt a sa => Sys2Proof.Machine.execFmt a sa s
  | .fmtImm a v => Sys2Proof.Machine.execFmtImm a v s
  | .uliret a => Sys2Proof.Machine.execUliret a s
  | .trap a code => Sys2Proof.Machine.execTrap a code s
  | .halt a => Sys2Proof.Machine.execHalt a s
  | .csrr a d n => Sys2Proof.Machine.execCsrr a d n s
  | .csrw a n sa => Sys2Proof.Machine.execCsrw a n sa s
  | .fenceEng a => Sys2Proof.Machine.execFenceEng a s
  | .fenceMoon a => Sys2Proof.Machine.execFenceMoon a s
  | .fenceAll a => Sys2Proof.Machine.execFenceAll a s
  | .tbar a gm => Sys2Proof.Machine.execTbar a gm s
  | .eret a sa => Sys2Proof.Machine.execEret a sa s
  | .add a d ra b => Sys2Proof.Machine.execAdd a d ra b s
  | .sub a d ra b => Sys2Proof.Machine.execSub a d ra b s
  | .mul a d ra b => Sys2Proof.Machine.execMul a d ra b s
  | .mulh a u d ra b => Sys2Proof.Machine.execMulh a u d ra b s
  | .div a u d ra b => Sys2Proof.Machine.execDiv a u d ra b s
  | .rem a u d ra b => Sys2Proof.Machine.execRem a u d ra b s
  | .and a d ra b => Sys2Proof.Machine.execAnd a d ra b s
  | .or a d ra b => Sys2Proof.Machine.execOr a d ra b s
  | .xor a d ra b => Sys2Proof.Machine.execXor a d ra b s
  | .andn a d ra b => Sys2Proof.Machine.execAndn a d ra b s
  | .shl a d ra b => Sys2Proof.Machine.execShl a d ra b s
  | .shr a d ra b => Sys2Proof.Machine.execShr a d ra b s
  | .sra a d ra b => Sys2Proof.Machine.execSra a d ra b s
  | .rotl a d ra b => Sys2Proof.Machine.execRotl a d ra b s
  | .min a u d ra b => Sys2Proof.Machine.execMin a u d ra b s
  | .max a u d ra b => Sys2Proof.Machine.execMax a u d ra b s
  | .slt a u d ra b => Sys2Proof.Machine.execSlt a u d ra b s
  | .seq a d ra b => Sys2Proof.Machine.execSeq a d ra b s
  | .sne a d ra b => Sys2Proof.Machine.execSne a d ra b s
  | .sel a d ra rb rc => Sys2Proof.Machine.execSel a d ra rb rc s
  | .clz a d ra => Sys2Proof.Machine.execClz a d ra s
  | .ctz a d ra => Sys2Proof.Machine.execCtz a d ra s
  | .popc a d ra => Sys2Proof.Machine.execPopc a d ra s
  | .li a n d imm => Sys2Proof.Machine.execLi a n d imm s
  | .lih a d imm => Sys2Proof.Machine.execLih a d imm s
  | .mov a d ra => Sys2Proof.Machine.execMov a d ra s
  | .addsh a k d ra b => Sys2Proof.Machine.execAddsh a k d ra b s
  | .sext a w d ra => Sys2Proof.Machine.execSext a w d ra s
  | .zext a w d ra => Sys2Proof.Machine.execZext a w d ra s
  | .mpop a w d ma => Sys2Proof.Machine.execMpop a w d ma s
  | .mfirst a w d ma => Sys2Proof.Machine.execMfirst a w d ma s
  | .vext a t d va b => Sys2Proof.Machine.execVext a t d va b s
  | .vldq a sa off => Sys2Proof.Machine.execVldq a sa off s
  | .vldqg a w sa vi => Sys2Proof.Machine.execVldqg a w sa vi s
  | .vst a sa vd off => Sys2Proof.Machine.execVst a sa vd off s
  | .vstm a w sa vd off => Sys2Proof.Machine.execVstm a w sa vd off s
  | .vsts a w sa vi vd => Sys2Proof.Machine.execVsts a w sa vi vd s
  | .sld a size signed d sa off => Sys2Proof.Machine.execSld a size signed d sa off s
  | .sst a size sa sd off => Sys2Proof.Machine.execSst a size sa sd off s
  | .cset a k sa => Sys2Proof.Machine.execCset a k sa s
  | .cgo a d => Sys2Proof.Machine.execCgo a d s
  | .send a t gm uli d sr sb => Sys2Proof.Machine.execSend a t gm uli d sr sb s
  | .ssend a t gm uli d sr sb => Sys2Proof.Machine.execSsend a t gm uli d sr sb s
  | .recv a gm uli d sr sb sm => Sys2Proof.Machine.execRecv a gm uli d sr sb sm s
  | .probe a gm d sr sm => Sys2Proof.Machine.execProbe a gm d sr sm s
  | .cancel a d sx => Sys2Proof.Machine.execCancel a d sx s
  | .mget a uli d sv sb sm => Sys2Proof.Machine.execMget a uli d sv sb sm s
  | .mput a uli d sv sb sm => Sys2Proof.Machine.execMput a uli d sv sb sm s
  | .matom a op wide uli d sa => Sys2Proof.Machine.execMatom a op wide uli d sa s
  | .exget a uli d se sb so => Sys2Proof.Machine.execExget a uli d se sb so s
  | .sendc a k sa => Sys2Proof.Machine.execSendc a k sa s
  | .recvc a k d sa => Sys2Proof.Machine.execRecvc a k d sa s
  | .recvac a k d sa => Sys2Proof.Machine.execRecvac a k d sa s
  | .chld a k d sa => Sys2Proof.Machine.execChld a k d sa s
  | .sendr a op wide gm uli d sb si => Sys2Proof.Machine.execSendr a op wide gm uli d sb si s
  | .recvr a gm uli d sb si => Sys2Proof.Machine.execRecvr a gm uli d sb si s
  | .xtst a d sx sm => Sys2Proof.Machine.execXtst a d sx sm s
  | .xwait a sx sm => Sys2Proof.Machine.execXwait a sx sm s
  | .xinfo a hi d sx => Sys2Proof.Machine.execXinfo a hi d sx s
  | .xfree a sx => Sys2Proof.Machine.execXfree a sx s
  | .join a gm uli d sg => Sys2Proof.Machine.execJoin a gm uli d sg s
  | .leave a gm uli d => Sys2Proof.Machine.execLeave a gm uli d s
  | .gbar a gm uli d si => Sys2Proof.Machine.execGbar a gm uli d si s
  | .launch a uli d sa => Sys2Proof.Machine.execLaunch a uli d sa s
  | .recq a q uli d sb => Sys2Proof.Machine.execRecq a q uli d sb s
  | .rclose a q uli d => Sys2Proof.Machine.execRclose a q uli d s
  | .mma a acc wbuf sa => Sys2Proof.Machine.execMma a acc wbuf sa s
  | .mmaw a acc wbuf gs sa => Sys2Proof.Machine.execMmaw a acc wbuf gs sa s
  | .wld a wbuf gs sa => Sys2Proof.Machine.execWld a wbuf gs sa s
  | .mzero a acc => Sys2Proof.Machine.execMzero a acc s
  | .mld a acc sa => Sys2Proof.Machine.execMld a acc sa s
  | .mst a acc sa => Sys2Proof.Machine.execMst a acc sa s
  | .lclr a sa => Sys2Proof.Machine.execLclr a sa s
  | .ladd a bf sa vb => Sys2Proof.Machine.execLadd a bf sa vb s
  | .lmadd a bf sa vb vc => Sys2Proof.Machine.execLmadd a bf sa vb vc s
  | .lmerge a sa sb => Sys2Proof.Machine.execLmerge a sa sb s
  | .lrnd a bf clr d sa => Sys2Proof.Machine.execLrnd a bf clr d sa s
  | .vadd a t sat d va vb => Sys2Proof.Machine.execVadd a t sat d va vb s
  | .vsub a t sat d va vb => Sys2Proof.Machine.execVsub a t sat d va vb s
  | .vmul a t sat d va vb => Sys2Proof.Machine.execVmul a t sat d va vb s
  | .vfma a t sat d va vb vc => Sys2Proof.Machine.execVfma a t sat d va vb vc s
  | .vfms a t sat d va vb vc => Sys2Proof.Machine.execVfms a t sat d va vb vc s
  | .vfnma a t sat d va vb vc => Sys2Proof.Machine.execVfnma a t sat d va vb vc s
  | .vmin a t d va vb => Sys2Proof.Machine.execVmin a t d va vb s
  | .vmax a t d va vb => Sys2Proof.Machine.execVmax a t d va vb s
  | .vabs a t sat d va => Sys2Proof.Machine.execVabs a t sat d va s
  | .vneg a t sat d va => Sys2Proof.Machine.execVneg a t sat d va s
  | .vand a t d va vb => Sys2Proof.Machine.execVand a t d va vb s
  | .vor a t d va vb => Sys2Proof.Machine.execVor a t d va vb s
  | .vxor a t d va vb => Sys2Proof.Machine.execVxor a t d va vb s
  | .vandn a t d va vb => Sys2Proof.Machine.execVandn a t d va vb s
  | .vshl a t d va vb => Sys2Proof.Machine.execVshl a t d va vb s
  | .vshlImm a t c d va => Sys2Proof.Machine.execVshlImm a t c d va s
  | .vshr a t d va vb => Sys2Proof.Machine.execVshr a t d va vb s
  | .vshrImm a t c d va => Sys2Proof.Machine.execVshrImm a t c d va s
  | .vsra a t d va vb => Sys2Proof.Machine.execVsra a t d va vb s
  | .vsraImm a t c d va => Sys2Proof.Machine.execVsraImm a t c d va s
  | .vcmp a cc t d va vb => Sys2Proof.Machine.execVcmp a cc t d va vb s
  | .vclass a t set d va => Sys2Proof.Machine.execVclass a t set d va s
  | .vsel a t d va vb => Sys2Proof.Machine.execVsel a t d va vb s
  | .vmov a t d va => Sys2Proof.Machine.execVmov a t d va s
  | .vbcast a t d sa => Sys2Proof.Machine.execVbcast a t d sa s
  | .vins a t k d va sb => Sys2Proof.Machine.execVins a t k d va sb s
  | .vidx a t d sa sb => Sys2Proof.Machine.execVidx a t d sa sb s
  | .vperm a t d va vi => Sys2Proof.Machine.execVperm a t d va vi s
  | .vshuf a t d va vb vi => Sys2Proof.Machine.execVshuf a t d va vb vi s
  | .vrot a t d va sk => Sys2Proof.Machine.execVrot a t d va sk s
  | .vcvt a dt st isat d va => Sys2Proof.Machine.execVcvt a dt st isat d va s
  | .vpack a dt st isat d va vb => Sys2Proof.Machine.execVpack a dt st isat d va vb s
  | .vunpack a dt st hi d va => Sys2Proof.Machine.execVunpack a dt st hi d va s
  | .vredadd a t sat d va => Sys2Proof.Machine.execVredadd a t sat d va s
  | .vredmax a t d va => Sys2Proof.Machine.execVredmax a t d va s
  | .vredmin a t d va => Sys2Proof.Machine.execVredmin a t d va s
  | .vscale a t d va vb => Sys2Proof.Machine.execVscale a t d va vb s
  | .vround a rm t d va => Sys2Proof.Machine.execVround a rm t d va s
  | .vrcp a d va => Sys2Proof.Machine.execVrcp a d va s
  | .vrsq a d va => Sys2Proof.Machine.execVrsq a d va s
  | .vexp2 a d va => Sys2Proof.Machine.execVexp2 a d va s
  | .vlog2 a d va => Sys2Proof.Machine.execVlog2 a d va s
  | .vtanh a d va => Sys2Proof.Machine.execVtanh a d va s
  | .vsigm a d va => Sys2Proof.Machine.execVsigm a d va s
  | .vrcpr a d vx vy => Sys2Proof.Machine.execVrcpr a d vx vy s
  | .vrsqr a d vx vy => Sys2Proof.Machine.execVrsqr a d vx vy s
  | .vtopk a k d va vb vc => Sys2Proof.Machine.execVtopk a k d va vb vc s
  | .vgate a k d va => Sys2Proof.Machine.execVgate a k d va s
  | .vhist a half d va vb sc => Sys2Proof.Machine.execVhist a half d va vb sc s
  | .mand a d ma mb => Sys2Proof.Machine.execMand a d ma mb s
  | .mor a d ma mb => Sys2Proof.Machine.execMor a d ma mb s
  | .mxor a d ma mb => Sys2Proof.Machine.execMxor a d ma mb s
  | .mandn a d ma mb => Sys2Proof.Machine.execMandn a d ma mb s
  | .mnot a d ma => Sys2Proof.Machine.execMnot a d ma s
  | .mmov a d ma => Sys2Proof.Machine.execMmov a d ma s
  | .mset a d sa => Sys2Proof.Machine.execMset a d sa s
  | .msetLo a d n => Sys2Proof.Machine.execMsetLo a d n s
  | .mfromv a t sign d va => Sys2Proof.Machine.execMfromv a t sign d va s
  | .tctl a d sa sb sc => Sys2Proof.Machine.execTctl a d sa sb sc s
  | .loadDeliver => Sys2Proof.Machine.execLoadDeliver s
  | .copy => Sys2Proof.Machine.execCopy s
  | .fill => Sys2Proof.Machine.execFill s
  | .transpose => Sys2Proof.Machine.execTranspose s
  | .gather => Sys2Proof.Machine.execGather s
  | .scatter => Sys2Proof.Machine.execScatter s
  | .copyWorksetDone => Sys2Proof.Machine.execCopyWorksetDone s
  | .uliEntry => Sys2Proof.Machine.execUliEntry s
  | .fmtDelayExpire => Sys2Proof.Machine.execFmtDelayExpire s
  | .resultWriteback => Sys2Proof.Machine.execResultWriteback s
  | .deferredTrapTake => Sys2Proof.Machine.execDeferredTrapTake s
  | .cbrResolve => Sys2Proof.Machine.execCbrResolve s
  | .cbrtoExpire => Sys2Proof.Machine.execCbrtoExpire s
  | .preemptHalt => Sys2Proof.Machine.execPreemptHalt s
  | .saveImageWrite => Sys2Proof.Machine.execSaveImageWrite s
  | .refusedResend => Sys2Proof.Machine.execRefusedResend s
  | .hostLaunch => Sys2Proof.Machine.execHostLaunch s
  | .hostDctr => Sys2Proof.Machine.execHostDctr s
  | .hostAbort => Sys2Proof.Machine.execHostAbort s
  | .hostSend => Sys2Proof.Machine.execHostSend s
  | .hostRecv => Sys2Proof.Machine.execHostRecv s
  | .hostCancel => Sys2Proof.Machine.execHostCancel s
  | .hostHwin => Sys2Proof.Machine.execHostHwin s
  | .tlbinvComplete => Sys2Proof.Machine.execTlbinvComplete s
  | .waitqRelease => Sys2Proof.Machine.execWaitqRelease s
  | .waitqRefill => Sys2Proof.Machine.execWaitqRefill s
  | .reportEnqueue => Sys2Proof.Machine.execReportEnqueue s
  | .pageinSlotChoice => Sys2Proof.Machine.execPageinSlotChoice s
  | .pageinEngineStart => Sys2Proof.Machine.execPageinEngineStart s
  | .slotAllocateWaiting => Sys2Proof.Machine.execSlotAllocateWaiting s
  | .poolRegisterWrite die reg v => Sys2Proof.Machine.execPoolRegisterWrite die reg v s
  | .mtrctlWrite moon v => Sys2Proof.Machine.execMtrctlWrite moon v s
  | .traceEntryRead moon ix => Sys2Proof.Machine.execTraceEntryRead moon ix s
  | .tlbinv moon scope => Sys2Proof.Machine.execTlbinv moon scope s
  | .moonStop moon structure_ => Sys2Proof.Machine.execMoonStop moon structure_ s
  | .e2ectlWrite rank v => Sys2Proof.Machine.execE2ectlWrite rank v s
  | .e2edupRead rank => Sys2Proof.Machine.execE2edupRead rank s
  | .e2eretxRead rank => Sys2Proof.Machine.execE2eretxRead rank s
  | .rstoWrite v => Sys2Proof.Machine.execRstoWrite v s
  | .redlateRead => Sys2Proof.Machine.execRedlateRead s
  | .data port f => Sys2Proof.Machine.execData port f s
  | .idle port f => Sys2Proof.Machine.execIdle port f s
  | .nak port f => Sys2Proof.Machine.execNak port f s
  | .train port f => Sys2Proof.Machine.execTrain port f s
  | .linkUp port => Sys2Proof.Machine.execLinkUp port s
  | .lossOfLock port => Sys2Proof.Machine.execLossOfLock port s
  | .dctrWrite ix v => Sys2Proof.Machine.execDctrWrite ix v s
  | .hostDoorbell q tail => Sys2Proof.Machine.execHostDoorbell q tail s
  | .powerOn b => Sys2Proof.Machine.execPowerOn b s
  | .status => Sys2Proof.Machine.execStatus s
  | .setpkg pkg => Sys2Proof.Machine.execSetpkg pkg s
  | .sethamp base size => Sys2Proof.Machine.execSethamp base size s
  | .setpwr v => Sys2Proof.Machine.execSetpwr v s
  | .armspare rank spare => Sys2Proof.Machine.execArmspare rank spare s
  | .retrain port => Sys2Proof.Machine.execRetrain port s
  | .readctr ix => Sys2Proof.Machine.execReadctr ix s
  | .resetmoon moon => Sys2Proof.Machine.execResetmoon moon s
  | .getVersion req => Sys2Proof.Machine.execGetVersion req s
  | .getCapabilities req => Sys2Proof.Machine.execGetCapabilities req s
  | .negotiateAlgorithms req => Sys2Proof.Machine.execNegotiateAlgorithms req s
  | .getDigests req => Sys2Proof.Machine.execGetDigests req s
  | .getCertificate slot req => Sys2Proof.Machine.execGetCertificate slot req s
  | .challenge req => Sys2Proof.Machine.execChallenge req s
  | .getMeasurements signed req => Sys2Proof.Machine.execGetMeasurements signed req s
  | .lmssig req => Sys2Proof.Machine.execLmssig req s
  | .powerWindow watts => Sys2Proof.Machine.execPowerWindow watts s
  | .powerOver => Sys2Proof.Machine.execPowerOver s
  | .thermtrip tenthsC => Sys2Proof.Machine.execThermtrip tenthsC s
  | .railFault millivolts nanoseconds => Sys2Proof.Machine.execRailFault millivolts nanoseconds s
  | .registerWrite r v => Sys2Proof.Machine.execRegisterWrite r v s
  | .reportQueueTake die => Sys2Proof.Machine.execReportQueueTake die s
  | .portRetrainCommand port => Sys2Proof.Machine.execPortRetrainCommand port s
  | .moonRelease moon => Sys2Proof.Machine.execMoonRelease moon s
  | .state rank => Sys2Proof.Machine.execState rank s
  | .resume rank => Sys2Proof.Machine.execResume rank s
  | .expel rank gm => Sys2Proof.Machine.execExpel rank gm s
  | .preempt rank => Sys2Proof.Machine.execPreempt rank s
  | .mapspare rank spare => Sys2Proof.Machine.execMapspare rank spare s
  | .wrcsr rank n v => Sys2Proof.Machine.execWrcsr rank n v s
  | .rdcsr rank n => Sys2Proof.Machine.execRdcsr rank n s
  | .trapTake rank c tval => Sys2Proof.Machine.execTrapTake rank c tval s

end Sys2Proof.Machine
end

