-- ==== Sys2Proof/Machine/Input.lean ====
section
/-!
DEFINITION. What comes from outside with a cycle of its own (log 72): the errors that the codes of R372 find, and packets from the Ultra
Ethernet ports (R76).
-/

namespace Sys2Proof.Machine

/-- A counter of corrected errors, which saturates (R372). -/
def State.countCorrected (s : State) (i : Nat) : State :=
  { s with mgmt := { s.mgmt with ctrs := s.mgmt.ctrs.put i (sat32 ((s.mgmt.ctrs.find i).getD 0)) } }

/-- A list with an item, once. -/
def addOnce {α : Type} [DecidableEq α] (l : List α) (x : α) : List α := if x ∈ l then l else x :: l

/-- The die whose supervisor hears of an entry's error: the die of a wait queue, die 0 for what the module has once. -/
def entryDie (kind index : Nat) : Fin 4 := if kind = 1 then Fin.ofNat 4 (index / 8192) else 0

/-- The rank of the tile at whose router a packet stands, or its source's where it stands at none. -/
def State.routerRank (s : State) (x : Transit) : Rank :=
  match x.path with
  | .out d row col _ :: _ => s.rankOf (d * 1024 + 16 * row + col)
  | _ => x.pkt.src

/-- A packet on its way with a word of its payload marked. -/
def Transit.mark (w : Nat) (x : Transit) : Transit :=
  let p := { x.pkt with bad := addOnce x.pkt.bad w }
  { x with
    pkt := p
    ev := match x.ev with
      | .switchDieForward _ => .switchDieForward p
      | e => (pktEvent p).getD e }

/-- One input takes effect. An entry that is in error is frozen and reported (0x41); a packet whose routing header is in error is
discarded and reported (0x40); a word of a packet's data is delivered marked (R372). -/
def State.takeInput (s : State) : Input → State
  | .corrected i => s.countCorrected i
  | .scratch k w second =>
    s.modTile k fun t => { t with spmBad := setBad t.spmBad (w / 16 * 16 + if second then 0x100000 else 0) true }
  | .line k n => s.modTile k fun t => { t with imemBad := addOnce t.imemBad n }
  | .entry k code => s.modTile k fun t => { t with bad := addOnce t.bad code }
  | .hbm a => { s with hbmBad := addOnce s.hbmBad a }
  | .far u => { s with farBad := addOnce s.farBad u }
  | .frozen kind i =>
    let d := entryDie kind i
    { s with frozen := addOnce s.frozen (kind, i) }.reportEvent d (s.svRank d) 0x41 (kind + 2 ^ 16 * (i % 8192))
  | .flit i w => { s with net := { s.net with transit := s.net.transit.modify i (Transit.mark w) } }
  | .header i =>
    match s.net.transit[i]? with
    | none => s
    | some x =>
      let r := s.routerRank x
      let d := dieOf (keyOf r)
      ({ s with net := { s.net with transit := s.net.transit.erase x } } : State).reportEvent d (s.svRank d) 0x40 r.toNat
  | .link l => s.linkError l
  | .packet _ p => s.takeIn p

/-- The inputs that are due take effect, in their order. -/
def State.inputCycle (s : State) : State :=
  let due := s.inputs.filter fun x => decide (x.1 ≤ s.now)
  (due.map (·.2)).foldl State.takeInput { s with inputs := s.inputs.filter fun x => !decide (x.1 ≤ s.now) }

end Sys2Proof.Machine
end

