-- ==== Sys2Proof/Machine/Issue.lean ====
section
/-!
DEFINITION. How a thread's next bundle issues: qualifiers (R180),
interlocks (R181-R186), check mode, the order of traps (R364), and what follows the bundle (R160, R287, R290).
-/

namespace Sys2Proof.Machine

/-! ### Qualifiers (R180) -/

/-- Whether an op issues in this iteration; none where its level is closed. -/
def Loops.qualifies (l : Loops) (iq lvl : Nat) : Option Bool :=
  if iq = 0 then some true
  else
    let v := l.lv[Fin.ofNat 6 lvl]
    if !v.act then none
    else some (if iq = 1 then v.first else if iq = 2 then v.left == 1 else v.left != 1)

/-- The attributes of an instruction of a tile. -/
def insAttr (i : Instr) : Attr := ((encodeFields i).map fun x => x.2.1).getD Attr.plain

/-- The qualifier of an op. -/
def BOp.qual (l : Loops) (o : BOp) : Option Bool := l.qualifies (insAttr o.ins).iq.toNat (insAttr o.ins).lvl.toNat

/-! ### Interlocks (R181-R186) -/

/-- The latency of a register result (R181); for the variable classes the least one. -/
def latOf (o : Opc) : Nat :=
  match o with
  | .xinfo => 2
  | .mul | .mulh | .vext => 3
  | .div | .rem => 18
  | .sld => 5
  | .vand | .vor | .vxor | .vandn | .vshl | .vshr | .vsra | .vmov => 2
  | .vadd | .vsub | .vmin | .vmax | .vabs | .vneg | .vsel | .vbcast | .vins | .vidx | .vperm | .vshuf | .vrot | .vcvt
  | .vpack | .vunpack | .vscale | .vround => 3
  | .vmul | .vfma | .vfms | .vfnma | .vrcpr | .vrsqr => 4
  | .vredadd | .vredmax | .vredmin | .vhist => 6
  | .vtopk | .lrnd => 8
  | .vrcp | .vrsq | .vexp2 | .vlog2 | .vtanh | .vsigm => 12
  | .vgate => 16
  | _ => 1

/-- The register of a write in flight. -/
def Dest.reg : Dest → Reg
  | .v n => .v n
  | .s n => .s n
  | .m n => .m n
  | .q1 => .q 1

/-- The scalar register that a wide op still running will write. -/
def PipeOp.dest (p : PipeOp) : Option (Fin 64) :=
  match p.op with
  | .lrnd _ _ _ d => d
  | _ => none

/-- Whether a write of an earlier bundle to a register is in flight. -/
def Tile.inFlight (t : Tile) (r : Reg) : Bool :=
  (t.regs.flight.any fun w => Dest.reg w.dst == r) || (t.regs.loads.any fun l => l.write.map (Dest.reg ·.dst) == some r) ||
    (t.mat.wide.any fun p => p.dest.map Reg.s == some r)

/-- Whether a new write that is readable at `due` would land no later than one in flight (R183). When an `lrnd` that has not
started will land is not known. -/
def Tile.landsEarly (t : Tile) (r : Reg) (due : Nat) : Bool :=
  (t.regs.flight.any fun w => Dest.reg w.dst == r && decide (due ≤ w.due)) ||
    (t.regs.loads.any fun l => l.write.map (Dest.reg ·.dst) == some r && decide (due ≤ l.due)) ||
    (t.mat.wide.any fun p => p.dest.map Reg.s == some r && (p.start.map fun b => decide (due ≤ b + t.duration p)).getD true)

/-- Whether an earlier bundle holds a scoreboard tag (R184). -/
def Tile.tagHeld (t : Tile) (tag : Nat) : Bool :=
  tag != 0 && ((t.regs.flight.any fun w => w.tag.toNat == tag) || (t.regs.loads.any fun l => l.tag.toNat == tag) ||
    ((t.mat.arr ++ t.mat.wgt ++ t.mat.wide).any fun p => p.tag.toNat == tag))

/-- The registers that an op writes: `lstr` names one and writes none (R288). -/
def BOp.writes (o : BOp) : List Reg := if o.opc = .lstr then [] else o.dests

/-- Whether an interlock of R182-R184 holds a bundle; `iss` are the ops that issue. -/
def Tile.held (t : Tile) (now : Nat) (ops iss : List BOp) : Bool :=
  decide (now < t.thr.base + 1 + (ops.map fun o => o.tail.pdist).foldl max 0) ||
    (ops.any fun o => t.tagHeld o.sbc) || (iss.any fun o => t.tagHeld o.sba) ||
    (iss.any fun o => o.writes.any fun r => t.landsEarly r (now + latOf o.opc))

/-! ### Sources -/

/-- The registers an op names as sources, with the classes of their fields; `lih` reads its destination (R306). -/
def BOp.sources (o : BOp) : List (Cls × Reg) :=
  let f := form o.opc o.tail
  let one (x : Fld) (c : Nat) : List (Cls × Reg) :=
    match x, Reg.ofCode c with
    | .reg k, some r => [(k, r)]
    | _, _ => []
  one f.sa o.tail.sa ++ one f.sb o.tail.sb ++ one f.sc o.tail.sc ++
    (if o.opc = .lih then one f.dst o.tail.dst else [])

/-- The first source register, masks and queues excepted, that a write in flight will change (R185). -/
def staleRead (t : Tile) (iss : List BOp) : Option Reg :=
  (iss.flatMap fun o => o.sources.map (·.2)).find? fun r => (match r with
    | .m _ | .q _ => false
    | _ => true) && t.inFlight r

/-- The first register that an op reads, its mask included, whose entry holds an uncorrectable error, or 0x2001FF where
state without a code does, by its `tval` (R372). -/
def badRead (t : Tile) (o : BOp) : Option Nat :=
  if t.bad.isEmpty then none
  else
    let codes :=
      (o.sources.map fun x => x.2.code) ++ (if (insAttr o.ins).mask = 0 then [] else [464 + (insAttr o.ins).mask.toNat])
    ((codes ++ [0x1FF]).map fun x => 0x200000 + x).find? fun x => t.bad.contains x

/-- The verdicts of a bundle, where an op that reads an entry with an uncorrectable error traps (R364). -/
def withBadReads (t : Tile) (iss : List BOp) (vs : List (Nat × Instr × Verdict)) : List (Nat × Instr × Verdict) :=
  vs.map fun x =>
    match (iss.find? fun o => o.head == x.1).bind (badRead t) with
    | some c => (x.1, x.2.1, .trapped .eccUncorr (BitVec.ofNat 64 c))
    | none => x

/-- The pops that an op's sources make, taken before anything the bundle pushes (R142). -/
def State.popSources (s : State) : List (Cls × Reg) → Except Stop State
  | [] => .ok s
  | (k, r) :: rest => do
    let s ← if k = .vs || k = .vq then s.popV r else if k = .ss || k = .lc then s.popS r else .ok s
    s.popSources rest

/-- The pops of an op. `loop` checks the sequencer before it pops its count (R286). -/
def State.popOp (s : State) (o : BOp) : Except Stop State := do
  match o.ins with
  | .loopQ1 _ len => s.loopChecks len.toNat
  | _ => pure ()
  s.popSources o.sources

/-- The pops of a bundle, with what stopped each op's own. -/
def State.popAll (s : State) : List BOp → State × List (Option Stop)
  | [] => (s, [])
  | o :: r =>
    match s.popOp o with
    | .ok s' =>
      let x := s'.popAll r
      (x.1, none :: x.2)
    | .error e =>
      let x := s.popAll r
      (x.1, some e :: x.2)

/-! ### Trying the ops -/

/-- When an op of a bundle is tried: `csrr` first, since it reads the state as it stands at issue (R179), and after the others
those that steer the thread. -/
def phaseOf (o : Opc) : Nat :=
  if o = .csrr then 0 else if decide (o.num < 0x20) && o != .ertw && o != .tctl && o != .hwin then 2 else 1

/-- An op as it is tried: its head index, its instruction, and what its pops met. -/
abbrev Trial := Nat × Instr × Option Stop

/-- The ops of a bundle tried in turn, each on the state that those before it left, with the verdict on each. An op that
does not issue changes nothing here. -/
def tryOps (s : State) : List Trial → Host.Outcome (State × List (Nat × Instr × Verdict)) Fault Refusal
  | [] => .next (s, [])
  | (j, i, some (.trap c v)) :: r =>
    match tryOps s r with
    | .next x => .next (x.1, (j, i, .trapped c v) :: x.2)
    | o => o
  | (j, i, some (.stall c)) :: r =>
    match tryOps s r with
    | .next x => .next (x.1, (j, i, .waits c) :: x.2)
    | o => o
  | (j, i, none) :: r =>
    match exec i (s.modT fun t => { t with iss := { t.iss with head := j, verdict := .issued } }) with
    | .next s' =>
      let v := s'.t.iss.verdict
      match tryOps (if v = .issued then s' else s) r with
      | .next x => .next (x.1, (j, i, v) :: x.2)
      | o => o
    | .fault e => .fault e
    | .refused e => .refused e

/-- The `fence` kind that an instruction waits for. -/
def fenceKind : Instr → Option Nat
  | .fenceEng _ => some 0
  | .fenceMoon _ => some 1
  | .fenceAll _ | .halt _ => some 2
  | _ => none

/-- Instructions that write `fmt`. -/
def writesFmt : Instr → Bool
  | .fmt _ _ | .fmtImm _ _ | .csrwFmt _ _ => true
  | _ => false

/-- The group register of a `tbar`. -/
def tbarGm : Instr → Option (Fin 8)
  | .tbar _ g => some g
  | _ => none

/-- The tile as a bundle finds it: nothing popped yet, a pending `fmt` in force where the bundle writes `fmt` again
(R160). -/
def Tile.startBundle (t : Tile) (iss : List BOp) : Tile :=
  let t := { t with iss := { Iss.none with
    clear := iss.all fun o => ((fenceKind o.ins).map fun k => t.fenceDone k).getD true } }
  match t.csr.fmtPend with
  | some (v, _) =>
    if iss.any fun o => writesFmt o.ins then { t with csr := { t.csr with fmt := v, fmtPend := none } } else t
  | none => t

/-- The count of issue cycles before a pending `fmt` comes into force (R160); a bundle of a handler, its `uliret` included, does
not count. -/
def State.countFmt (s : State) (writes inHandler : Bool) : State :=
  if writes || inHandler then s
  else
    match s.t.csr.fmtPend with
    | some (v, n + 1) =>
      let s := s.modT fun t => { t with csr := { t.csr with fmtPend := some (v, n) } }
      if n = 0 then s.schedule (s.now + 1) s.cur .fmtDelayExpire else s
    | _ => s

/-- What follows a bundle that issued: flow, iterations, the cycle from which the next bundle's pdist counts, and the
cycle that a long loop body adds at a line boundary (R290). `t0` is the tile before the bundle. -/
def Tile.endBundle (t t0 : Tile) (now : Nat) : Tile :=
  let nxt := t0.nextAddr t0.thr.pc.toNat
  let t :=
    if t.iss.moved then t
    else
      let t := { t with thr := { t.thr with base := now } }
      if t0.thr.inHandler then t.goto nxt
      else ({ t with loops := t.loops.advance 1 } : Tile).settle now nxt 7
  let cross := !t0.thr.inHandler && (t0.loops.lv.toList.any fun x => x.act && x.long) &&
    t.thr.pc.toNat / 64 != t0.thr.pc.toNat / 64
  { t with
    thr := { t.thr with
      base := t.thr.base + t.iss.extra + if cross then 1 else 0
      drain := t.thr.inHandler != t0.thr.inHandler
      trapped := false
      creditSince := none }
    iss := Iss.none }

/-- The first trap of the verdicts in head order, `trap` itself aside. -/
def trapOf : List (Nat × Instr × Verdict) → Option (Cause × W64)
  | [] => none
  | (_, _, .trapped c v) :: r => if c = .swTrap then trapOf r else some (c, v)
  | _ :: r => trapOf r

/-- The verdicts in head order. -/
def byHead (l : List (Nat × Instr × Verdict)) : List (Nat × Instr × Verdict) :=
  (List.range 32).flatMap fun j => l.filter fun x => x.1 == j

/-- The wait that holds a bundle: its stall code, or the group register of a barrier that alone holds it. -/
def waitOf (l : List (Nat × Instr × Verdict)) : Option (Nat ⊕ Fin 8) :=
  let ws := l.filterMap fun x => match x.2.2 with
    | .waits c => some (x.2.1, c)
    | _ => none
  match ws with
  | [] => none
  | (i, c) :: r =>
    match tbarGm i, r with
    | some g, [] => some (.inr g)
    | some _, (_, c') :: _ => some (.inl c')
    | none, _ => some (.inl c)

/-- The bundle of the current tile, once its interlocks have released: it waits, traps, or issues (R179, R364). `cq` are
the head indexes of ops qualified at a closed level. -/
def State.tryBundle (s : State) (iss : List BOp) (cq : List Nat) : Host.Outcome State Fault Refusal :=
  let t0 := s.t
  let p := (s.modT fun t => t.startBundle iss).popAll iss
  let trials : List (BOp × Option Stop) := iss.zip p.2
  let order := [0, 1, 2].flatMap fun n => trials.filter fun x => phaseOf x.1.opc == n
  match tryOps p.1 (order.map fun x => (x.1.head, x.1.ins, x.2)) with
  | .fault e => .fault e
  | .refused e => .refused e
  | .next r =>
    let vs := withBadReads t0 iss <| byHead (r.2 ++ cq.map fun j => (j, .lbrk Attr.plain, .trapped .loopDepth t0.depthVal))
    match waitOf vs with
    | some (.inl c) => .next ((s.stalled c).modT fun t => { t with iss := Iss.none })
    | some (.inr g) => .next (if t0.thr.tbar.isSome then s else s.arriveTbar g)
    | none =>
      match (if t0.csr.chk then staleRead t0 iss else none) with
      | some x => .next (s.takeTrap s.cur .staleRead (BitVec.ofNat 64 x.code))
      | none =>
        match trapOf vs with
        | some (c, v) => .next (s.takeTrap s.cur c v)
        | none =>
          match vs.find? fun x => match x.2.2 with
            | .trapped _ _ => true
            | _ => false with
          | some (_, _, .trapped c v) =>
            .next (((r.1.countFmt (iss.any fun o => writesFmt o.ins) t0.thr.inHandler).modT fun t => { t with iss := Iss.none }).takeTrap
              s.cur c v)
          | _ =>
            .next ((r.1.countFmt (iss.any fun o => writesFmt o.ins) t0.thr.inHandler).modT fun t => t.endBundle t0 s.now)

/-- The thread of the current tile tries its next bundle (R189, R364). -/
def State.issue (s : State) : Host.Outcome State Fault Refusal :=
  let t := s.t
  if s.now ≤ t.thr.base then .next s
  else
    match s.fetch s.cur with
    | .error (c, v, epc) => .next (s.takeTrapAt s.cur c v epc)
    | .ok ops =>
      let iss := ops.filter fun o => o.qual t.loops != some false
      if t.held s.now ops iss then .next s
      else
        s.tryBundle (ops.filter fun o => o.qual t.loops == some true)
          ((ops.filter fun o => o.qual t.loops == none).map (·.head))

/-! ### Whether a thread may issue (R136, R337, R364) -/

/-- Whether a thread may issue: it runs, no pre-emption stops it, every write that an event must land first has landed (R186),
no interrupt is about to be entered, and no collective branch or held trap holds it. -/
def Tile.mayIssue (t : Tile) (now : Nat) : Bool :=
  t.thr.st == .running && t.thr.preempt == .none && !t.thr.starting &&
    !(t.rounds && (t.thr.drain || (t.uliDue now).isSome)) &&
    match t.spec with
    | none => true
    | some sp => !sp.wait && sp.trap.isNone && t.thr.deferred.isEmpty && t.tableError.isNone && sp.result.isNone

/-- Whether the current thread's gang is under an ABORT: it issues no more (R370). -/
def State.aborting (s : State) : Bool := (s.t.thr.gang.bind s.gang).any fun g => !g.aborts.isEmpty

/-- A turn of the current tile's thread. -/
def State.attempt (s : State) : Host.Outcome State Fault Refusal :=
  if s.t.mayIssue s.now && !s.aborting then s.issue else .next s

/-! ### Time (R18) -/

/-- The event at the head of the agenda, if it is due, with the agenda after it. -/
def State.nextEvent (s : State) : Option (Timed × List Timed) :=
  match s.agenda with
  | e :: r => if e.due ≤ s.now then some (e, r) else none
  | [] => none

/-- The cycles left of an unresolved branch count down, but not while the gang is suspended (R337). -/
def Tile.countBranch (t : Tile) : Tile :=
  match t.spec with
  | some sp =>
    if t.thr.st == .suspended || t.thr.preempt == .halted || t.thr.preempt == .saved || sp.left = 0 then t else { t with spec := some { sp with left := sp.left - 1 } }
  | none => t

/-- Whether a message engine has an arrival that waits for its turn, or a stream. -/
def MsgEng.busy (m : MsgEng) : Bool := !m.inbox.isEmpty || !m.released.isEmpty || !m.streams.isEmpty

/-- The message engines in a new cycle: each takes one arrival and goes on with its streams (R89, R96). -/
def State.msgCycle (s : State) : State :=
  ((s.tiles.filter fun p => p.2.msg.busy).map (·.1)).foldl
    (fun s k => ({ s with cur := k } : State).takeArrival.streamAll) s

/-- Whether an op is a command to the ERT (R38). -/
def isErtw : Instr → Bool
  | .read _ _ _ _ | .config _ _ _ _ | .pagein _ _ _ _ | .evict _ _ _ _ | .pin _ _ _ _ | .unpin _ _ _ _ | .discard _ _ _ _ => true
  | _ => false

/-- Whether a thread's next bundle holds a command to the ERT. -/
def State.commands (s : State) (k : Nat) : Bool :=
  isSupervisor k && match s.fetch k with
    | .ok ops => ops.any fun o => isErtw o.ins
    | .error _ => false

/-- The running threads in the order of their turns: ascending rank, those first whose next bundle commands the ERT (R39). -/
def State.turns (s : State) : List Nat :=
  let l := (s.tiles.filter fun p => p.2.thr.st == .running).map (·.1)
  l.filter s.commands ++ l.filter fun k => !s.commands k

/-- A pulse of the clock: `wclk` advances, and unless the pulse is swallowed (evenly spread over 64 periods, R391) so does every counter in cycles, and every
running thread gets its turn. -/
def State.tick (s : State) : State :=
  let s := { s with wclk := s.wclk + 1 }
  let i := s.wclk % 64
  if i * s.mgmt.swallowed / 64 < (i + 1) * s.mgmt.swallowed / 64 then s
  else
    let s := ({ s with
      now := s.now + 1
      tiles := s.tiles.map fun p => (p.1, p.2.countBranch) } : State).inputCycle.meshCycle.portCycle.msgCycle.abortCycle
    { s with turn := s.turns }

end Sys2Proof.Machine
end

