-- ==== Sys2Proof/Machine/Step.lean ====
section
/-!
DEFINITION. One step of the module: the next event that is due, else the next thread's attempt to issue, else the tick of
the clock.
-/

namespace Sys2Proof.Machine

/-- Whether an event is a power cycle. -/
def isPowerOn : Instr → Bool
  | .powerOn _ => true
  | _ => false

/-- One step (log 3). After a trip no clock runs: the one thing that can come is a power cycle (R392). -/
def step (s : State) : Host.Outcome State Fault Refusal :=
  match s.mgmt.trip with
  | some _ =>
    match s.agenda.find? fun e => isPowerOn e.ev with
    | some e => exec e.ev { s with agenda := s.agenda.erase e, cur := e.unit }
    | none => .fault .clocksStopped
  | none =>
    match s.nextEvent with
    | some (e, r) => exec e.ev { s with agenda := r, cur := e.unit }
    | none =>
      match s.turn with
      | [] => .next s.tick
      | k :: r =>
        match (s.tile k).boundary s.now with
        | some i => exec i { s with cur := k }
        | none => ({ s with turn := r, cur := k } : State).attempt

/-- The tile on which a word is placed: a supervisor's for the privileged opcodes (R314), tile 0 of die 0 otherwise. -/
def fetchTile (w : Nat) : Nat := if ((Opc.ofNum (headOpc w)).map Opc.priv).getD false then 306 else 0

/-- A code line with one op, ending its bundle: header with count 1, head 0, the tail at the line's end (R171). -/
def wordLine (w : Nat) : Nat :=
  let h := w % 2 ^ 16
  let n := tailLen (headTl h)
  0x0800 + 2 ^ 16 * (if headE h then h else h + 2 ^ 13) + 2 ^ (8 * (64 - n)) * (w / 2 ^ 16 % 2 ^ (8 * n))

/-- The state in which the very next step fetches an instruction from line 0 and runs it (log 1): the module is
up, nothing is due, and one thread stands at address 0, its producer distance elapsed. -/
def State.withFetchWord (s : State) (_nbits w : Nat) : State :=
  let k := fetchTile w
  let t := s.tile k
  ({ s with now := s.now + 8, agenda := [], turn := [k], cur := k } : State).setTile k
    { t with
      imem := t.imem.write 0 (bytesOf (wordLine w) 64)
      csr := { t.csr with isapin := 3 }
      thr := { t.thr with
        st := .running, pc := 0, badTarget := none, base := s.now, deferred := [], preempt := .none, starting := false }
      spec := none }

end Sys2Proof.Machine
end

