-- ==== Sys2Proof/Safety.lean ====
section
/-!
DEFINITION. The vocabulary of the statements: a run without a stop, what an instruction leaves alone, the canonical form of
the module's memories, and the scalar instructions' results as R304-R306 give them, over exact integers.
-/

namespace Sys2Proof

open Machine

/-! ### Completing -/

/-- `exec` answers a next state, and `P` holds of it. -/
def Runs (i : Instr) (s : State) (P : State → Prop) : Prop := ∃ t, exec i s = .next t ∧ P t

/-- `exec` answers the state `r`, with the verdict that the op has issued (log 8). -/
def Yields (i : Instr) (s r : State) : Prop := exec i s = .next (r.setVerdict .issued)

/-- `exec` answers the state in which the thread of the current tile has taken a trap and nothing else of the op happened. -/
def Traps (i : Instr) (s : State) (c : Cause) (tval : W64) : Prop :=
  exec i s = .next ((s.takeTrap s.cur c tval).setVerdict (.trapped c tval))

/-- `exec` answers the state in which the op waits: nothing of it happened but the code that `specst` shows. -/
def Waits (i : Instr) (s : State) (code : Nat) : Prop := exec i s = .next (s.stalled code)

/-! ### What stays as it was -/

/-- Of the module, only tiles and what is scheduled differ. -/
def SameModule (s t : State) : Prop := t = { s with tiles := t.tiles, agenda := t.agenda }

/-- The tiles other than the current one are as they were. -/
def SameOthers (s t : State) : Prop := ∀ k, k ≠ s.cur → t.tile k = s.tile k

/-- Every byte of a tile's memories reads as before, in an ordinary and in a speculative access. -/
def SameBytes (x y : Tile) : Prop :=
  (∀ spec a, y.spmByte spec a = x.spmByte spec a) ∧ (∀ a, y.imem.get a = x.imem.get a) ∧ y.swap = x.swap

/-! ### The canonical form of the memories -/

/-- Every memory of a tile is in canonical form (R117, R122, R171). -/
def tileMemWf (t : Tile) : Bool := Mem.wf t.spm && Mem.wf t.imem && Mem.wf t.swap.half

/-- Every memory of the module is in canonical form. -/
def memWf (s : State) : Bool :=
  Mem.wf s.hbm && Mem.wf s.far && Mem.wf s.host.mem && s.tiles.all (fun p => tileMemWf p.2) &&
    s.sched.saves.all fun v => tileMemWf v.tile

/-! ### Scalar results (R304-R306) -/

/-- A two-operand S-slot op: its attributes, latency, destination and operands, and its result. -/
structure TwoOp where
  a : Attr
  lat : Nat
  d : Reg
  ra : Reg
  b : Opd
  f : W64 → W64 → W64

/-- Whether `x < y`, unsigned or signed. -/
def lessThan (u : Bool) (x y : W64) : Bool := if u then decide (x.toNat < y.toNat) else decide (x.toInt < y.toInt)

/-- The ops of R304 with two operands, with their results over exact integers. -/
def twoOp : Instr → Option TwoOp
  | .add a d x b => some ⟨a, 1, d, x, b, fun x y => BitVec.ofInt 64 (x.toInt + y.toInt)⟩
  | .sub a d x b => some ⟨a, 1, d, x, b, fun x y => BitVec.ofInt 64 (x.toInt - y.toInt)⟩
  | .mul a d x b => some ⟨a, 3, d, x, b, fun x y => BitVec.ofInt 64 (x.toInt * y.toInt)⟩
  | .mulh a u d x b => some ⟨a, 3, d, x, b, fun x y =>
      if u then BitVec.ofNat 64 (x.toNat * y.toNat / 2 ^ 64) else BitVec.ofInt 64 (x.toInt * y.toInt / 2 ^ 64)⟩
  | .and a d x b => some ⟨a, 1, d, x, b, fun x y => x &&& y⟩
  | .or a d x b => some ⟨a, 1, d, x, b, fun x y => x ||| y⟩
  | .xor a d x b => some ⟨a, 1, d, x, b, fun x y => x ^^^ y⟩
  | .andn a d x b => some ⟨a, 1, d, x, b, fun x y => x &&& ~~~y⟩
  | .shl a d x b => some ⟨a, 1, d, x, b, fun x y =>
      if 64 ≤ y.toNat then 0 else BitVec.ofNat 64 (x.toNat * 2 ^ y.toNat)⟩
  | .shr a d x b => some ⟨a, 1, d, x, b, fun x y => if 64 ≤ y.toNat then 0 else BitVec.ofNat 64 (x.toNat / 2 ^ y.toNat)⟩
  | .sra a d x b => some ⟨a, 1, d, x, b, fun x y =>
      if 64 ≤ y.toNat then (if x.toInt < 0 then BitVec.allOnes 64 else 0) else BitVec.ofInt 64 (x.toInt / 2 ^ y.toNat)⟩
  | .rotl a d x b => some ⟨a, 1, d, x, b, fun x y =>
      BitVec.ofNat 64 (x.toNat * 2 ^ (y.toNat % 64) + x.toNat / 2 ^ (64 - y.toNat % 64))⟩
  | .min a u d x b => some ⟨a, 1, d, x, b, fun x y => if lessThan u y x then y else x⟩
  | .max a u d x b => some ⟨a, 1, d, x, b, fun x y => if lessThan u x y then y else x⟩
  | .slt a u d x b => some ⟨a, 1, d, x, b, fun x y => if lessThan u x y then 1 else 0⟩
  | .seq a d x b => some ⟨a, 1, d, x, b, fun x y => if x = y then 1 else 0⟩
  | .sne a d x b => some ⟨a, 1, d, x, b, fun x y => if x = y then 0 else 1⟩
  | .addsh a k d x b => some ⟨a, 1, d, x, b, fun x y => BitVec.ofInt 64 (x.toInt + y.toInt * 2 ^ k.toNat)⟩
  | _ => none

/-- `div` and `rem` of R305: the three rows of its table. -/
def divOp : Instr → Option TwoOp
  | .div a u d x b => some ⟨a, 18, d, x, b, fun x y =>
      if y = 0 then 0xFFFFFFFFFFFFFFFF#64
      else if !u && x.toInt == -2 ^ 63 && y.toInt == -1 then 0x8000000000000000#64
      else if u then BitVec.ofNat 64 (x.toNat / y.toNat) else BitVec.ofInt 64 (x.toInt.tdiv y.toInt)⟩
  | .rem a u d x b => some ⟨a, 18, d, x, b, fun x y =>
      if y = 0 then x
      else if !u && x.toInt == -2 ^ 63 && y.toInt == -1 then 0
      else if u then BitVec.ofNat 64 (x.toNat - y.toNat * (x.toNat / y.toNat))
      else BitVec.ofInt 64 (x.toInt - y.toInt * x.toInt.tdiv y.toInt)⟩
  | _ => none

/-- A one-operand S-slot op: its attributes, destination, source and result. Its latency is 1. -/
structure OneOp where
  a : Attr
  d : Reg
  ra : Reg
  f : W64 → W64

/-- The ops of R306 with a scalar source. -/
def oneOp : Instr → Option OneOp
  | .clz a d x => some ⟨a, d, x, fun x => BitVec.ofNat 64 ((List.range 64).countP fun k => decide (x.toNat < 2 ^ k))⟩
  | .ctz a d x => some ⟨a, d, x, fun x => BitVec.ofNat 64 ((List.range 64).countP fun k => x.toNat % 2 ^ (k + 1) == 0)⟩
  | .popc a d x => some ⟨a, d, x, fun x => BitVec.ofNat 64 (((List.range 64).map fun k => x.toNat / 2 ^ k % 2).sum)⟩
  | .mov a d x => some ⟨a, d, x, fun x => x⟩
  | .sext a w d x => some ⟨a, d, x, fun x => (x.setWidth (widBits w)).signExtend 64⟩
  | .zext a w d x => some ⟨a, d, x, fun x => (x.setWidth (widBits w)).setWidth 64⟩
  | _ => none

/-- An op whose result is a constant, or is computed from a mask or from its own destination (R306): its attributes,
destination and result. Its latency is 1. -/
structure ConstOp where
  a : Attr
  d : Reg
  x : State → W64

/-- The ops of R306 that pop nothing. -/
def constOp : Instr → Option ConstOp
  | .li a n d i => some ⟨a, d, fun _ => if n then BitVec.ofNat 64 i.toNat else BitVec.ofInt 64 i.toInt⟩
  | .lih a d i => some ⟨a, d, fun s => BitVec.ofNat 64 (i.toNat * 2 ^ 32 + (s.rdS d).toNat % 2 ^ 32)⟩
  | .mpop a w d m => some ⟨a, d, fun s =>
      BitVec.ofNat 64 (((List.range (MWid.bits w)).map fun k => (s.rdM m).toNat / 2 ^ k % 2).sum)⟩
  | .mfirst a w d m => some ⟨a, d, fun s =>
      BitVec.ofNat 64 ((List.range (MWid.bits w)).countP fun k => (s.rdM m).toNat % 2 ^ (k + 1) == 0)⟩
  | _ => none

/-! ### Vector results (R253-R278) -/

/-- Lane `j` of a register at a width. -/
def laneAt (w : Nat) (x : W512) (j : Nat) : Nat := x.toNat / 2 ^ (w * j) % 2 ^ w

/-- Lane `j` of a vector source at a width. -/
def srcLane (s : State) (w : Nat) (r : Reg) (j : Nat) : Nat := laneAt w (s.rdV w r) j

/-- A V-slot op with a vector destination: its attributes, the width of the destination's lanes, latency, destination and
vector sources, whether disabled lanes keep their value, and lane `j` of its result. -/
structure VecOp where
  a : Attr
  w : Nat
  lat : Nat
  d : Reg
  srcs : List Reg
  merge : Bool
  lane : State → Nat → Nat

/-- The value of a floating-point lane (R153), and the result of a lane's arithmetic: an exact value rounded once under
RNE (R260), or an exact integer saturated or wrapped (R261). -/
def toR (t : Ety) (x : Nat) : Machine.Num := (laneFmt false t).toReal x
def arith (t : Ety) (sat : Bool) (r : Machine.Num) (n : Int) : Nat :=
  if t.isF then (laneFmt false t).round false false r
  else if sat then satInt n t.width t.isSigned else wrapInt n t.width

/-- The ops of R260-R263: arithmetic, logic and shifts. -/
def vecArith : Instr → Option VecOp
  | .vadd a t sat d x y => some ⟨a, t.width, 3, d, [x, y], true, fun s j =>
      let p := srcLane s t.width x j
      let q := srcLane s t.width y j
      arith t sat (exactSum [toR t p, toR t q]) (laneInt t p + laneInt t q)⟩
  | .vsub a t sat d x y => some ⟨a, t.width, 3, d, [x, y], true, fun s j =>
      let p := srcLane s t.width x j
      let q := srcLane s t.width y j
      arith t sat (exactSum [toR t p, (toR t q).negate]) (laneInt t p - laneInt t q)⟩
  | .vmul a t sat d x y => some ⟨a, t.width, 4, d, [x, y], true, fun s j =>
      let p := srcLane s t.width x j
      let q := srcLane s t.width y j
      arith t sat (exactMul (toR t p) (toR t q)) (laneInt t p * laneInt t q)⟩
  | .vfma a t sat d x y z => some ⟨a, t.width, 4, d, [x, y, z], true, fun s j =>
      let p := srcLane s t.width x j
      let q := srcLane s t.width y j
      let r := srcLane s t.width z j
      arith t sat (exactSum [exactMul (toR t p) (toR t q), toR t r]) (laneInt t p * laneInt t q + laneInt t r)⟩
  | .vfms a t sat d x y z => some ⟨a, t.width, 4, d, [x, y, z], true, fun s j =>
      let p := srcLane s t.width x j
      let q := srcLane s t.width y j
      let r := srcLane s t.width z j
      arith t sat (exactSum [exactMul (toR t p) (toR t q), (toR t r).negate]) (laneInt t p * laneInt t q - laneInt t r)⟩
  | .vfnma a t sat d x y z => some ⟨a, t.width, 4, d, [x, y, z], true, fun s j =>
      let p := srcLane s t.width x j
      let q := srcLane s t.width y j
      let r := srcLane s t.width z j
      arith t sat (exactSum [(exactMul (toR t p) (toR t q)).negate, toR t r]) (laneInt t r - laneInt t p * laneInt t q)⟩
  | .vmin a t d x y => some ⟨a, t.width, 3, d, [x, y], true, fun s j =>
      laneMinMax false t (srcLane s t.width x j) (srcLane s t.width y j)⟩
  | .vmax a t d x y => some ⟨a, t.width, 3, d, [x, y], true, fun s j =>
      laneMinMax true t (srcLane s t.width x j) (srcLane s t.width y j)⟩
  | .vabs a t sat d x => some ⟨a, t.width, 3, d, [x], true, fun s j =>
      let p := srcLane s t.width x j
      if t.isF then (if (toR t p).isNan then (laneFmt false t).canon else p % 2 ^ (t.width - 1))
      else arith t sat .nan (laneInt t p).natAbs⟩
  | .vneg a t sat d x => some ⟨a, t.width, 3, d, [x], true, fun s j =>
      let p := srcLane s t.width x j
      if t.isF then
        (if (toR t p).isNan then (laneFmt false t).canon
         else if p < 2 ^ (t.width - 1) then p + 2 ^ (t.width - 1) else p - 2 ^ (t.width - 1))
      else arith t sat .nan (-(laneInt t p))⟩
  | .vand a t d x y => some ⟨a, t.width, 2, d, [x, y], true, fun s j => srcLane s t.width x j &&& srcLane s t.width y j⟩
  | .vor a t d x y => some ⟨a, t.width, 2, d, [x, y], true, fun s j => srcLane s t.width x j ||| srcLane s t.width y j⟩
  | .vxor a t d x y => some ⟨a, t.width, 2, d, [x, y], true, fun s j => srcLane s t.width x j ^^^ srcLane s t.width y j⟩
  | .vandn a t d x y => some ⟨a, t.width, 2, d, [x, y], true, fun s j =>
      srcLane s t.width x j &&& (2 ^ t.width - 1 - srcLane s t.width y j)⟩
  | .vshl a t d x y => some ⟨a, t.width, 2, d, [x, y], true, fun s j =>
      shiftLeft t.width (srcLane s t.width x j) (srcLane s t.width y j)⟩
  | .vshr a t d x y => some ⟨a, t.width, 2, d, [x, y], true, fun s j =>
      shiftRight t.width (srcLane s t.width x j) (srcLane s t.width y j)⟩
  | .vsra a t d x y => some ⟨a, t.width, 2, d, [x, y], true, fun s j =>
      shiftArith t.width (srcLane s t.width x j) (srcLane s t.width y j)⟩
  | .vshlImm a t c d x => some ⟨a, t.width, 2, d, [x], true, fun s j =>
      shiftLeft t.width (srcLane s t.width x j) c.toNat⟩
  | .vshrImm a t c d x => some ⟨a, t.width, 2, d, [x], true, fun s j =>
      shiftRight t.width (srcLane s t.width x j) c.toNat⟩
  | .vsraImm a t c d x => some ⟨a, t.width, 2, d, [x], true, fun s j =>
      shiftArith t.width (srcLane s t.width x j) c.toNat⟩
  | _ => none
where
  shiftLeft (w x c : Nat) : Nat := if w ≤ c then 0 else x * 2 ^ c % 2 ^ w
  shiftRight (w x c : Nat) : Nat := if w ≤ c then 0 else x / 2 ^ c
  shiftArith (w x c : Nat) : Nat :=
    if w ≤ c then (if 2 ^ (w - 1) ≤ x then 2 ^ w - 1 else 0) else wrapInt (signExtend x w / 2 ^ c) w

/-- The ops of R266 and R267: selection and lanes moved without being inspected. -/
def vecMove : Instr → Option VecOp
  | .vsel a t d x y => some ⟨a, t.width, 3, d, [x, y], false, fun s j =>
      if (s.t.enables a).getLsbD j then srcLane s t.width x j else srcLane s t.width y j⟩
  | .vmov a t d x => some ⟨a, t.width, 2, d, [x], true, fun s j => srcLane s t.width x j⟩
  | .vbcast a t d x => some ⟨a, t.width, 3, d, [], true, fun s _ => (s.rdS x).toNat % 2 ^ t.width⟩
  | .vins a t k d x b => some ⟨a, t.width, 3, d, [x], false, fun s j =>
      if j = k.toNat then (s.rdS b).toNat % 2 ^ t.width else srcLane s t.width x j⟩
  | .vidx a t d x y => some ⟨a, t.width, 3, d, [], true, fun s j =>
      wrapInt ((s.rdS x).toInt + (j : Int) * (s.rdS y).toInt) t.width⟩
  | .vperm a t d x y => some ⟨a, t.width, 3, d, [x, y], true, fun s j =>
      let k := srcLane s t.width y j
      if k < 512 / t.width then srcLane s t.width x k else 0⟩
  | .vshuf a t d x y z => some ⟨a, t.width, 3, d, [x, y, z], true, fun s j =>
      let k := srcLane s t.width z j
      let n := 512 / t.width
      if k < n then srcLane s t.width x k else if k < 2 * n then srcLane s t.width y (k - n) else 0⟩
  | .vrot a t d x k => some ⟨a, t.width, 3, d, [x], true, fun s j =>
      let n := 512 / t.width
      srcLane s t.width x ((j + (s.rdS k).toNat % n) % n)⟩
  | _ => none

/-- The ops of R268-R271: conversions, scaling and rounding. -/
def vecConv : Instr → Option VecOp
  | .vcvt a dt st isat d x => some ⟨a, dt.width, 3, d, [x], true, fun s j =>
      let p := srcLane s dt.width x j
      let f := laneFmt s.t.fmtNan
      if st.isI then
        (if dt.isI then (if isat then satInt (laneInt st p) dt.width dt.isSigned else p)
         else (f dt).round s.t.fmtRnd s.t.fmtSat (Machine.Num.ofInt (laneInt st p)))
      else if dt.isI then roundInt s.t.fmtRnd ((f st).toReal p) dt.width dt.isSigned
      else (f dt).round s.t.fmtRnd s.t.fmtSat ((f st).toReal p)⟩
  | .vpack a dt st isat d x y => some ⟨a, dt.width, 3, d, [x, y], true, fun s j =>
      let n := 512 / st.width
      let p := if j < n then srcLane s st.width x j else srcLane s st.width y (j - n)
      let f := laneFmt s.t.fmtNan
      if st.isI then (if isat then satInt (laneInt st p) dt.width dt.isSigned else wrapInt (laneInt st p) dt.width)
      else (f dt).round s.t.fmtRnd s.t.fmtSat ((f st).toReal p)⟩
  | .vunpack a dt st hi d x => some ⟨a, dt.width, 3, d, [x], true, fun s j =>
      let p := srcLane s st.width x (if hi then j + 512 / dt.width else j)
      if st.isI then wrapInt (laneInt st p) dt.width
      else if dt = .f32 then p * 2 ^ 16
      else fBf16.round false false ((laneFmt s.t.fmtNan st).toReal p)⟩
  | .vscale a t d x y => some ⟨a, t.width, 3, d, [x, y], true, fun s j =>
      (laneFmt false t).round false false
        ((toR t (srcLane s t.width x j)).scale (signExtend (srcLane s t.width y j) t.width))⟩
  | .vround a rm t d x => some ⟨a, t.width, 3, d, [x], true, fun s j => laneRound rm t (srcLane s t.width x j)⟩
  | _ => none

/-- The ops of R272-R278: reductions, special functions, top-k, gating and histograms. -/
def vecSpecial : Instr → Option VecOp
  | .vredadd a t sat d x => some ⟨a, t.width, 6, d, [x], false, fun s j =>
      if j = 0 then tree (fun p q => arith t sat (exactSum [toR t p, toR t q]) (laneInt t p + laneInt t q))
        (fun i => if (s.t.enables a).getLsbD i then srcLane s t.width x i else if t.isF then 2 ^ (t.width - 1) else 0)
        (512 / t.width).log2 0
      else 0⟩
  | .vredmax a t d x => some ⟨a, t.width, 6, d, [x], false, fun s j =>
      if j = 0 then tree (laneMinMax true t)
        (fun i => if (s.t.enables a).getLsbD i then srcLane s t.width x i else identMinMax true t)
        (512 / t.width).log2 0
      else 0⟩
  | .vredmin a t d x => some ⟨a, t.width, 6, d, [x], false, fun s j =>
      if j = 0 then tree (laneMinMax false t)
        (fun i => if (s.t.enables a).getLsbD i then srcLane s t.width x i else identMinMax false t)
        (512 / t.width).log2 0
      else 0⟩
  | .vrcp a d x => some ⟨a, 32, 12, d, [x], true, fun s j => sfRcp (srcLane s 32 x j)⟩
  | .vrsq a d x => some ⟨a, 32, 12, d, [x], true, fun s j => sfRsq (srcLane s 32 x j)⟩
  | .vexp2 a d x => some ⟨a, 32, 12, d, [x], true, fun s j => sfExp2 (srcLane s 32 x j)⟩
  | .vlog2 a d x => some ⟨a, 32, 12, d, [x], true, fun s j => sfLog2 (srcLane s 32 x j)⟩
  | .vtanh a d x => some ⟨a, 32, 12, d, [x], true, fun s j => sfTanh (srcLane s 32 x j)⟩
  | .vsigm a d x => some ⟨a, 32, 12, d, [x], true, fun s j => sfSigm (srcLane s 32 x j)⟩
  | .vrcpr a d x y => some ⟨a, 32, 4, d, [x, y], true, fun s j => refineRcp (srcLane s 32 x j) (srcLane s 32 y j)⟩
  | .vrsqr a d x y => some ⟨a, 32, 4, d, [x, y], true, fun s j => refineRsq (srcLane s 32 x j) (srcLane s 32 y j)⟩
  | .vtopk a k d x y z => some ⟨a, 32, 8, d, [x, y, z], false, fun s j =>
      (topk ((List.range 16).map (srcLane s 32 x)) ((List.range 16).map (srcLane s 32 y))
        ((List.range 16).map (srcLane s 32 z)) (s.t.enables a) (k.val + 1)).getD j 0 % 2 ^ 32⟩
  | .vgate a k d x => some ⟨a, 32, 16, d, [x], false, fun s j =>
      (gate ((List.range 16).map (srcLane s 32 x)) (k.val + 1)).getD j 0 % 2 ^ 32⟩
  | .vhist a half d x y b => some ⟨a, 32, 6, d, [x, y], false, fun s j =>
      let w := if half then 16 else 32
      (srcLane s 32 y j + (List.range (512 / w)).countP fun i =>
        (s.t.enables a).getLsbD i && (srcLane s w x i : Int) - (s.rdS b).toInt == j) % 2 ^ 32⟩
  | _ => none
where
  /-- The pairwise tree over the 2^n lanes from lane `i` of level `n` up (R272). -/
  tree (node : Nat → Nat → Nat) (x : Nat → Nat) : Nat → Nat → Nat
    | 0, i => x i
    | n + 1, i => node (tree node x n (2 * i)) (tree node x n (2 * i + 1))

/-- An op with a mask destination: its attributes, destination and vector sources, and bit `j` of its result. -/
structure MaskOp where
  a : Attr
  d : Reg
  srcs : List Reg
  bit : State → Nat → Bool

/-- `vcmp` and `vclass` of R264 and R265, and the P-slot ops of R279. -/
def maskOp : Instr → Option MaskOp
  | .vcmp a cc t d x y => some ⟨a, d, [x, y], fun s j =>
      decide (j < 512 / t.width) && (s.t.enables a).getLsbD j &&
        cmpLane s.t.fmtNan cc t (srcLane s t.width x j) (srcLane s t.width y j)⟩
  | .vclass a t set d x => some ⟨a, d, [x], fun s j =>
      decide (j < 512 / t.width) && (s.t.enables a).getLsbD j && classLane s.t.fmtNan t set (srcLane s t.width x j)⟩
  | .mand a d x y => some ⟨a, d, [], fun s j => (s.rdM x).getLsbD j && (s.rdM y).getLsbD j⟩
  | .mor a d x y => some ⟨a, d, [], fun s j => (s.rdM x).getLsbD j || (s.rdM y).getLsbD j⟩
  | .mxor a d x y => some ⟨a, d, [], fun s j => (s.rdM x).getLsbD j != (s.rdM y).getLsbD j⟩
  | .mandn a d x y => some ⟨a, d, [], fun s j => (s.rdM x).getLsbD j && !(s.rdM y).getLsbD j⟩
  | .mnot a d x => some ⟨a, d, [], fun s j => !(s.rdM x).getLsbD j⟩
  | .mmov a d x => some ⟨a, d, [], fun s j => (s.rdM x).getLsbD j⟩
  | .mset a d x => some ⟨a, d, [], fun s j => (s.rdS x).getLsbD j⟩
  | .msetLo a d n => some ⟨a, d, [], fun _ j => decide (j < n.toNat)⟩
  | .mfromv a t sign d x => some ⟨a, d, [x], fun s j =>
      decide (j < 512 / t.width) &&
        if sign then decide (2 ^ (t.width - 1) ≤ srcLane s t.width x j) else srcLane s t.width x j != 0⟩
  | _ => none

/-- The destination of an op of the S, V and P slots. -/
def regResult (i : Instr) : Option Reg :=
  match i with
  | .sel _ d _ _ _ => some d
  | .vext _ _ d _ _ => some d
  | _ =>
    ((((((((twoOp i).map TwoOp.d).or ((divOp i).map TwoOp.d)).or ((oneOp i).map OneOp.d)).or
      ((constOp i).map ConstOp.d)).or ((vecArith i).map VecOp.d)).or ((vecMove i).map VecOp.d)).or
      ((vecConv i).map VecOp.d)).or ((vecSpecial i).map VecOp.d) |>.or ((maskOp i).map MaskOp.d)

/-- What an op of the S, V and P slots may change when it issues: its tile's queues by pops and a push, the writes in
flight, where its result and no other register is, its record of the bundle (log 8), what speculation keeps of a queue or a
register, and the buffers of the channels behind q2 and q3. Every other register, flag and byte is as it was. -/
structure RegisterFrame (d : Reg) (s t : State) : Prop where
  module_ : SameModule s t
  others : SameOthers s t
  bytes : SameBytes s.t t.t
  tile : t.t = { s.t with regs := t.t.regs, iss := t.t.iss, spec := t.t.spec, msg := t.t.msg }
  regs : t.t.regs = { s.t.regs with
    q0 := t.t.regs.q0
    q1 := t.t.regs.q1
    popped := t.t.regs.popped
    flight := t.t.regs.flight }
  flew : ∀ w ∈ t.t.regs.flight, w ∈ s.t.regs.flight ∨ Dest.reg w.dst = d
  stays : ∀ w ∈ s.t.regs.flight, w ∈ t.t.regs.flight
  msg : t.t.msg = { s.t.msg with chan := t.t.msg.chan }
  spec : s.t.spec = none → t.t.spec = none

/-! ### Loads and stores (R203-R208) -/

/-- An access of `n` bytes passes the checks of R203: inside the scratchpad, clear of the hamper, aligned. -/
def Accessible (t : Tile) (a : Int) (n al : Nat) : Prop :=
  0 ≤ a ∧ a + n ≤ 0x100000 ∧ t.hitsHamper a n = false ∧ a % al = 0

/-- A load has issued: it is the last of the tile's loads, due no earlier than 5 + `extra` cycles on and no earlier than any
before it, its delivery is scheduled, and nothing else of the tile or the module changed but the choice of its delay. -/
def LoadIssued (s t : State) (dst : LoadTo) (v : W512) (extra : Nat) (tag : BitVec 4) : Prop :=
  ∃ due, s.now + 5 + extra ≤ due ∧ (∀ l ∈ s.t.regs.loads, l.due ≤ due) ∧
    t.t = { s.t with
      regs := { s.t.regs with loads := s.t.regs.loads ++ [⟨dst, v, due, tag, s.t.isSpec⟩] }
      iss := t.t.iss } ∧
    ⟨due, s.cur, .loadDeliver⟩ ∈ t.agenda ∧ t.t.iss.verdict = .issued ∧
    t = { s with tiles := t.tiles, agenda := t.agenda, delays := t.delays } ∧ SameOthers s t

/-- A store may write its ranges: a thread that is not speculative any, a speculative one those in the swap region that no
matrix op in flight reads (R125, R202). -/
def MayStore (t : Tile) (ranges : List (Nat × Nat)) : Prop :=
  t.isSpec = true → ∀ w ∈ ranges, t.rangeInSwap w.1 w.2 = true ∧ t.matReads w.1 w.2 = false

/-- A store has issued: every byte reads as `new` gives it, or as before, in the thread's own view; a speculative store leaves
every committed byte, where the tile's memories are in canonical form (which every step keeps); and nothing but the scratchpad,
its swap region and its record of errors changed. -/
def Stored (s t : State) (new : Nat → Option Byte) : Prop :=
  (tileMemWf s.t = true → (∀ a, t.t.spmByte s.t.isSpec a = (new a).getD (s.t.spmByte s.t.isSpec a)) ∧
    (s.t.isSpec = true → ∀ a, t.t.spmByte false a = s.t.spmByte false a)) ∧
    t.t = { s.t with spm := t.t.spm, swap := t.t.swap, spmBad := t.t.spmBad, iss := t.t.iss } ∧
    SameModule s t ∧ SameOthers s t ∧ t.t.iss.verdict = .issued

/-- The bytes of a store of `n` bytes of a number at an address. -/
def storeAt (addr n x : Nat) (a : Nat) : Option Byte :=
  if addr ≤ a ∧ a < addr + n then some (BitVec.ofNat 8 (x / 2 ^ (8 * (a - addr)) % 256)) else none

/-! ### Control flow (R283-R289) -/

/-- Nothing of the module but the current tile differs, and nothing new is scheduled. -/
def OnlyTile (s t : State) : Prop := t = { s with tiles := t.tiles } ∧ SameOthers s t

/-- The transfers of R283 but `call`: where each goes, none where it is not taken. -/
def branchOp : Instr → Option (State → Option Nat)
  | .br _ a => some fun _ => some a.toNat
  | .brIndirect _ r => some fun s => some (s.rdS r).toNat
  | .bz _ r a => some fun s => if s.rdS r = 0 then some a.toNat else none
  | .bnz _ r a => some fun s => if s.rdS r = 0 then none else some a.toNat
  | .bm _ cc w m a => some fun s =>
      let b := (s.rdM m).toNat % 2 ^ MWid.bits w
      let taken := match cc with
        | .any => b != 0
        | .all => b == 2 ^ MWid.bits w - 1
        | .none => b == 0
      if taken then some a.toNat else none
  | .ret _ r => some fun s => some (s.rdS r).toNat
  | _ => none

/-- A transfer to an address: the thread stands at it, or, where it breaks R173, will trap there; the target bundle issues no
earlier than 3 cycles on; nothing else changed. -/
def Jumped (s t : State) (a : Nat) : Prop :=
  t.t.thr = (if s.t.targetOk a then { s.t.thr with pc := BitVec.ofNat 26 a, badTarget := none, base := s.now + 2 }
    else { s.t.thr with badTarget := some s.t.thr.pc, base := s.now + 2 }) ∧
  t.t = { s.t with thr := t.t.thr, iss := t.t.iss } ∧ t.t.iss.moved = true ∧ t.t.iss.verdict = .issued ∧ OnlyTile s t

/-- The three forms of `loop`: the body's length, and the count with the state after its source is read. -/
def loopOp : Instr → Option (Nat × (State → Except Stop (State × W32)))
  | .loop _ len n => some (len.toNat, fun s => .ok (s, n.setWidth 32))
  | .loopScalar _ len r => some (len.toNat, fun s => .ok (s, (s.rdS r).setWidth 32))
  | .loopQ1 _ len => some (len.toNat, fun s => s.popQ1.map fun s1 => (s1, (s1.t.iss.q1).getD 0))
  | _ => none

/-- Every open level has passed `n` more bundles. -/
def passed (l : Loops) (n : Nat) (k : Fin 6) : Level :=
  if l.lv[k].act then { l.lv[k] with pos := l.lv[k].pos + n } else l.lv[k]

/-- A value as a control register's number names it: what `csrr` reads in a tile with a thread (R145-R148). -/
def csrValue (s : State) : Nat → W64
  | 0x000 => 3
  | 0x001 => if s.t.csr.isapin = 3 then 0xFFF else if s.t.csr.isapin = 2 then 0x01F else 0x001
  | 0x002 => BitVec.ofNat 64 (3 + 2 ^ 4 * Config.stepping.toNat + 2 ^ 16 * 1024)
  | 0x003 => BitVec.ofNat 64 (s.rankOf s.cur).toNat
  | 0x004 => BitVec.ofNat 64 s.t.csr.fmt.toNat
  | 0x005 => if s.t.csr.chk then 1 else 0
  | 0x006 => BitVec.ofNat 64 s.t.csr.isapin.toNat
  | 0x007 => BitVec.ofNat 64 s.t.csr.eagerlim.toNat
  | 0x008 => BitVec.ofNat 64 s.t.csr.hampbase.toNat
  | 0x009 => BitVec.ofNat 64 s.t.csr.hampsize.toNat
  | 0x00A => BitVec.ofNat 64 s.t.csr.swapbase.toNat
  | 0x00B => s.t.csr.ulivec
  | 0x00C => BitVec.ofNat 64 s.t.csr.cbrto.toNat
  | 0x00D => match s.t.spec with
    | none => 0
    | some sp => BitVec.ofNat 64 ((if sp.wait then 0 else 1) + 2 * sp.gm.val + 2 ^ 4 * sp.stall + 2 ^ 8 * sp.vcopies.length +
        2 ^ 15 * sp.sends.length + 2 ^ 20 * (sp.sends.map HeldSend.bytes).sum)
  | 0x00E => BitVec.ofNat 64 s.t.csr.rowprog.toNat
  | 0x010 => BitVec.ofNat 64 s.t.csr.cause.toNat
  | 0x011 => BitVec.ofNat 64 s.t.csr.epc.toNat
  | 0x012 => s.t.csr.tval
  | 0x013 => BitVec.ofNat 64 (s.now - s.t.thr.domStart)
  | 0x014 => BitVec.ofNat 64 s.wclk
  | 0x015 => BitVec.ofNat 64 (((List.finRange 64).filter fun k => s.t.msg.chan[k].v).map fun k => 2 ^ k.val).sum
  | 0x016 => BitVec.ofNat 64 s.t.csr.xbase.toNat
  | n => if 0x20 ≤ n ∧ n ≤ 0x27 then s.t.csr.gm[Fin.ofNat 8 (n - 0x20)] else 0

/-- What `csrw` of a number leaves in the control registers (R135, R145). -/
def csrWritten (c : Csr) (x : W64) : Nat → Csr
  | 0x005 => { c with chk := x.getLsbD 0 }
  | 0x007 => if 256 ≤ x.toNat % 2 ^ 15 ∧ x.toNat % 2 ^ 15 ≤ 16384 then { c with eagerlim := x.setWidth 15 } else c
  | 0x00B => { c with ulivec := x &&& 0x1FFC1#64 }
  | 0x00C => if x.toNat % 2 ^ 32 = 0 then c else { c with cbrto := x.setWidth 32 }
  | _ => c

/-- The instructions that write a control register other than `fmt`, with the number and the source. -/
def csrwOp : Instr → Option (Nat × Reg)
  | .csrw _ n r => some (n.toNat, r)
  | .csrwEagerlim _ r => some (7, r)
  | .csrwCbrto _ r => some (0xC, r)
  | _ => none

/-- The instructions that write `fmt`: the opcode that a trap names, and the value offered. -/
def fmtOp : Instr → Option (Nat × Bool × (State → W64))
  | .fmt _ r => some (0x0C, true, fun s => s.rdS r)
  | .fmtImm _ v => some (0x0C, true, fun _ => v.setWidth 64)
  | .csrwFmt _ r => some (0x11, false, fun s => s.rdS r)
  | _ => none

/-- An atype and a wtype of the lists of R145. -/
def fmtListed (v : W64) : Prop :=
  (v.toNat % 16 = 2 ∨ v.toNat % 16 = 3 ∨ v.toNat % 16 = 4) ∧
    (v.toNat / 16 % 16 = 2 ∨ v.toNat / 16 % 16 = 3 ∨ v.toNat / 16 % 16 = 4 ∨ v.toNat / 16 % 16 = 0xD ∨ v.toNat / 16 % 16 = 0xE)

/-- The `tval` of a trap ILLEGAL with reason 0x10 CONTEXT (R190). -/
def contextVal (s : State) (opc : Nat) : W64 := BitVec.ofNat 64 (0x10 + 2 ^ 8 * s.t.iss.head + 2 ^ 16 * opc)

/-- A completion slot that a `fence` waits for (R297): in use, not terminal, and not a held send. -/
def Outstanding (t : Tile) (k : Fin 64) : Prop :=
  t.cpl[k].used = true ∧ t.cpl[k].state = 0 ∧ ∀ sp, t.spec = some sp → ∀ h ∈ sp.sends, slotIx h.xid ≠ k

/-- What `fence.eng`, `fence.moon` and `fence.all` wait for has finished (R297). -/
def EngDone (t : Tile) : Prop :=
  (∀ k, Outstanding t k → t.cpl[k].op = .recv ∨ t.cpl[k].op = .recvr ∨ t.cpl[k].op = .gbar ∨ t.cpl[k].op = .join) ∧
    t.mat.arr = [] ∧ t.mat.wgt = [] ∧ t.mat.wide = []
def MoonDone (t : Tile) : Prop :=
  ∀ k, Outstanding t k → t.cpl[k].op ≠ .mget ∧ t.cpl[k].op ≠ .mput ∧ t.cpl[k].op ≠ .matom ∧ t.cpl[k].op ≠ .exget
def AllDone (t : Tile) : Prop :=
  EngDone t ∧ MoonDone t ∧ t.regs.flight = [] ∧ ∀ l ∈ t.regs.loads, ∀ k, l.dst ≠ .s k

/-! ### Results on their way to registers, and queues (R138-R142, R181) -/

/-- A register write is in flight: behind the writes that land no later, before those that land later, its landing
scheduled, and nothing else changed. -/
def InFlight (s t : State) (w : RegWrite) : Prop :=
  (∃ l r, s.t.regs.flight = l ++ r ∧ (∀ x ∈ l, x.due ≤ w.due) ∧ (∀ x, r.head? = some x → w.due < x.due) ∧
    t.t = { s.t with regs := { s.t.regs with flight := l ++ w :: r } }) ∧
  ⟨w.due, s.cur, .resultWriteback⟩ ∈ t.agenda ∧ SameModule s t ∧ SameOthers s t

/-- The value of a register after the writes that are due have landed in order; `old` before them. -/
def landed (ws : List RegWrite) (d : Dest) (old : W512) : W512 :=
  ws.foldl (fun v w => if w.dst = d then (v &&& w.keep) ||| (w.val &&& ~~~w.keep) else v) old

/-- The entries of q1, those still on their way to it among them (R141). -/
def q1Held (t : Tile) : Nat := t.regs.q1.length + (t.regs.flight.filter fun w => w.dst == .q1).length

/-- A trap QUEUE_MISUSE names the register code of its queue (R363). -/
def queueTrap (n : Nat) : Stop := .trap .queueMisuse (BitVec.ofNat 64 (448 + n))

/-! ### Traps, reports and the ends of threads (R300, R363-R366) -/

/-- A report has entered a die's queue, or waits to (R366). -/
def Reported (t : State) (die : Fin 4) (r : Report) : Prop := r ∈ t.rep[die].q ∨ r ∈ t.rep[die].waiting

/-- The writes that an event which lands every write in flight makes, in order: those in flight but the ones whose value is still to
come (R371), and those of scalar loads (R186). -/
def landings (x : Tile) : List RegWrite :=
  (x.regs.loads.filterMap Load.write).foldl (fun l w => insertDue w l) (x.regs.flight.filter fun w => decide (w.due < 2 ^ 62))

/-- A scalar register once every write in flight has landed (R186). -/
def settled (x : Tile) (n : Fin 64) : W64 :=
  (((landings x).filter fun w => w.dst == .s n).getLast?.map fun w => w.val.setWidth 64).getD x.regs.s[n]

/-- Every write in flight has landed, but the ones whose value is still to come. -/
def AllLanded (x y : Tile) : Prop := y.regs.flight = x.regs.flight.filter fun w => decide (2 ^ 62 ≤ w.due)

/-- The code of a cause in `cause`, bit 8 inside a handler (R145, R363). -/
def causeVal (c : Cause) (inh : Bool) : Nat :=
  (match c with
    | .illegal => 1 | .slotOver => 2 | .staleRead => 3 | .scratchRange => 4 | .align => 5 | .fmtMismatch => 6
    | .slotViolation => 7 | .cbrTimeout => 8 | .eccUncorr => 9 | .engineFault => 10 | .swTrap => 12 | .loopDepth => 13
    | .queueMisuse => 14 | .priv => 15 | .specLimit => 16) + if inh then 256 else 0

/-- The thread of tile `k` has trapped (R365): the three registers say why and where, the writes in flight have landed, and
the thread has stopped; a supervisor outside its handler has entered it at address 0 instead (R314). The memories and the
other tiles are as they were. -/
def TrapTaken (s t : State) (k : Nat) (c : Cause) (tval : W64) (epc : IAddr) (spec : Bool) : Prop :=
  let x := s.tile k
  let y := t.tile k
  let enters := isSupervisor k && !x.thr.svHandler
  y.csr = { x.csr with cause := BitVec.ofNat 9 (causeVal c x.thr.inHandler), epc := epc, tval := tval } ∧
    AllLanded x y ∧ (∀ n : Fin 64, y.regs.s[n] = settled x n) ∧
    y.thr = (let v := { x.thr with drain := true, trapped := true, creditSince := none }
      if enters then { v with svHandler := true, pc := 0, badTarget := if x.targetOk 0 then none else some epc, base := s.now }
      else { v with st := .stopped, tbar := none, tbarGo := none }) ∧
    SameBytes x y ∧ y.loops = x.loops ∧ (∀ j, j ≠ k → t.tile j = s.tile j) ∧
    (isSupervisor k = false ∨ enters = true →
      Reported t (dieOf k) ⟨s.rankOf k, BitVec.ofNat 8 (causeVal c false), x.thr.inHandler, spec, epc, tval,
        BitVec.ofNat 64 s.wclk⟩)

/-! ### Packets on their way (R62, R72) -/

/-- The packet that a step of the agenda delivers, for packets of the fabric. -/
def eventPacket : Instr → Option Packet
  | .eager p | .rts p | .pull p | .rdata p | .accept p | .keephdr p | .held p | .fin p | .refuse p | .mreq p | .mrsp p
  | .rcontrib _ p | .rresult p | .brpred _ p | .brresult p | .e2eack p | .close p | .closeack p | .switchDieForward p => some p
  | _ => none

/-- A packet is in the fabric: on its way, or due at its end. -/
def InFabric (t : State) (p : Packet) : Prop :=
  (∃ x ∈ t.net.transit, x.pkt = p) ∨ ∃ e ∈ t.agenda, eventPacket e.ev = some p

/-- A packet, with whatever sequence number its pair gave it, is on its way, or waits for its pair. -/
def OnItsWay (t : State) (p : Packet) : Prop :=
  (∃ q, InFabric t q ∧ { q with sv := p.sv, seq := p.seq } = p) ∨ ∃ c, (c, p) ∈ t.net.waiting

/-- A packet as its kind has it, without a sequence number (R66, R67, R72). -/
def Plain (p : Packet) (kind : Nat) : Prop :=
  p.rsv = 0 ∧ p.kind.toNat = kind ∧ kindCls kind = some p.cls.toNat ∧ p.sv = false

/-! ### Collective branches (R291, R331-R340) -/

/-- The two collective branches: their membership register, predicate, hint and target, and whether all must hold. -/
def cbrOp : Instr → Option (Bool × Fin 8 × Pred × Bool × BitVec 17)
  | .cbrAny _ gm p h a => some (false, gm, p, h, a)
  | .cbrAll _ gm p h a => some (true, gm, p, h, a)
  | _ => none

/-- The loop sequencer as a discard leaves it: the checkpoint, without the strides that waited for a level (R288, R338). -/
def Restored (sp : Spec) (l : Loops) : Prop :=
  l.depth = sp.ckptLoops.depth ∧ ∀ k : Fin 6, l.lv[k] =
    if sp.ckptLoops.lv[k].act then sp.ckptLoops.lv[k] else { sp.ckptLoops.lv[k] with strides := [] }

/-- The predicate bit that a thread contributes (R291). -/
def predicate (s : State) : Pred → Bool
  | .mask n w => decide ((if n = 0 then 2 ^ 64 - 1 else s.t.regs.m[n].toNat) % 2 ^ MWid.bits w ≠ 0)
  | .scalar r => decide (s.rdS r ≠ 0)

/-! ### Engine ops (R105, R197-R202) -/

/-- The lowest-numbered FREE slot of a completion table (R198). -/
def LowestFree (t : Tile) (k : Fin 64) : Prop := t.cpl[k].used = false ∧ ∀ j < k, t.cpl[j].used = true

/-- The transfer id that a FREE slot gives next (R105). -/
def nextXid (t : Tile) (k : Fin 64) : W16 := BitVec.ofNat 16 (k.val + 64 * (t.cpl[k].seq + 1).toNat)

/-- A destination takes a scalar result: it is no full queue (R141). -/
def CanTake (s : State) (a : Attr) (d : Reg) : Prop := ∃ t, s.wrS a 1 d 0 = .ok t

/-- The address and length of a buffer word (R197). -/
def bufAddr (x : W64) : Nat := x.toNat % 2 ^ 20
def bufLen (x : W64) : Nat := x.toNat / 2 ^ 20 % 2 ^ 21

/-- What R198 refuses in a buffer word: reserved bits, a length above 1 MiB, a range outside the scratchpad or in the
hamper. -/
def bufBad (s : State) (x : W64) : Bool :=
  decide (x.toNat / 2 ^ 41 ≠ 0) || decide (2 ^ 20 < bufLen x) || decide (0x100000 < bufAddr x + bufLen x) ||
    s.t.hitsHamper (bufAddr x) (bufLen x)

/-- A membership register that holds no joined group, or one that expelled the thread (R144, R198). -/
def notJoined (s : State) (gm : Fin 8) : Bool := !(s.t.csr.gm[gm]).getLsbD 16 || (s.t.csr.gm[gm]).getLsbD 17

/-- The group of a membership register (R144). -/
def groupOf (s : State) (gm : Fin 8) : W16 := (s.t.csr.gm[gm]).setWidth 16

/-- A placed gang binds the dispatch queue of this number of the current tile's die (R313, R355). -/
def bindsQueue (s : State) (q : Fin 8) : Bool :=
  (s.dq (dieOf s.cur) q).bound.any fun h => (s.sched.gangs.find? fun g => g.handle == h).any fun g => !g.suspended

/-- An engine op that takes a completion slot: its attributes, destination, kind, user-level interrupt bit, and the reason
of its first failing check, if any (R198, R199). -/
structure EngOp where
  a : Attr
  d : Reg
  op : SlotOp
  uli : Bool
  reason : Option Nat

/-- The engine ops whose slot, checks and destination follow R198 alone, with the reasons of R213-R225 and R311-R313. -/
def engOp (s : State) : Instr → Option EngOp
  | .send a ty gm uli d sr sb => some ⟨a, d, .send, uli, sendReason false ty gm sr sb⟩
  | .ssend a ty gm uli d sr sb => some ⟨a, d, .ssend, uli, sendReason true ty gm sr sb⟩
  | .recv a gm uli d _ sb sm => some ⟨a, d, .recv, uli,
      if bufBad s (s.rdS sb) || decide (2 ^ 32 ≤ (s.rdS sm).toNat) || notJoined s gm then some 0x81 else none⟩
  | .mget a uli d _ sb sm => some ⟨a, d, .mget, uli, moonReason sb sm⟩
  | .mput a uli d _ sb sm => some ⟨a, d, .mput, uli,
      (moonReason sb sm).orElse fun _ =>
        if (s.t.badWord (bufAddr (s.rdS sb)) (bufLen (s.rdS sb))).isSome then some 0x85 else none⟩
  | .sendr a op wide gm uli d sb si => some ⟨a, d, .sendr, uli,
      let b := s.rdS sb
      let n := match op with
        | .wmerge => 80
        | .isum => if wide then 8 else 4
        | _ => 4
      let short := if op = .wmerge then decide (bufLen b < 80 ∨ 480 < bufLen b) else decide (bufLen b < 4 ∨ 512 < bufLen b)
      if bufBad s b || decide (2 ^ 16 ≤ (s.rdS si).toNat) || notJoined s gm || short || decide (bufLen b % n ≠ 0) ||
          decide (bufAddr b % (if op = .wmerge then 16 else n) ≠ 0) then some 0x81
      else if (s.t.badWord (bufAddr b) (bufLen b)).isSome then some 0x85 else none⟩
  | .recvr a gm uli d sb si => some ⟨a, d, .recvr, uli,
      if bufBad s (s.rdS sb) || decide (2 ^ 16 ≤ (s.rdS si).toNat) || notJoined s gm then some 0x81 else none⟩
  | .gbar a gm uli d si => some ⟨a, d, .gbar, uli,
      if decide (2 ^ 16 ≤ (s.rdS si).toNat) || notJoined s gm then some 0x81 else none⟩
  | .join a gm uli d sg => some ⟨a, d, .join, uli,
      let w := (s.rdS sg).toNat
      if (s.t.csr.gm[gm]).getLsbD 16 || decide (w / 2 ^ 36 % 2 ^ 20 = 0) || decide (2 ^ 56 ≤ w) then some 0x81
      else if w / 2 ^ 16 % 2 ^ 20 = s.mgmt.pkg.toNat ∨ (s.route (w / 2 ^ 16 % 2 ^ 20)).isSome then none else some 0x82⟩
  | .launch a uli d sa => some ⟨a, d, .launch, uli,
      let x := (s.rdS sa).toNat
      let bs := s.t.spmRead false (x % 2 ^ 20) 128
      if decide (2 ^ 20 ≤ x) || decide (x % 16 ≠ 0) || decide (0x100000 < x % 2 ^ 20 + 128) ||
          s.t.hitsHamper (x % 2 ^ 20 : Nat) 128 then some 0x81
      else if (s.t.badWord (x % 2 ^ 20) 128).isSome then some 0x85
      else if ((Klr.of bs).refusal bs).isSome then some 0x84 else none⟩
  | .recq a q uli d sb => some ⟨a, d, .recq, uli,
      let b := s.rdS sb
      if bufBad s b || decide (bufLen b < 16) || decide (4096 < bufLen b) || decide (bufLen b % 16 ≠ 0) ||
          decide (bufAddr b % 16 ≠ 0) then some 0x81
      else if (s.t.badWord (bufAddr b) (bufLen b)).isSome then some 0x85
      else if (cutRecords (s.t.spmRead false (bufAddr b) (bufLen b)) (bufLen b / 16)).any (fun r => !recordOk r) ||
          !bindsQueue s q then some 0x84
      else none⟩
  | .rclose a q uli d => some ⟨a, d, .rclose, uli,
      if !bindsQueue s q then some 0x84 else none⟩
  | _ => none
where
  sendReason (sync : Bool) (ty : Ety) (gm : Fin 8) (sr sb : Reg) : Option Nat :=
    if bufBad s (s.rdS sb) || notJoined s gm || (ty != .raw && decide (bufLen (s.rdS sb) % (ty.width / 8) ≠ 0)) then
      some 0x81
    else if !destOk ((s.rdS sr).setWidth 32) then some 0x82
    else if (s.t.isSpec || !sync && decide (bufLen (s.rdS sb) ≤ s.t.csr.eagerlim.toNat)) &&
        (s.t.badWord (bufAddr (s.rdS sb)) (bufLen (s.rdS sb))).isSome then some 0x85
    else none
  moonReason (sb sm : Reg) : Option Nat :=
    if bufBad s (s.rdS sb) || decide (2 ^ 32 ≤ (s.rdS sm).toNat) then some 0x81
    else if !moonRankOk ((s.rdS sm).setWidth 32) then some 0x82 else none

/-- An engine op has issued: its slot `k` is in use with the next sequence, every other slot is as it was, and its xid is on
its way to the destination. -/
structure EngineIssued (s t : State) (o : EngOp) (k : Fin 64) : Prop where
  used : t.t.cpl[k].used = true
  seq : t.t.cpl[k].seq = s.t.cpl[k].seq + 1
  op : t.t.cpl[k].op = o.op
  uli : t.t.cpl[k].uli = o.uli
  slots : ∀ j, j ≠ k → t.t.cpl[j] = s.t.cpl[j]
  dest : ∀ n, o.d = .s n →
    ⟨s.now + 1, .s n, (nextXid s.t k).setWidth 512, 0, o.a.sba, false⟩ ∈ t.t.regs.flight
  push : o.d = .q 1 → ⟨s.now + 1, .q1, (nextXid s.t k).setWidth 512, 0, o.a.sba, false⟩ ∈ t.t.regs.flight
  regs : t.t.regs = { s.t.regs with flight := t.t.regs.flight }
  csr : t.t.csr = s.t.csr
  verdict : t.t.iss.verdict = .issued
  others : SameOthers s t

/-- Ops that wait, with stall code 4, while the thread is speculative (R202, R292). -/
def waitsForResolution : Instr → Bool
  | .recv .. | .probe .. | .cancel .. | .mput .. | .matom .. | .recvr .. | .gbar .. | .join .. | .leave .. | .launch ..
  | .recq .. | .rclose .. | .chld .. | .sendc .. | .recvc .. | .recvac .. | .hwin _ | .trap .. | .halt _ | .tbar .. | .eret ..
  | .read .. | .config .. | .pagein .. | .evict .. | .pin .. | .unpin .. | .discard .. | .tctl .. => true
  | _ => false

/-! ### Messages (R83-R104) -/

/-- The envelope of a send (R83, R85, R213). -/
def sendEnv (s : State) (sync : Bool) (ty : Ety) (gm : Fin 8) (sr sb : Reg) (xid : W16) : Env where
  src := s.rankOf s.cur
  tag := ((s.rdS sr) >>> 32).setWidth 32
  group := groupOf s gm
  etype := BitVec.ofNat 4 ty.code
  nan := s.t.csr.fmt.getLsbD 8
  rdv := sync || decide (s.t.csr.eagerlim.toNat < bufLen (s.rdS sb))
  sync := sync
  len := bufLen (s.rdS sb)
  dst := (s.rdS sr).setWidth 32
  sxid := xid

/-- The message of an envelope: EAGER with the data, or an RTS (R86). -/
def message (e : Env) (data : List Byte) : Packet :=
  mkPacket e.src e.dst (if e.rdv then 0x01 else 0x00) e.group e.sxid 0 0 (e.bytes ++ if e.rdv then [] else data)

/-- The two sends. -/
def sendOf : Instr → Option (Bool × Ety × Fin 8 × Reg × Reg)
  | .send _ ty gm _ _ sr sb => some (false, ty, gm, sr, sb)
  | .ssend _ ty gm _ _ sr sb => some (true, ty, gm, sr, sb)
  | _ => none

/-- The posted receive of a `recv` (R88). -/
def recvPost (s : State) (gm : Fin 8) (sr sb sm : Reg) (xid : W16) : Posted :=
  ⟨(s.rdS sr).setWidth 32, ((s.rdS sr) >>> 32).setWidth 32, (s.rdS sm).setWidth 32, groupOf s gm, bufAddr (s.rdS sb),
    bufLen (s.rdS sb), xid⟩

/-- The predicate of R87. -/
def Matches (r : Posted) (e : Env) : Prop :=
  e.group = r.group ∧ (r.src = BitVec.allOnes 32 ∨ r.src = e.src) ∧ (e.tag ^^^ r.tag) &&& r.tmask = 0

/-- A held envelope that a receive may take (R92, R102). -/
def Takes (r : Posted) (h : HeldEnv) : Prop := h.kind ≠ .result ∧ h.taken = none ∧ Matches r h.env

/-- The first entry of a list with a property. -/
def IsFirst {α : Type} (l : List α) (p : α → Prop) (x : α) : Prop :=
  ∃ u v, l = u ++ x :: v ∧ p x ∧ ∀ y ∈ u, ¬ p y

/-- A control packet back to the sender of an envelope (R86). -/
def reply (e : Env) (kind aux off : Nat) : Packet := mkPacket e.dst e.src kind e.group e.sxid aux off []

/-- No uncorrectable error in one of its tables has stopped a message engine (R372). -/
def EngineWorks (t : Tile) : Prop := t.msg.dead = false ∧ ∀ x ∈ t.bad, ¬ (0x300000 ≤ x ∧ x < 0x300006)

/-- A tile whose engine answers packets of a group: it works, no pre-emption holds it, and the group is not suspended (R372, R374,
R376). -/
def EngineActs (t : Tile) (group : W16) : Prop := EngineWorks t ∧ t.thr.preempt = .none ∧ group ∉ t.msg.filter

/-- A thread was expelled from a group (R144, R339). -/
def Expelled (t : Tile) (group : W16) : Prop :=
  ∃ k : Fin 8, (t.csr.gm[k]).getLsbD 17 = true ∧ (t.csr.gm[k]).setWidth 16 = group

/-- The current tile takes an envelope in this cycle: its thread runs and its engine acts, neither it nor a suspended thread of its
rank was expelled from the group, no refused message of the source is outstanding, and no other arrival is taken or waits (R89, R90,
R97, R339, R376). -/
structure Receives (s : State) (e : Env) : Prop where
  running : s.t.thr.st = .running
  acts : EngineActs s.t e.group
  member : ¬ Expelled s.t e.group
  saved : ∀ v ∈ s.sched.saves, v.rank = s.rankOf s.cur → ¬ Expelled v.tile e.group
  answered : ∀ r ∈ s.t.msg.refused, r.1 ≠ e.src
  turn : s.t.msg.tookAt ≠ some s.now
  first : s.t.msg.inbox = [] ∧ s.t.msg.released = []

/-- The piece of [0, n) that an RDATA stream sends next from `off`, without the chunks left out: the first byte of a chunk that is sent,
at most 4096 bytes within it (R96, R376). -/
structure NextPiece (skip : W64) (n off o m : Nat) : Prop where
  reach : off ≤ o ∧ o < n
  kept : skip.getLsbD (o / (512 * 2 ^ chunkExp n)) = false
  least : ∀ x, off ≤ x → x < o → skip.getLsbD (x / (512 * 2 ^ chunkExp n)) = true
  len : m = min (min 4096 (n - o)) (512 * 2 ^ chunkExp n - o % (512 * 2 ^ chunkExp n))

/-- No send in flight has a transfer id (R370). -/
def NoSend (t : Tile) (xid : W16) : Prop :=
  let c := t.cpl[slotIx xid]
  c.used = false ∨ c.seq ≠ xidSeq xid ∨ (c.op ≠ .send ∧ c.op ≠ .ssend) ∨ c.state ≠ 0

/-- A message of an envelope arrives at the current tile. -/
def Arriving (s : State) (i : Instr) (e : Env) (data : List Byte) : Prop :=
  ∃ p, ((e.rdv = false ∧ i = .eager p ∧ Plain p 0x00) ∨ (e.rdv = true ∧ i = .rts p ∧ Plain p 0x01)) ∧
    Env.of p.payload = some e ∧ p.payload.drop 32 = data ∧ isHostKey s.cur = false

/-- A BUSY slot with a given status, as it is once its transfer has ended (R106-R108). -/
def ended (c : Slot) (now : Nat) (st : BitVec 4) (len : W32) (src : W32) : Slot :=
  { c with
    state := st
    length := len
    src := src
    bits := if st = 1 ∨ st = 3 then BitVec.allOnes 64 else c.bits
    uliAt := if c.uli then some now else none }

/-- A transfer in flight: its slot is in use under this id, BUSY, and not discarded (R105, R338). -/
def InProgress (t : Tile) (xid : W16) (c : Slot) : Prop :=
  t.cpl[slotIx xid] = c ∧ c.used = true ∧ c.seq = xidSeq xid ∧ c.state = 0 ∧ c.drop = false

/-- Only one completion slot of the current tile, and what is on its way, changed. -/
def OnlySlot (s t : State) (xid : W16) (c : Slot) : Prop :=
  t.t = { s.t with cpl := s.t.cpl.set (slotIx xid) c } ∧ SameOthers s t ∧ t = { s with tiles := t.tiles }

/-- The bytes that a copy of `bs` to an address leaves, with the rest as it was, in the committed view, where the tile's memories
are in canonical form (which every step keeps). -/
def Copied (s t : State) (addr : Nat) (bs : List Byte) : Prop :=
  tileMemWf s.t = true → ∀ a, t.t.spmByte false a = if addr ≤ a ∧ a < addr + bs.length then bs.getD (a - addr) 0 else s.t.spmByte false a

/-! ### The copy engine (R131-R134, R210-R212) -/

/-- The step of an operation (R133). -/
def copyStep (op : Nat) : Instr :=
  if op = 0 then .copy else if op = 1 then .fill else if op = 2 then .transpose else if op = 3 then .gather else .scatter

/-- The entries of the index list of an operation. -/
def listLen (op : Nat) (src dst : Shape) : Nat := if op = 3 then dst.outer else if op = 4 then src.outer else 0

/-- Where an element of an operation comes from, none for the pad value, and where it goes (R133), with the index list `l`. -/
def copyMove (op : Nat) (src dst : Shape) (l : List Nat) (o : Nat) : Option Int × Int :=
  let i := dst.index o
  if op = 0 then
    (if i.1 < src.extent 0 ∧ i.2.1 < src.extent 1 ∧ i.2.2.1 < src.extent 2 ∧ i.2.2.2 < src.extent 3 then
      some (src.at i.1 i.2.1 i.2.2.1 i.2.2.2) else none, dst.addr o)
  else if op = 1 then (none, dst.addr o)
  else if op = 2 then (some (src.at i.2.1 i.1 i.2.2.1 i.2.2.2), dst.addr o)
  else if op = 3 then
    let k := l.getD (outerOf dst.ndm1 i) 0
    (if k < src.outer then some (src.atIx (setOuter dst.ndm1 k i)) else none, dst.addr o)
  else
    let i := src.index o
    (some (src.addr o), dst.atIx (setOuter src.ndm1 (l.getD (outerOf src.ndm1 i) 0) i))

/-- The elements of one cycle: as many as 64 bytes, 4 words read and 4 words written allow (R134). -/
def Batch (size count next : Nat) (mv : Nat → Option Int × Int) (k : Nat) : Prop :=
  let fits (k : Nat) : Prop := k * size ≤ 64 ∧
    ((List.range' next k).map fun o => (mv o).2.toNat / 16).eraseDups.length ≤ 4 ∧
    ((List.range' next k).filterMap fun o => (mv o).1.map fun a => a.toNat / 16).eraseDups.length ≤ 4
  (k = 0 ∨ next + k ≤ count) ∧ fits k ∧ (next + k < count → ¬ fits (k + 1))

/-- Elements were written one after another: a byte is that of the last element that covers it, every other byte is as it was (R133),
where the tile's memories are in canonical form. -/
def Moved (s t : State) (os : List Nat) (size : Nat) (dst : Nat → Int) (val : Nat → Nat → Byte) : Prop :=
  tileMemWf s.t = true → ∀ a : Nat, t.t.spmByte false a =
    match os.reverse.find? fun o => decide (dst o ≤ a ∧ (a : Int) < dst o + size) with
    | some o => val o (a - (dst o).toNat)
    | none => s.t.spmByte false a

/-- Two records that pass the checks of R129 and those of their operation, with their spans apart (R133). -/
structure Records (s : State) (op : Nat) (src dst : Shape) : Prop where
  legal : src.rsv = false ∧ dst.rsv = false ∧ s.t.shapeTrap src = none ∧ s.t.shapeTrap dst = none
  fits : copyFits op src dst = true
  apart : op = 1 ∨ spansMeet src dst = false

/-- A work set that the copy engine has started, with its slot and the records it is about to read (R131, R133); no word read holds an
error. -/
structure CopyReady (s : State) (w : WorkSet) (rest : List WorkSet) (c : Slot) (src dst : Shape) : Prop where
  head : s.t.copy.ws = w :: rest
  slot : InProgress s.t w.xid c
  unread : w.recs = none
  plain : w.spec = false
  clean : s.t.spmBad = []
  op : w.regs[0].toNat % 8 ≤ 4
  dstIs : dst = Shape.of (s.t.spmNat false (w.regs[2].toNat % 2 ^ 20) 32)
  srcIs : src = if w.regs[0].toNat % 8 = 1 then dst else Shape.of (s.t.spmNat false (w.regs[1].toNat % 2 ^ 20) 32)
  records : Records s (w.regs[0].toNat % 8) src dst

/-- Index `j` of a work set's list. -/
def listIx (s : State) (w : WorkSet) (j : Nat) : Nat := s.t.spmNat false (w.regs[3].toNat % 2 ^ 20 + 4 * j) 4

/-- A work set whose records have been read, and whose index list `l` is read now or was before; no index is bad (R133). -/
structure CopyRuns (s : State) (w : WorkSet) (rest : List WorkSet) (c : Slot) (src dst : Shape) (l : List Nat) : Prop where
  head : s.t.copy.ws = w :: rest
  slot : InProgress s.t w.xid c
  read : w.recs = some (src, dst)
  plain : w.spec = false
  clean : s.t.spmBad = []
  op : w.regs[0].toNat % 8 ≤ 4
  records : Records s (w.regs[0].toNat % 8) src dst
  same : w.regs[0].toNat % 8 = 1 → src = dst
  list : l = w.list.getD ((List.range (listLen (w.regs[0].toNat % 8) src dst)).map (listIx s w))
  gather : w.regs[0].toNat % 8 = 3 → ∀ j < dst.outer, l.getD j 0 < src.outer ∨ dst.pad = true
  scatter : w.regs[0].toNat % 8 = 4 → ∀ j < src.outer, l.getD j 0 < dst.outer
  geom : c.geom = some ((if w.regs[0].toNat % 8 = 4 then src else dst).count * (if w.regs[0].toNat % 8 = 4 then src else dst).size)

/-- One cycle of a work set's moves: the elements, the chunk bits, the first ordinal not written, and the next step or the end
(R107, R133, R134). `old` gives the chunk bits as they were. -/
def CopyBatch (s t : State) (w : WorkSet) (rest : List WorkSet) (lead : Shape) (mv : Nat → Option Int × Int) (dst : Shape)
    (old : Nat → Bool) : Prop :=
  let len := lead.count * lead.size
  ∃ k, Batch lead.size lead.count w.next mv k ∧ 
    Moved s t (List.range' w.next k) lead.size (fun o => (mv o).2) (fun o j =>
      (mv o).1.elim (dst.padBytes.getD j 0) fun x => s.t.spmByte false (x.toNat + j)) ∧
    t.t.copy = { s.t.copy with ws := { w with next := w.next + k } :: rest } ∧ (t.t.cpl[slotIx w.xid]).state = 0 ∧
    (∀ b < 64, (t.t.cpl[slotIx w.xid]).bits.getLsbD b =
      (old b || decide ((b + 1) * (512 * 2 ^ chunkExp len) ≤ (w.next + k) * lead.size ∨
        len ≤ (w.next + k) * lead.size ∧ b < nchunks len))) ∧
    (∃ e ∈ t.agenda, e.unit = s.cur ∧
      if lead.count ≤ w.next + k then e.ev = .copyWorksetDone ∧ s.now + (if lead.count = 0 then 0 else 1) ≤ e.due
      else e.ev = copyStep (w.regs[0].toNat % 8) ∧ s.now + 1 ≤ e.due) ∧
    t.t.regs = s.t.regs ∧ SameOthers s t

/-! ### Moon transfers (R217-R220) -/

/-- The request of a piece (R43, R217). -/
def pieceRequest (s : State) (xid : W16) (op : Nat) (phys : Bool) (body : List Byte) (p : Piece) (i : Nat) : Packet :=
  mkPacket (s.rankOf s.cur) p.moon 0x10 0 xid 0 0
    (mreqHeader op phys s.t.thr.asid p.len (p.addr % 2 ^ 64) (s.rankOf s.cur) xid i ++ body)

/-- The pieces of a transfer have been requested: its slot is BUSY with them, and every request is on its way. -/
def Requested (s t : State) (k : Fin 64) (op : Nat) (phys : Bool) (body : Piece → List Byte) (ps : List Piece) : Prop :=
  t.t.cpl[k].state = 0 ∧ t.t.cpl[k].x.pieces = ps ∧
    ∀ i (h : i < ps.length), OnItsWay t (pieceRequest s (nextXid s.t k) op phys (body ps[i]) ps[i] i)

/-- The code of an atomic (R44). -/
def atomCode (op : AtomOp) (wide : Bool) : Nat :=
  (match op with
    | .add => 2 | .smin => 4 | .umin => 6 | .smax => 8 | .umax => 10 | .xchg => 12 | .cas => 14) + if wide then 1 else 0

/-- The record of a `matom` (R219): its address, and its moon, address, and operands. -/
def atomRec (s : State) (sa : Reg) : Nat := s.t.spmNat false ((s.rdS sa).toNat % 2 ^ 20) 48
def atomReason (s : State) (op : AtomOp) (wide : Bool) (sa : Reg) : Option Nat :=
  let x := (s.rdS sa).toNat
  let r := atomRec s sa
  let a := r / 2 ^ 128 % 2 ^ 64
  let b := r / 2 ^ 192 % 2 ^ 64
  if 2 ^ 20 ≤ x ∨ 0x100000 < x % 2 ^ 20 + 48 ∨ s.t.hitsHamper (x % 2 ^ 20 : Nat) 48 = true ∨ x % 16 ≠ 0 then some 0x81
  else if (s.t.badWord (x % 2 ^ 20) 48).isSome then some 0x85
  else if r / 2 ^ 32 % 2 ^ 32 ≠ 0 ∨ r / 2 ^ 320 ≠ 0 ∨ (wide = false ∧ 2 ^ 32 ≤ a) ∨ (op ≠ .cas ∧ b ≠ 0) ∨
      (wide = false ∧ 2 ^ 32 ≤ b) then some 0x81
  else if moonRankOk (BitVec.ofNat 32 r) = false then some 0x82 else none

/-! ### Moons (R42-R60) -/

/-- The moon that the current unit is, and the base of its region in the HBM space (R42). -/
def thisMoon (s : State) : Moon := s.moon s.moonKey

/-- The reply of a moon to a request (R47). -/
def moonReply (s : State) (r : MReq) (status reason : Nat) (value : Nat) (data : List Byte) : Packet :=
  mkPacket (s.rankOf s.cur) r.reply 0x11 0 r.xid 0 0
    (bytesOf (status + 2 ^ 8 * reason + 2 ^ 16 * r.chunk.toNat + 2 ^ 32 * r.xid.toNat + 2 ^ 64 * value) 16 ++ data)

/-- A request was answered FAULT, kept in `mfault` and reported (R48). -/
def MoonFaulted (s t : State) (r : MReq) (reason : Nat) : Prop :=
  OnItsWay t (moonReply s r 2 reason 0 []) ∧
    (thisMoon t).mfault = r.header ∧
    ∃ q, Reported t (dieOf s.cur) q ∧ q.rank = s.rankOf s.cur ∧ q.code = 0x26 ∧
      q.tval = BitVec.ofNat 64 (reason + 2 ^ 8 * r.op.toNat + 2 ^ 32 * r.src.toNat)

/-- The unit is a moon of the module. -/
def AtMoon (s : State) : Prop := ∃ k : Fin 64, s.cur = rankKeyOfMoon k.val

/-- The unit waits with a report that found its queue full (R366). -/
def ReportWaits (s : State) : Prop := ∃ r ∈ s.rep[dieOf s.cur].waiting, r.rank = s.rankOf s.cur

/-- A moon takes a request: it runs, waits with no report, has room, and has taken none in this cycle (R53, R54, R60, R366). -/
def Accepts (s : State) : Prop :=
  (thisMoon s).stopped = false ∧ ¬ ReportWaits s ∧ (thisMoon s).queue.length < 512 ∧ (thisMoon s).tookAt ≠ some s.now

/-- The result of an atomic on `n` bits (R45). -/
def atomResult (op : Nat) (n old a b : Nat) : Nat :=
  let so := (BitVec.ofNat n old).toInt
  let sa := (BitVec.ofNat n a).toInt
  match op / 2 with
  | 1 => (old + a) % 2 ^ n
  | 2 => if so ≤ sa then old else a
  | 3 => if old ≤ a then old else a
  | 4 => if so < sa then a else old
  | 5 => if old < a then a else old
  | 6 => a
  | _ => if old = b then a else old

/-- The steps in which a moon performs an atomic, with the codes of its two widths (R44). -/
def atomStep : Instr → Option (Fin 64 × Nat × Nat)
  | .moonAdd m i => some (m, i, 2)
  | .moonSmin m i => some (m, i, 4)
  | .moonUmin m i => some (m, i, 6)
  | .moonSmax m i => some (m, i, 8)
  | .moonUmax m i => some (m, i, 10)
  | .moonXchg m i => some (m, i, 12)
  | .moonCas m i => some (m, i, 14)
  | _ => none

/-- A request that moon `m` may perform: the one with its id, translated, on words without error, the moon running. -/
def Performs (s : State) (m : Fin 64) (r : MReq) (pa : Nat) : Prop :=
  IsFirst (s.moon m.val).queue (fun q => q.id = r.id) r ∧ r.pa = some pa ∧ (s.moon m.val).stopped = false ∧
    (∀ b ∈ s.hbmBad, ¬ (m.val * 0x180000000 + pa ≤ b ∧ b < m.val * 0x180000000 + pa + r.len)) ∧
    (∀ q ∈ (s.moon m.val).queue, q.id = r.id → q = r) ∧ ¬ ReportWaits { s with cur := rankKeyOfMoon m.val }

/-- A request has left a moon's queue, performed. -/
def Performed (s t : State) (m : Fin 64) (r : MReq) : Prop :=
  (t.moon m.val).queue = (s.moon m.val).queue.filter (fun q => q.id != r.id) ∧
    (t.moon m.val).tlb = (s.moon m.val).tlb ∧ t.tiles = s.tiles ∧ (∀ j, j ≠ m.val → t.moon j = s.moon j)

/-! ### Channels (R109-R115) -/

/-- Whether a send end's window is open (R111): at or after its start, in the first `wlen` cycles of its period. -/
def openAt (c : Chan) (cyc : Nat) : Prop := c.w ≤ cyc ∧ ((cyc : Int) - c.w) % c.wper < c.wlen
def windowOpen (s : State) (c : Chan) : Prop := openAt c (s.cyc s.t).toNat

/-- A bundle that has waited for a channel's credit since an earlier cycle meets the end of its window (R111). -/
def windowEnds (s : State) (c : Chan) : Prop :=
  (∃ b, s.t.thr.creditSince = some b ∧ b < s.now) ∧ ¬ windowOpen s c ∧ openAt c ((s.cyc s.t).toNat - 1)

/-- The tile at the other end of a channel, and a packet to it for the entry it names (R67, R109). -/
def peerOf (s : State) (c : Chan) : Nat := s.cur / 1024 * 1024 + c.peer
def toPeer (s : State) (c : Chan) (kind cls : Nat) (data : List Byte) : Packet :=
  ⟨s.rankOf (peerOf s c), s.rankOf s.cur, BitVec.ofNat 6 kind, BitVec.ofNat 2 cls, false, 0, 0, 0, 0, 0,
    BitVec.ofNat 8 c.pch.val, 0, data, []⟩

/-- An entry of the current tile's channel table has a new value; the rest of its message engine is as it was. -/
def OnlyChan (s t : State) (k : Fin 64) (c : Chan) : Prop := t.t.msg = { s.t.msg with chan := s.t.msg.chan.set k c }

/-- The scalar that an op's destination takes in the next cycle. -/
def Gives (s t : State) (a : Attr) (d : Reg) (x : W64) : Prop :=
  ∀ n, d = .s n → ⟨s.now + 1, .s n, x.setWidth 512, 0, a.sba, false⟩ ∈ t.t.regs.flight

/-- The reductions that a result of R81 carries: status, flags, op, ident, group and the missing mask. -/
def resultOf (p : Packet) : Nat := ofBytes (p.payload.take 16)

/-- Of the module, only the switch die's reductions, and what is on its way, differ from a state. -/
def SameTiles (s t : State) : Prop := t.tiles = s.tiles ∧ t.moons = s.moons ∧ t.hbm = s.hbm ∧ t.ert = s.ert ∧ t.sched = s.sched

/-- A contribution that a combining point knows (R77-R80): of a formed group, from a source that speaks for members of it,
for a key that is neither late nor passed on. -/
def Contributes (s : State) (pt : Point) (p : Packet) (g : Group) : Prop :=
  s.groupOf (Contrib.of p).key = some g ∧ s.speaksFor g pt p.src ≠ [] ∧ (∀ l ∈ s.red.late, l.1 ≠ (Contrib.of p).key) ∧
    (pt, (Contrib.of p).key) ∉ s.red.passed

/-- No thread of a packet's source has a BUSY `sendr` under its transfer id (R224). -/
def NoSendr (s : State) (p : Packet) : Prop :=
  (s.tile (keyOf p.src)).contributes p.xid p.group = false ∧
    ∀ v ∈ s.sched.saves, v.rank = p.src → v.tile.contributes p.xid p.group = false

/-- What a combining point has done with an input (R77-R80): one that it does not know, whose key is late or passed on, or whose place
has its input, is discarded and counted; the first of its key takes a slot with its timer, or waits at the switch die where none is
free. -/
def Combined (s : State) (pt : Point) (p : Packet) (t : State) : Prop :=
  let c := Contrib.of p
  let late := t.red = { s.red with redlate := if s.red.redlate = BitVec.allOnes 32 then s.red.redlate else s.red.redlate + 1 }
  SameTiles s t ∧
  ((¬ ∃ g, Contributes s pt p g) → late) ∧
  (∀ g x, Contributes s pt p g → s.redSlot pt c.key = some x → (pt = .switch → s.isFrozen 2 x.ix = false) →
    (∃ j ∈ x.inputs, j.place = s.placeOf pt p.src) → late) ∧
  (∀ g, Contributes s pt p g → s.redSlot pt c.key = none → pt ≠ .switch → p.bad = [] →
    (∃ e ∈ s.expected g c.key pt, e.1 ≠ s.placeOf pt p.src) →
    (∃ x ∈ t.red.slots, x.pt = pt ∧ x.key = c.key ∧ x.op = c.op ∧ x.wide = c.wide ∧ x.len = c.data.length ∧
      x.inputs = [⟨s.placeOf pt p.src, if c.data = [] then none else some c.data, c.missing⟩] ∧
      x.due = s.now + s.red.rsto.toNat / 4) ∧
    ∃ e ∈ t.agenda, e.due = s.now + s.red.rsto.toNat / 4 ∧ ∃ d, pt = .die d ∧ e.ev = .dieCombineTimeout d c.key) ∧
  (∀ g, Contributes s pt p g → s.redSlot pt c.key = none → pt = .switch → s.red.freeIx = none →
    (∀ w ∈ s.red.waiting, (Contrib.of w.2).key ≠ c.key) →
    t.red = { s.red with waiting := s.red.waiting ++ [(s.now, p)] } ∧ ⟨s.now + 65536, switchKey, .slotWait c.key⟩ ∈ t.agenda)

/-! ### Groups and the timers of reductions (R78, R80, R308-R310) -/

/-- The lowest completion slot of a tile that holds a `join` of a group word that no group has registered (R308). -/
def Joining (s : State) (rank : Rank) (word : W64) (k : Fin 64) : Prop :=
  let mine (j : Fin 64) : Prop := let c := (s.tile (keyOf rank)).cpl[j]
    c.used = true ∧ c.state = 0 ∧ c.op = .join ∧ c.x.word = word ∧
      ∀ g ∈ s.red.groups, ∀ q ∈ g.joiners,
        ¬ (q.rank = rank ∧ q.gang = (s.tile (keyOf rank)).thr.gang ∧ q.xid = some (mkXid j c.seq))
  (∀ v ∈ s.sched.saves, v.rank ≠ rank) ∧ mine k ∧ ∀ j < k, ¬ mine j

/-- No group has an uncorrectable error in its entry (R372). -/
def GroupsClean (s : State) : Prop := ∀ g ∈ s.red.groups, s.isFrozen 4 g.ix = false

/-- The membership register of a member of a formed group, with its TBAR bit: every member of its timed domain (R144, R309). -/
def memberWord (s : State) (k : Nat) (grp : W16) (members : List Rank) : W64 :=
  BitVec.ofNat 64 (grp.toNat + 2 ^ 16 +
    if members.all fun r => s.isLocal r && (s.tile (keyOf r)).thr.domain == (s.tile k).thr.domain then 2 ^ 18 else 0)

/-- A transfer of a gang's thread is BUSY, and the thread stands on its tile. -/
def BusyAt (s : State) (r : Rank) (gang : Option W32) (xid : W16) : Prop :=
  (∀ v ∈ s.sched.saves, v.rank ≠ r) ∧ (s.tile (keyOf r)).thr.gang = gang ∧ ∃ c, InProgress (s.tile (keyOf r)) xid c

/-! ### The matrix engine (R231-R252) -/

/-- The record that a matrix op names (R127, R237). -/
def recordAt (s : State) (sa : Reg) : Shape := Shape.of (s.t.spmNat s.t.isSpec (s.rdS sa).toNat 32)

/-- The matrix ops: attributes, what they put in their pipe, and the cycles that reading a record adds (R231-R252). -/
def matIssue (s : State) : Instr → Option (Attr × MatOp × Nat)
  | .mma a acc w sa => some (a, .mma acc w (recordAt s sa), 2)
  | .mmaw a acc w gs sa => some (a, .mmaw acc w gs (recordAt s sa), 2)
  | .wld a w gs sa => some (a, .wld w gs (s.rdS sa).toNat, 0)
  | .mzero a acc => some (a, .mzero acc, 0)
  | .mld a acc sa => some (a, .mld acc (recordAt s sa), 2)
  | .mst a acc sa => some (a, .mst acc (recordAt s sa), 2)
  | .lclr a sa => some (a, .lclr (s.rdS sa).toNat, 0)
  | .ladd a bf sa vb => some (a, .ladd (s.rdS sa).toNat bf (s.rdV 32 vb) (s.t.enables a), 0)
  | .lmadd a bf sa vb vc => some (a, .lmadd (s.rdS sa).toNat bf (s.rdV 32 vb) (s.rdV 32 vc) (s.t.enables a), 0)
  | .lmerge a sa sb => some (a, .lmerge (s.rdS sa).toNat (s.rdS sb).toNat, 0)
  | .lrnd a bf clr d sa => some (a, .lrnd (s.rdS sa).toNat bf clr (match d with
      | .s n => some n
      | _ => none), 0)
  | _ => none

/-- No op of the pipes keeps a new one out: its pipe holds fewer than four, and what it reads or writes is not being written,
nor what it writes being read (R234, R235). -/
def PipesFree (m : MatEng) (op : MatOp) : Prop :=
  (m.pipe op.pipe).length < 4 ∧
    (∀ a, op.writesAcc = some a → ∀ p ∈ m.arr, p.op.writesAcc ≠ some a ∧ p.op.readsAcc ≠ some a) ∧
    (∀ a, op.readsAcc = some a → ∀ p ∈ m.arr, p.op.writesAcc ≠ some a) ∧
    (∀ w, op.readsW = some w → ∀ p ∈ m.wgt, p.op.writesW ≠ some w) ∧
    (∀ w, op.writesW = some w → (∀ p ∈ m.wgt, p.op.writesW ≠ some w) ∧ ∀ p ∈ m.arr, p.op.readsW ≠ some w)

/-- A record of a matrix op lies where R129 wants it. -/
def RecordThere (s : State) (sa : Reg) : Prop :=
  (s.rdS sa).toNat % 16 = 0 ∧ (s.rdS sa).toNat + 32 ≤ 0x100000 ∧ s.t.hitsHamper (s.rdS sa).toNat 32 = false ∧
    s.t.badWord (s.rdS sa).toNat 32 = none

/-- It has two dimensions, no padding, at most 128 by 32 elements, and a type of the op's (R237). -/
def RecordForm (r : Shape) (types : List Nat) : Prop :=
  r.rsv = false ∧ r.ndm1 = 1 ∧ r.pad = false ∧ 1 ≤ r.ext[0] ∧ r.ext[0] ≤ 128 ∧ 1 ≤ r.ext[1] ∧ r.ext[1] ≤ 32 ∧
    r.etype.toNat ∈ types

/-- A wide accumulator is aligned, in the scratchpad and clear of the hamper (R249). -/
def WideThere (s : State) (sa : Reg) : Prop := (s.rdS sa).toNat % 16 = 0 ∧ s.t.outside (s.rdS sa).toNat 80 = false

/-- The checks of a matrix op, apart from its pipes (R237-R251). -/
def matChecks (s : State) : Instr → Prop
  | .mma _ _ w sa => RecordThere s sa ∧ RecordForm (recordAt s sa) [s.t.csr.fmt.toNat % 16] ∧
      s.t.spanBad (recordAt s sa) = none ∧ (recordAt s sa).alignBad = none ∧ s.t.mat.w[w].integer = false
  | .mmaw _ _ w _ sa => RecordThere s sa ∧ RecordForm (recordAt s sa) [s.t.csr.fmt.toNat % 16] ∧
      s.t.spanBad (recordAt s sa) = none ∧ (recordAt s sa).alignBad = none ∧ s.t.mat.w[w].integer = true
  | .mld _ _ sa => RecordThere s sa ∧ RecordForm (recordAt s sa) [1, 2] ∧ s.t.spanBad (recordAt s sa) = none ∧
      (recordAt s sa).alignBad = none
  | .mst _ _ sa => RecordThere s sa ∧ RecordForm (recordAt s sa) [1, 2, 3, 4] ∧ s.t.spanBad (recordAt s sa) = none ∧
      (recordAt s sa).alignBad = none
  | .wld _ _ gs sa => (s.t.csr.fmt.toNat / 16 % 16 = 0xE → s.t.csr.isapin = 3) ∧ (s.rdS sa).toNat % 16 = 0 ∧
      s.t.outside (s.rdS sa).toNat (blockBytes (s.t.csr.fmt.toNat / 16 % 16) gs) = false
  | .lclr _ sa | .ladd _ _ sa _ | .lmadd _ _ sa _ _ | .lrnd _ _ _ _ sa => WideThere s sa
  | .lmerge _ sa sb => WideThere s sa ∧ WideThere s sb ∧ ((s.rdS sa).toNat = (s.rdS sb).toNat ∨
      (s.rdS sa).toNat + 80 ≤ (s.rdS sb).toNat ∨ (s.rdS sb).toNat + 80 ≤ (s.rdS sa).toNat)
  | _ => True

/-- The record operand of the ops that have one. -/
def recordOp : Instr → Option (Reg × List Nat)
  | .mld _ _ sa => some (sa, [1, 2])
  | .mst _ _ sa => some (sa, [1, 2, 3, 4])
  | _ => none

/-- The accumulator operand of the wide ops that have one. -/
def wideOp : Instr → Option Reg
  | .lclr _ sa | .ladd _ _ sa _ | .lmadd _ _ sa _ _ | .lrnd _ _ _ _ sa => some sa
  | _ => none

/-- An element of an accumulator tile by its place, of a weight buffer, and of its scales. -/
def accAt (x : Tile) (a : Fin 8) (i : Nat) : W32 := (x.mat.acc.find (4096 * a.val + i)).getD 0
def accWas (x : Tile) (a : Fin 8) (i : Nat) : W32 := (x.mat.acc.dense (4096 * a.val) 4096 0).getD i 0
def weightWas (x : Tile) (w : Fin 2) (i : Nat) : Machine.Num := realBf ((x.mat.w[w].w.dense 0 16384 0).getD i 0).toNat
def scaleWas (x : Tile) (w : Fin 2) (i : Nat) : Machine.Num := realBf ((x.mat.w[w].sc.dense 0 512 0).getD i 0).toNat

/-- The element of a row and a column after `mma` (no scales) or `mmaw`: K-groups of 32 in ascending order, each an exact dot
product, scaled, and added with one rounding (R162, R241). -/
def dotRow (x : Tile) (nan : Bool) (w : Fin 2) (scales : Option Bool) (r : Shape) (row col : Nat) (c : W32) : W32 :=
  let f := if r.etype = 2 then fBf16 else if r.etype = 3 then fE4m3 nan else fE5m2
  let term (k : Nat) : Machine.Num :=
    exactMul (f.toReal (x.spmNat false (r.elem k row).toNat r.size)) (weightWas x w (128 * k + col))
  BitVec.ofNat 32 ((List.range ((r.ext[0] + 31) / 32)).foldl (fun c g =>
    let d := exactSum (((List.range r.ext[0]).filter fun k => k / 32 == g).map term)
    roundF32 (exactSum [real32 c, match scales with
      | none => d
      | some gs => exactMul (scaleWas x w ((if gs then 128 * g else 0) + col)) d])) c.toNat)

/-- The head of a pipe has completed: the pipe is shorter, its next op starts as soon as its record is read, unless a pre-emption
stops the pipes (R234, R248), and of the module only the tile and the
free values (log 5) may differ. -/
def PipeShorter (s t : State) (p : Pipe) (rest : List PipeOp) : Prop :=
  t.t.mat.pipe p = rest ∧
    (∀ o, rest.head? = some o → s.t.thr.preempt = .none → ⟨max s.now o.ready, s.cur, .matrixPipeOpStart p⟩ ∈ t.agenda) ∧ SameModule s t ∧ SameOthers s t

/-- A pipe op that starts from its first row, with no error in what it meets (R241-R247). -/
def PipeHead (s : State) (p : Pipe) (o : PipeOp) (rest : List PipeOp) (op : MatOp) : Prop :=
  s.t.mat.pipe p = o :: rest ∧ o.op = op ∧ o.done = 0 ∧ o.spec = false ∧ s.t.spmBad = [] ∧ s.t.bad = []

/-- The 12 or 16 bytes of a group of 32 integer weights (R239). -/
def weightGroup (s : State) (base : Nat) (g k n : Nat) : Nat := s.t.spmNat false (base + (128 * (k / 32) + n) * g) g

/-! ### Launches and gangs (R343-R352, R377) -/

/-- Every scheduler is due to look at its queue (R346, R347). -/
def Awake (t : State) : Prop := ∀ k : Fin 5, ∃ e ∈ t.agenda, e.ev = .schedulerPick k

/-- A launch stands in the queue of its record: its handle, the record, the die of its dispatcher, and where it came from. -/
def Enqueued (s t : State) (r : Klr) (die : Fin 4) (origin : Rank) : Prop :=
  let q : Fin 5 := if r.form then Fin.ofNat 5 r.die.val else 4
  t.sched.handle = s.sched.handle + 1 ∧ (t.sched.q[q]).length = (s.sched.q[q]).length + 1 ∧ Awake t ∧
    ∃ x ∈ t.sched.q[q], x.handle = s.sched.handle ∧ x.klr = r ∧ x.bindDie = die ∧ x.entered = s.now ∧ x.resume = false ∧
      x.origin = origin

/-- A member as its launch places it: registers at reset, image, arguments and areas in place, running from its first bundle
(R351). -/
structure PlacedTile (x : Tile) (k : Nat) (g : Gang) (now : Nat) (img args : List Byte) : Prop where
  regs : x.regs = Regs.reset
  loops : x.loops = Loops.reset
  spec : x.spec = none
  imem : ∀ a, x.imem.get a = img.getD a 0
  spm : ∀ a, x.spm.get a = if g.klr.xbase ≤ a then args.getD (a - g.klr.xbase) 0 else 0
  csr : x.csr = { Csr.reset with
    isapin := g.klr.pin
    hampbase := BitVec.ofNat 20 (g.klr.hampb * 16384)
    hampsize := BitVec.ofNat 19 (g.klr.hampk * 16384)
    swapbase := BitVec.ofNat 20 (g.klr.swapb * 65536)
    xbase := BitVec.ofNat 20 g.klr.xbase }
  st : x.thr.st = .running
  pc : x.thr.pc = 0
  gang : x.thr.gang = some g.handle
  asid : x.thr.asid = g.klr.asid
  queue : x.thr.queue = if g.klr.rwv then some g.klr.queue else none
  waits : x.thr.starting = g.klr.grp.isSome
  clock : x.thr.domStart = now

/-- A gang is gone, and its placement's failure is reported with a reason (R351). -/
def GaveUp (t : State) (h : W32) (reason : Nat) : Prop :=
  (∀ g ∈ t.sched.gangs, g.handle ≠ h) ∧
    ∃ r, Reported t 0 r ∧ r.code = 0x2F ∧ r.tval = BitVec.ofNat 64 (h.toNat + 2 ^ 32 * reason)

/-- The pieces in which a member's program image is fetched (R351). -/
def imagePieces (g : Gang) : List Piece := cutPieces g.klr.imgmoon g.klr.imgva (64 * g.klr.imglines) 0 cutFuel

/-- Every request of a unit's step has been answered, and none faulted. -/
def StepAnswered (s : State) (unit : Nat) (ev : Instr) : Prop := ∀ j ∈ s.jobs, j.isOf unit ev = true → ∀ p ∈ j.pieces, p.reply = some 0

/-- What a rank's read number `tag` of a step has brought: nothing where it has no pieces. -/
def ReadBack (s : State) (ev : Instr) (r : Rank) (tag : Nat) (ps : List Piece) (bs : List Byte) : Prop :=
  let mine (j : Job) : Prop := j.isOf 1022 ev = true ∧ j.owner = r ∧ j.tag = tag
  if ps = [] then bs = [] ∧ ∀ j ∈ s.jobs, ¬ mine j else ∃ j, IsFirst s.jobs mine j ∧ j.data.flatten = bs

/-- What a rank's read number `tag` of a step of its own has brought. -/
def ReadAt (s : State) (unit : Nat) (ev : Instr) (r : Rank) (tag : Nat) (bs : List Byte) : Prop :=
  ∃ j, IsFirst s.jobs (fun j => j.isOf unit ev = true ∧ j.owner = r ∧ j.tag = tag) j ∧ j.data.flatten = bs

/-- The first request of a step of the schedulers that faulted, with its reason (R48, R351). -/
def StepFaulted (s : State) (ev : Instr) (reason : Nat) : Prop :=
  let failed (p : Piece) : Prop := ∃ c, p.reply = some c ∧ c ≠ 0
  ∃ j p, IsFirst s.jobs (fun j => j.isOf 1022 ev = true ∧ ∃ p ∈ j.pieces, failed p) j ∧ IsFirst j.pieces failed p ∧
    p.reply = some (BitVec.ofNat 8 reason) ∧ reason < 0xFF

/-- A saved member is back: what its image holds, what the module keeps of it, and its program (R377). -/
def BroughtBack (s t : State) (v : Saved) (prog img : List Byte) (spill : Bool) : Prop :=
  let x := t.tile (keyOf v.rank)
  let num (o w i : Nat) : Nat := ofBytes ((img.drop (o + w * i)).take w)
  let reg (n : Nat) : Nat := num 0x06300 8 n
  (∀ n : Fin 64, x.regs.s[n] = BitVec.ofNat 64 (num 0x06000 8 n.val)) ∧
    (∀ n : Fin 384, x.regs.v[n] = BitVec.ofNat 512 (num 0 64 n.val)) ∧
    (∀ n : Fin 16, n ≠ 0 → x.regs.m[n] = BitVec.ofNat 64 (num 0x06280 8 n.val)) ∧
    x.csr.fmt = BitVec.ofNat 11 (reg 4) ∧ x.csr.isapin = BitVec.ofNat 2 (reg 6) ∧ x.csr.eagerlim = BitVec.ofNat 15 (reg 7) ∧
    x.csr.ulivec = BitVec.ofNat 64 (reg 0xB) ∧ x.csr.cause = BitVec.ofNat 9 (reg 0x10) ∧ x.csr.epc = BitVec.ofNat 26 (reg 0x11) ∧
    x.csr.tval = BitVec.ofNat 64 (reg 0x12) ∧ x.csr.gm = v.tile.csr.gm ∧
    x.loops = v.tile.loops ∧ x.cpl = v.tile.cpl ∧ x.spec = v.tile.spec ∧ x.copy = v.tile.copy ∧
    x.thr.st = v.tile.thr.st ∧ x.thr.pc = v.tile.thr.pc ∧ x.thr.preempt = .none ∧
    (∀ a, x.imem.get a = prog.getD a 0) ∧
    ∀ a < 0x100000, x.spm.get a =
      if reg 0xA % 2 ^ 20 ≤ a ∧ a < reg 0xA % 2 ^ 20 + 0x10000 then img.getD (0x60000 + (a - reg 0xA % 2 ^ 20)) 0
      else if spill then img.getD (0x80000 + a) 0 else (s.tile (keyOf v.rank)).spm.get a

/-! ### Expert dispatch (R33-R36, R354-R361) -/

/-- A record of a push, as the open round takes it (R354, R356). -/
def entered (late : Bool) (r : RouteRec) : RouteRec := { r with carried := late, evicted := false }

/-- A counter raised by `n`, saturating (R362). -/
def raised (x : W32) (n : Nat) : Nat := min (2 ^ 32 - 1) (x.toNat + n)

/-- What R357's steps 1 to 3 give of a round: the rows are records of it, each at most once, of real experts, at most `cap` to
an expert, in cut order; spares among them are marked; and what is left is counted. -/
structure RoundCut (recs rows : List RouteRec) (k cap dropped1 spares : Nat) : Prop where
  real : ∀ r ∈ rows, r.expert ≠ 0xFFFF ∧ r.none = false
  from_ : ∃ l : List RouteRec, l.Sublist (recs.filter fun r => r.expert != 0xFFFF#16 && !r.none) ∧
    rows.Perm (l.map fun r => if k ≤ r.choice.toNat then { r with evicted := true } else r)
  cap_ : ∀ e, rows.countP (fun r => r.expert == e) ≤ cap
  order : rows.Pairwise fun x y => x.expert.toNat < y.expert.toNat ∨ (x.expert = y.expert ∧ (x.token.toNat < y.token.toNat ∨
    (x.token = y.token ∧ x.choice.toNat ≤ y.choice.toNat)))
  first : dropped1 = recs.countP fun r => r.expert == 0xFFFF#16 || r.none
  count : spares = rows.countP fun r => decide (k ≤ r.choice.toNat)

/-! ### The expert residency table (R26-R40) -/

/-- The commands of length 0 (R38). -/
def ertOp : Instr → Option (Attr × Reg × Reg × Reg)
  | .pagein a d sa sb | .evict a d sa sb | .pin a d sa sb | .unpin a d sa sb | .discard a d sa sb => some (a, d, sa, sb)
  | _ => none

/-- A command of length 0 is well formed: a 16-bit expert and an empty buffer (R38). -/
def CommandOk (s : State) (sa sb : Reg) : Prop :=
  (s.rdS sa).toNat < 2 ^ 16 ∧ (s.rdS sb).toNat < 2 ^ 41 ∧ bufLen (s.rdS sb) = 0

/-- A command's status is on its way to its destination, at once or later by a delay (R38). -/
def Answers (s t : State) (a : Attr) (d : Reg) (x : W64) : Prop :=
  (∀ n, d = .s n → ∃ due, s.now + 1 ≤ due ∧ ⟨due, .s n, x.setWidth 512, 0, a.sba, false⟩ ∈ t.t.regs.flight) ∧
    t.t.iss.verdict = .issued ∧ SameOthers s t

/-- One entry of the table, and no other, has a new value. -/
def OnlyEntry (s t : State) (e : W16) (x : ErtEnt) : Prop :=
  t.ertEnt e = x ∧ ∀ e', e' ≠ e → t.ertEnt e' = s.ertEnt e'

/-- The page-in queue's first job that waits for a slot choice (R37). -/
def NextJob (s : State) (j : PageIn) : Prop := IsFirst s.ert.pageq (fun j => j.slot = none ∧ j.waiting = false) j

/-- The die to which a page-in reports: the one that missed, die 0 for a command (R40). -/
def reportsTo (j : PageIn) : Fin 4 := if j.miss then j.die else 0

/-! ### The supervisor's commands, pre-emption and reports (R315, R366, R369, R374-R378) -/

/-- The supervisor reads an answer over the service network: nothing else changed. -/
def Read (s : State) (x : W64) : State :=
  { s with mgmt := { s.mgmt with readback := s.mgmt.readback ++ [x] } }

/-- A rank of the supervisor's own die (R315). -/
def OwnDie (s : State) (r : Rank) : Prop := s.isLocal r = true ∧ dieOf (keyOf r) = dieOf s.cur

/-- The step that a command code of `tctl` stands for (R315). -/
def IsCommand (r : Rank) (w v : Nat) (i : Instr) : Prop :=
  (w % 16 = 0 ∧ i = .state r) ∨ (w % 16 = 1 ∧ i = .resume r) ∨
  (w % 16 = 2 ∧ i = .expel r (Fin.ofNat 8 (w / 2 ^ 8 % 8))) ∨ (w % 16 = 3 ∧ i = .preempt r) ∨
  (w % 16 = 4 ∧ i = .mapspare r (BitVec.ofNat 4 (w / 2 ^ 12))) ∨
  (w % 16 = 5 ∧ i = .wrcsr r (BitVec.ofNat 12 (w / 2 ^ 16)) (BitVec.ofNat 64 v)) ∨
  (w % 16 = 6 ∧ i = .rdcsr r (BitVec.ofNat 12 (w / 2 ^ 16)))

/-- The report of a thread's trap waits for room in its die's queue (R366). -/
def TrapWaits (s : State) (r : Rank) : Prop := ∃ q ∈ s.rep[dieOf (keyOf r)].waiting, q.rank = r

/-- MAPSPARE may map a spare in for a rank (R371): armed, present, and no channel, no timed domain and no halt ties the rank to its
tile. -/
structure SpareFits (s : State) (r : Rank) (n : Nat) : Prop where
  compute : isCompute (keyOf r) = true
  armed : s.sched.spares[dieOf (keyOf r)].armed = some (r, BitVec.ofNat 4 n)
  number : n < 8
  unused : ∀ u ∈ s.sched.spares[dieOf (keyOf r)].used, u.2 ≠ n
  sound : n ∉ s.sched.spares[dieOf (keyOf r)].bad
  ends : ∀ i : Fin 64, (s.tile (keyOf r)).msg.chan[i].v = false
  peers : ∀ k, k ≠ keyOf r → dieOf k = dieOf (keyOf r) → ∀ i : Fin 64, (s.tile k).msg.chan[i].v = true →
    (s.tile k).msg.chan[i].peer ≠ keyOf r % 1024
  alone : (s.tile (keyOf r)).thr.st = .none ∨ ∀ k, k ≠ keyOf r → dieOf k = dieOf (keyOf r) → (s.tile k).thr.st = .none ∨
    (s.tile k).thr.domain ≠ (s.tile (keyOf r)).thr.domain
  free : (s.tile (keyOf r)).thr.preempt = .none

/-- The router of a die sends a rank to a spare. -/
def Mapped (s t : State) (d : Fin 4) (k n : Nat) : Prop :=
  t.sched.spares[d].used = s.sched.spares[d].used.filter (fun u => u.1 != k % 1024) ++ [(k % 1024, n)]

/-- The pieces of a save slot: an image of 512 KiB, or 1.5 MiB with the scratchpad, in the region of the die's save moon (R375). -/
def slotPieces (s : State) (d : Fin 4) (n : Nat) (spill : Bool) : List Piece :=
  let p := (s.sched.savepool[d]).toNat
  cutPieces (s.rankOf (d.val * 1024 + 288 + p % 16)) ((p / 16 % 2 ^ 12 + n) * 0x200000)
    (if spill then 0x180000 else 0x80000) 0 cutFuel

/-- A tile's image goes to a save slot in physical PUTs, one for each piece, and the tile is kept with it (R375). -/
def Saving (s t : State) (n : Nat) (spill : Bool) : Prop :=
  let me := s.rankOf s.cur
  let ps := slotPieces s (dieOf s.cur) n spill
  t.tiles = s.tiles ∧ t.sched = { s.sched with saves := s.sched.saves ++ [⟨dieOf s.cur, n, me, s.t⟩] } ∧
    ∃ xid, ∀ i (h : i < ps.length), OnItsWay t (mkPacket me ps[i].moon 0x10 0 xid 0 0
      (mreqHeader 1 true 0 ps[i].len (ps[i].addr % 2 ^ 64) me xid i ++ ((s.image s.cur spill).drop ps[i].off).take ps[i].len))

/-- Nothing keeps a tile's thread from stopping at its next boundary: no branch, no trap that waits (R374). -/
def AtBoundary (s : State) : Prop :=
  s.t.spec = none ∧ s.t.thr.deferred = [] ∧ s.t.bad = [] ∧ ∃ b, s.fetch s.cur = .ok b

/-! ### Host queues (R380-R385) -/

/-- A number in an entry of a host queue, `n` bytes from a byte offset, little-endian (R382). -/
def bytesAt (bs : List Byte) (off n : Nat) : Nat := ofBytes ((bs.drop off).take n)

/-- The submission entry that a pair's head names: 256 bytes of host memory (R380). -/
def entryOf (s : State) (q : Fin 64) : List Byte :=
  s.host.mem.read (((s.host.pair[q]).sub.toNat + 256 * (s.host.pair[q]).head) % 2 ^ 64) 256

/-- A pair has an entry to be taken: it is enabled, of a legal size, and its ring is not empty (R380). -/
def HasEntry (p : Pair) : Prop :=
  p.en = true ∧ 4 ≤ p.lsize.toNat ∧ p.lsize.toNat ≤ 12 ∧ p.head ≠ p.tail.toNat % 2 ^ p.lsize.toNat

/-- The steps that take an entry: the kind of each, and the bytes of its body that are not reserved (R381, R382). -/
def hostKind : Instr → Option (Nat × List (Nat × Nat))
  | .hostLaunch => some (1, [(32, 128)])
  | .hostDctr => some (2, [(32, 2), (36, 4)])
  | .hostAbort => some (3, [(32, 4)])
  | .hostSend => some (4, [(32, 4), (36, 4), (40, 2), (42, 1), (44, 4), (48, 8)])
  | .hostRecv => some (5, [(32, 4), (36, 4), (40, 4), (44, 2), (48, 4), (56, 8)])
  | .hostCancel => some (6, [(32, 4)])
  | .hostHwin => some (7, [(32, 4)])
  | _ => none

/-- An entry of a kind whose other bytes are zero (R381). -/
def EntryForm (bs : List Byte) (kind : Nat) (used : List (Nat × Nat)) : Prop :=
  bytesAt bs 0 1 = kind ∧ ∀ k < 256, bs.getD k 0 ≠ 0 →
    k = 0 ∨ k = 2 ∨ k = 3 ∨ ∃ u ∈ used, u.1 ≤ k ∧ k < u.1 + u.2

/-- Host memory and the queue pairs; the pair's head past the entry taken; bytes written; a completion entry written, its
phase alternating with each pass of the ring (R383). -/
def ringsOf (s : State) : Mem × Vector Pair 64 := (s.host.mem, s.host.pair)
def headTaken (m : Mem × Vector Pair 64) (q : Fin 64) : Mem × Vector Pair 64 :=
  (m.1, m.2.set q { m.2[q] with head := if (m.2[q]).head + 1 = 2 ^ (m.2[q]).lsize.toNat then 0 else (m.2[q]).head + 1 })
def wroteHost (m : Mem × Vector Pair 64) (a : Nat) (bs : List Byte) : Mem × Vector Pair 64 := (m.1.write (a % 2 ^ 64) bs, m.2)
def answerTo (m : Mem × Vector Pair 64) (q : Fin 64) (tag status aux value : Nat) : Mem × Vector Pair 64 :=
  let p := m.2[q]
  let wraps := p.cidx + 1 = 2 ^ p.lsize.toNat
  (m.1.write ((p.cpl.toNat + 16 * p.cidx) % 2 ^ 64) (bytesOf (tag + 2 ^ 16 * status +
      2 ^ 24 * (p.phase != Config.firstPhase).toNat + 2 ^ 32 * aux + 2 ^ 64 * (value % 2 ^ 64)) 16),
    m.2.set q { p with
      cidx := if wraps then 0 else p.cidx + 1
      phase := if wraps then !p.phase else p.phase })

/-- A step of a kind takes the entry at a pair's head: the pair has one, its completion ring is not full, and the entry is of
that kind (R381, R383). -/
def TakesEntry (i : Instr) (s : State) (q : Fin 64) : Prop :=
  s.cur = q.val ∧ HasEntry s.host.pair[q] ∧ Config.ringFull s.freeCtr = false ∧
    ∃ kind used, hostKind i = some (kind, used) ∧ EntryForm (entryOf s q) kind used

/-- The entry is answered once, and nothing else of host memory and the pairs changed. -/
def AnsweredBy (s t : State) (q : Fin 64) (status aux value : Nat) : Prop :=
  ringsOf t = answerTo (headTaken (ringsOf s) q) q (bytesAt (entryOf s q) 2 2) status aux value

/-- The lowest free slot of the host engine's transfers, the sequence number it takes next, and the transfer id (R382). -/
def FreeHostSlot (s : State) (k : Nat) : Prop :=
  k < 4096 ∧ (∀ x, s.host.xfer.find k = some x → x.used = false) ∧
    ∀ j < k, ∃ x, s.host.xfer.find j = some x ∧ x.used = true
def hostSeq (s : State) (k : Nat) : BitVec 20 := ((s.host.xfer.find k).map fun x => x.seq + 1).getD 0
def hostId (s : State) (k : Nat) : Nat := (k + 4096 * (hostSeq s k).toNat) % 2 ^ 32

/-- The transfer that an entry SEND or RECV opens (R382). -/
def hostXfer (s : State) (q : Fin 64) (k : Nat) (recv : Bool) : HXfer :=
  let b := bytesAt (entryOf s q)
  { used := true
    seq := hostSeq s k
    recv := recv
    q := q
    tag := BitVec.ofNat 16 (b 2 2)
    haddr := if recv then b 56 8 else b 48 8
    len := if recv then b 48 4 else b 44 4
    peer := BitVec.ofNat 32 (b 32 4)
    mtag := BitVec.ofNat 32 (b 36 4)
    tmask := if recv then BitVec.ofNat 32 (b 40 4) else 0
    group := BitVec.ofNat 16 (if recv then b 44 2 else b 40 2)
    etype := if recv then 0 else BitVec.ofNat 4 (b 42 1)
    nan := !recv && b 42 1 / 16 == 1
    matched := false
    streaming := false }

/-- An entry stays in its ring: host memory, the pairs and the transfers are as they were (R384). -/
def EntryStays (s t : State) : Prop := ringsOf t = ringsOf s ∧ t.host.xfer = s.host.xfer ∧ t.tiles = s.tiles

/-- A member of a gang that is aborted has ended or ends now: it is saved, or its tile's thread has ended, does not run, or stands at a
boundary with nothing to wait for (R370). -/
def MemberEnds (s : State) (g : Gang) (r : Rank) : Prop :=
  (s.savedIn g r).isSome = true ∨ (s.tile (keyOf r)).thr.st = .halted ∨ (s.tile (keyOf r)).abortsNow s.now = true

/-! ### Links and end-to-end delivery (R66, R67, R69-R76) -/

/-- A flit that counts as corrupted: its CRC, its class, its kind or a reserved bit is wrong (R69). -/
def Broken (f : Flit) : Prop :=
  f.crc ≠ crc32c (flitBody f) ∨ f.rsv ≠ 0 ∨ f.rsvEnd ≠ 0 ∨ f.ccls = 3 ∨ 4 ≤ f.kind.toNat

/-- A flit that carries a kind, a payload, and what the port acknowledges (R69). -/
def portFlit (p : Port) (kind : BitVec 3) (payload : List Byte) : Flit :=
  { fseq := 0
    ackseq := p.good
    ackv := p.goodv
    kind := kind
    ccls := 0
    ccnt := 0
    qdep := 0
    rsv := 0
    payload := payload
    crc := 0
    rsvEnd := 0 }

/-- The sequence number that a port takes next (R70). -/
def nextFlit (p : Port) : BitVec 12 := if p.goodv then p.good + 1 else 0

/-- The flits of a replay buffer beyond an acknowledged one (R70). -/
def beyond (l : List Flit) (ack : BitVec 12) : List Flit :=
  if ack ∈ l.map Flit.fseq then (l.dropWhile fun f => f.fseq != ack).drop 1 else l

/-- A port that has read what a flit acknowledges and returns (R69, R70, R74). -/
def heard (p : Port) (f : Flit) : Port :=
  let c : Fin 3 := Fin.ofNat 3 f.ccls.toNat
  { p with
    replay := if f.ackv then beyond p.replay f.ackseq else p.replay
    credits := p.credits.set c (p.credits[c] + f.ccnt.toNat)
    qdep := f.qdep }

/-- The flits of a packet, its header and payload at 240 bytes each (R69). -/
def packetFlits (p : Port) (pkt : Packet) : List Flit :=
  (List.range ((32 + pkt.payload.length + 239) / 240)).map fun i =>
    { portFlit p 0 (((packetBytes pkt).drop (240 * i)).take 240) with fseq := p.fseq + BitVec.ofNat 12 i }

/-- The flits of a port's replay buffer, with what it acknowledges now (R70). -/
def again (p : Port) : List Flit := p.replay.map fun f => { f with ackseq := p.good, ackv := p.goodv }

/-- Port `k` became `p` and sent `fs`; the tiles, the memories and the other ports are as they were. -/
def PortNow (s t : State) (k : Fin 18) (p : Port) (fs : List Flit) : Prop :=
  t.net.port = s.net.port.set k p ∧ t.net.flits = s.net.flits ++ fs.map (fun f => (k, sealFlit f)) ∧ t.tiles = s.tiles ∧
    t.hbm = s.hbm ∧ t.red = s.red

/-- Port `k` starts to train (R71): it is down, and its TRAIN flit carries its view. -/
def Trains (s t : State) (k : Fin 18) (p : Port) : Prop :=
  let q := { p with
    up := false
    training := true
    failed := false
    view := Config.trainView s.freeCtr
    naks := 0
    downAt := if p.up then s.now else p.downAt
    trainAt := s.now }
  PortNow s t k q [portFlit q 3 (bytesOf q.view.toNat 4)] ∧ ⟨s.now + 65536, 0, .linkTimeout k⟩ ∈ t.agenda ∧
    (p.up = true → ⟨s.now + 65536, 0, .replayBufferDrop k⟩ ∈ t.agenda)

/-- The `tval` of LINK_MISMATCH and LINK_TIMEOUT (R367). -/
def portVal (k : Fin 18) (own far : View) : W64 := BitVec.ofNat 64 (k.val + 2 ^ 5 * own.toNat + 2 ^ 32 * far.toNat)

/-- The entry that routes a package (R75). -/
def Routes (s : State) (pkg : Nat) (e : W64) : Prop :=
  s.net.srt.find (pkg % 4096) = some e ∧ e.getLsbD 20 = true ∧ e.toNat % 2 ^ 20 = pkg ∧
    (e.getLsbD 21 = true ∨ e.toNat / 2 ^ 23 % 2 ^ 18 ≠ 0)

/-- The port that R74 chooses: listed and up, of the least load, the lowest of equals. -/
def portLoad (p : Port) : Nat := (p.queue.toList.flatten.map fun q => (32 + q.2.payload.length + 239) / 240).sum + p.qdep.toNat
def Listed (s : State) (e : W64) (k : Fin 18) : Prop := e.getLsbD (23 + k.val) = true ∧ (s.net.port[k]).up = true
def ChosenPort (s : State) (e : W64) (k : Fin 18) : Prop :=
  Listed s e k ∧ ∀ j, Listed s e j → portLoad s.net.port[k] < portLoad s.net.port[j] ∨
    (portLoad s.net.port[k] = portLoad s.net.port[j] ∧ k ≤ j)

/-- A sequenced packet arrives, in the form of its kind (R66, R72). -/
structure Sequenced (i : Instr) (p : Packet) : Prop where
  event : pktEvent p = some i
  rsv : p.rsv = 0
  cls : kindCls p.kind.toNat = some p.cls.toNat
  sv : p.sv = true

/-- The pair's state at this module's end, or its start (R72). -/
def pairOf (s : State) (p : Packet) : Peer := (s.peer p.src p.dst).getD (Peer.start p.src p.dst s.now)

/-- The acknowledgement of the highest number in order (R72). -/
def ackOf (p : Packet) (expected : W32) : Packet := { mkPacket p.dst p.src 0x20 0 0 0 0 [] with seq := expected - 1 }

/-- The receiving end of a pair after a packet that it has room for. -/
def pairUsed (s : State) (p : Packet) : Peer := { pairOf s p with rx := true, rxUse := s.now, rxClosing := false }

/-- A receiver holds an entry for a packet's source, or has one of its 1024 free (R72). -/
def HasRoom (s : State) (p : Packet) : Prop :=
  (pairOf s p).rx = true ∨ (s.net.peers.filter fun x => x.dst == p.dst && x.rx).length < 1024

/-- The state of the reorder store and of one pair, all else of the module as it was but what is on its way. -/
def PairNow (s t : State) (q : Peer) : Prop :=
  t.peer q.src q.dst = some q ∧ (∀ a b, (a, b) ≠ (q.src, q.dst) → t.peer a b = s.peer a b) ∧ t.tiles = s.tiles ∧
    t.hbm = s.hbm ∧ t.red = s.red ∧ t.moon = s.moon

/-- The cycle in which the last flit of a packet whose head flit comes now has passed the switch die's core (R65, R68). -/
def pastCore (s : State) (p : Packet) : Nat := s.now + 16 + (p.payload.length - 96 + 127) / 128

/-- Only port `k` has packets to send, all of class `c`. -/
def OnlyQueue (s : State) (k : Fin 18) (c : Fin 3) (l : List (Nat × Packet)) : Prop :=
  (s.net.port[k]).queue[c] = l ∧ (∀ c', c' ≠ c → (s.net.port[k]).queue[c'] = []) ∧
    (∀ k', k' ≠ k → ∀ c' : Fin 3, (s.net.port[k']).queue[c'] = []) ∧ ∀ u : Fin 8, s.net.uet[u] = []

/-! ### Bring-up and management (R386-R392) -/

/-- An answer of the management core (R389). -/
def Replied (s : State) (r : MgmtReply) : State := { s with mgmt := { s.mgmt with replies := s.mgmt.replies ++ [r] } }

/-- The signatures of an image and the digest that it carries hold (R386). -/
def SignedImage (img : List Byte) : Prop :=
  Config.digestMatches img = true ∧ Config.ecdsaVerifies img = true ∧ Config.lmsVerifies img = true

/-- An image that stage 2 accepts, and the reason of R387 why it does not. A digest that does not match counts as a signature
(log 68). -/
def GoodImage (img : List Byte) : Prop :=
  SignedImage img ∧ Config.keyHashMatches img = true ∧ Config.fusedVersion ≤ Config.securityVersion img
def ImageReason (img : List Byte) (r : Nat) : Prop :=
  (¬ SignedImage img ∧ r = 1) ∨ (SignedImage img ∧ Config.keyHashMatches img = false ∧ r = 2) ∨
  (SignedImage img ∧ Config.keyHashMatches img = true ∧ Config.securityVersion img < Config.fusedVersion ∧ r = 3)

/-- The package id of a boot: that of a SETPKG which came in time, else that of the configuration record (R15, R386). -/
def bootId (s : State) (b : BootInput) : BitVec 20 :=
  match b.setpkg, s.mgmt.pkgSet with
  | some p, early => if p ≠ 0xFFFFF then p else if s.mgmt.bootst = 0 then early.getD b.pkg else b.pkg
  | none, some p => if s.mgmt.bootst = 0 then p else b.pkg
  | none, none => b.pkg

/-- The image that the boot ROM takes: the primary, or the backup where the primary is refused (R386). -/
def BootsFrom (b : BootInput) (img : List Byte) : Prop :=
  (GoodImage b.primary ∧ img = b.primary) ∨ (¬ GoodImage b.primary ∧ GoodImage b.backup ∧ img = b.backup)

/-- The safe state (R387): nothing runs, and `bootst` and the failure report show what failed. -/
def SafeState (t : State) (stage reason die unit detail : Nat) : Prop :=
  t.tiles = [] ∧ t.moons = [] ∧ t.agenda = [] ∧ t.turn = [] ∧ t.mgmt.bootst.toNat = 0x80 + stage ∧
    t.mgmt.failrep.toNat = stage + 2 ^ 8 * reason + 2 ^ 16 * die + 2 ^ 20 * unit + 2 ^ 32 * detail ∧
    ∀ k : Fin 18, (t.net.port[k]).up = false

/-- The responses of SPDM: what a request is answered with, unsigned, and what the transcript then holds (R388). -/
def Answer (s : State) (kind : Nat) (req body : List Byte) (t0 : List Byte) (algo : Bool) : State :=
  { s with mgmt := { s.mgmt with
    transcript := t0 ++ req ++ body
    algo := algo
    replies := s.mgmt.replies ++ [.spdm kind body] } }

/-- A signed response: the signature is over the SHA-384 hash of the transcript up to it (R388). -/
def SignedAnswer (s : State) (kind : Nat) (req body : List Byte) : State :=
  let tr := s.mgmt.transcript ++ req ++ body
  { s with mgmt := { s.mgmt with
    transcript := tr
    lastSigned := some (Config.sha384 tr)
    replies := s.mgmt.replies ++ [.signed kind body (Config.ecdsaSign (Config.sha384 tr))] } }

/-- The measurement blocks: boot ROM version, both images, configuration record, fuses (R388). -/
def measured (s : State) : List Byte :=
  let m (k : Nat) : List Byte := match s.mgmt.boot with
    | some b => Config.measurement k b.primary b.backup b.pkg
    | none => Config.measurement k [] [] 0
  m 0 ++ m 1 ++ m 2 ++ m 3 ++ m 4

/-- A counter that READCTR reads: of corrected errors by its number, or one of the five of a die's ERT (R40, R372, R389). The numbers of
the ERT's counters are the model's (log 69). -/
def counterAt (s : State) (k : Nat) : W32 :=
  let c := s.ert.cnt[Fin.ofNat 4 ((k - 0x8000) / 5)]
  if 0x8000 ≤ k ∧ k < 0x8014 then
    (match (k - 0x8000) % 5 with
      | 0 => c.misses
      | 1 => c.pageins
      | 2 => c.units
      | 3 => c.evictions
      | _ => c.exgetFaults)
  else match s.mgmt.ctrs.find k with
    | some v => v
    | none => 0

/-- The pulses to swallow in 64 periods, of a limit, a most and a power: the smallest whole number that is not below
64 (1 - limit / power), within 0 and the most (R391). -/
def Swallowed (limit swmax watts n : Nat) : Prop :=
  (watts ≤ limit → n = 0) ∧
  (limit < watts → (n = swmax ∧ n * watts < 64 * (watts - limit) + watts) ∨
    (n < swmax ∧ 64 * (watts - limit) ≤ n * watts ∧ n * watts < 64 * (watts - limit) + watts))

/-! ### One step (log 3) -/

/-- Nothing comes before a thread's next bundle: no clock is stopped, no event is due, and it is the turn of tile `k`. -/
def TurnOf (s : State) (k : Nat) (rest : List Nat) : Prop :=
  s.mgmt.trip = none ∧ (∀ e r, s.agenda = e :: r → s.now < e.due) ∧ s.turn = k :: rest

/-- The gang of a tile's thread is under no ABORT (R370). -/
def NotAborted (s : State) (k : Nat) : Prop := ∀ h g, (s.tile k).thr.gang = some h → s.gang h = some g → g.aborts = []

/-- A thread that runs with nothing in flight and nothing that waits for its next boundary. -/
structure Quiet (x : Tile) (now : Nat) : Prop where
  runs : x.thr.st = .running ∧ x.thr.preempt = .none ∧ x.thr.starting = false ∧ x.thr.badTarget = none ∧ x.thr.tbarGo = none
  plain : x.spec = none ∧ x.thr.deferred = [] ∧ x.bad = [] ∧ x.imemBad = []
  noUli : ∀ k : Fin 64, x.cpl[k].uliAt = none
  landed : x.regs.flight = [] ∧ x.regs.loads = [] ∧ x.mat.arr = [] ∧ x.mat.wgt = [] ∧ x.mat.wide = []
  noFmt : x.csr.fmtPend = none

/-- The bundle at a thread's address is one op with this head index, head, tail and decoding, without a qualifier, which pops
no queue (R171-R174, R180, R189). -/
structure Fetches (x : Tile) (k : Nat) (j hd tl : Nat) (o : Opc) (i : Instr) : Prop where
  line : ∃ ops, parseLine (x.line (x.thr.pc.toNat / 64)) = .ok ops ∧ bundleAt ops (x.thr.pc.toNat % 64) = [(j, hd, tl)]
  opcode : Opc.ofNum (headOpc hd) = some o
  decodes : decodeOp x.csr.isapin.toNat (isSupervisor k) hd tl = .ok i
  wf : i.wf = true
  always : (insAttr i).iq = 0
  noPop : ∀ c r, (c, r) ∈ (BOp.mk j o (Tail.ofNat tl) i).sources → ∀ q, r ≠ .q q

/-- The state on which the op is tried: its turn is taken, and the bundle has popped and produced nothing yet. -/
def tried (s : State) (k : Nat) (rest : List Nat) (j : Nat) (i : Instr) : State :=
  ({ s with turn := rest, cur := k } : State).modT fun x =>
    { x with iss := { Iss.none with clear := ((fenceKind i).map fun f => x.fenceDone f).getD true, head := j, verdict := .issued } }

/-- The opcodes that R187 leaves unassigned. -/
def Unassigned (n : Nat) : Prop :=
  (0x14 ≤ n ∧ n ≤ 0x1C) ∨ (0x40 ≤ n ∧ n ≤ 0x4F) ∨ (0x57 ≤ n ∧ n ≤ 0x5F) ∨ (0x8E ≤ n ∧ n ≤ 0xAF) ∨ (0xB8 ≤ n ∧ n ≤ 0xBF) ∨
    (0xCD ≤ n ∧ n ≤ 0xCF) ∨ 0xE9 ≤ n

/-- The opcodes of CHB-2 and of CHB-3 (R188). -/
def chb2 : List Nat := [0x8B, 0x8C, 0xC6, 0xC7, 0xC8, 0xC9, 0xCA, 0xD9, 0xDA, 0xDB, 0xDC, 0xDD, 0xDE]
def chb3 : List Nat := [0x0A, 0x13, 0x8D, 0xD8, 0xE7, 0xE8]

/-- The head of an op with an opcode, no qualifier, and its tail of 64 bits with the fields of R175. -/
def headWord (opc : Nat) : Nat := 3 * 2 ^ 14 + 2 ^ 13 + 2 ^ 5 * opc
def tailWord (dst sa sb sc fn : Nat) : Nat := dst * 2 ^ 55 + sa * 2 ^ 46 + sb * 2 ^ 37 + sc * 2 ^ 28 + fn

end Sys2Proof
end

