-- ==== Sys2Proof/Certificates/Slice0/Obligations.lean ====
section
/-!
DEFINITION. The statements for the provers.
-/

open Sys2Proof Sys2Proof.Machine

/-! ## Scalars -/

/-- R302-R304, R306: every S-slot op but `div` and `rem` pops its queue sources in order, computes its result from the operands as
they stand, and gives it to its destination after its latency. Where a destination or a source stops an op, `OperandForms` says. -/
def Obligations.ScalarResults : Prop :=
  (∀ i o s s1 s2 s3, twoOp i = some o → s.popS o.ra = .ok s1 → s1.popO o.b = .ok s2 →
    s2.wrS o.a o.lat o.d (o.f (s2.rdS o.ra) (s2.rdO o.b)) = .ok s3 → Yields i s s3) ∧
  ((∀ i o s s1 s2, oneOp i = some o → s.popS o.ra = .ok s1 → s1.wrS o.a 1 o.d (o.f (s1.rdS o.ra)) = .ok s2 →
    Yields i s s2) ∧
  (∀ i o s s1, constOp i = some o → s.wrS o.a 1 o.d (o.x s) = .ok s1 → Yields i s s1) ∧
  (∀ a d x y c s s1 s2 s3 s4, s.popS x = .ok s1 → s1.popS y = .ok s2 → s2.popS c = .ok s3 →
    s3.wrS a 1 d (if s3.rdS c = 0 then s3.rdS y else s3.rdS x) = .ok s4 → Yields (.sel a d x y c) s s4) ∧
  (∀ a (ty : Ety) d x b s s1 s2 s3, s.popV x = .ok s1 → s1.popO b = .ok s2 →
    let v : BitVec ty.width := BitVec.ofNat ty.width (srcLane s2 ty.width x ((s2.rdO b).toNat % (512 / ty.width)))
    s2.wrS a 3 d (if ty.isSigned then BitVec.ofInt 64 v.toInt else BitVec.ofNat 64 v.toNat) = .ok s3 →
    Yields (.vext a ty d x b) s s3))

/-- R305: `div` and `rem` have a result for every operand pair, none traps, and the result lands at the end of the 17th cycle after
issue: it is readable from cycle i + 18, under its scoreboard tag until then. -/
def Obligations.ScalarDivision : Prop :=
  ∀ i o s s1 s2, divOp i = some o → s.popS o.ra = .ok s1 → s1.popO o.b = .ok s2 →
    let x := o.f (s2.rdS o.ra) (s2.rdO o.b)
    (∀ s3, s2.wrS o.a 18 o.d x = .ok s3 → Yields i s s3) ∧
    (∀ n, o.d = .s n → Runs i s fun t =>
      t.t.iss.verdict = .issued ∧ ⟨s.now + 18, .s n, x.setWidth 512, 0, o.a.sba, s.t.isSpec⟩ ∈ t.t.regs.flight ∧
      ⟨s.now + 18, s.cur, .resultWriteback⟩ ∈ t.agenda ∧ (o.a.sba ≠ 0 → t.t.tagHeld o.a.sba.toNat = true))

/-- R138-R142, R181, R208, R254, R255, R302, R334: where a result goes for every kind of destination, the zero code and the mask
register m0 included, and what a source that names a queue pops or traps. That a push to q1 lands with its latency is the
model's reading (log 14). -/
def Obligations.OperandForms : Prop :=
  (∀ s a lat x,
    (∀ n, ∃ t, s.wrS a lat (.s n) x = .ok t ∧
      InFlight s t ⟨s.now + lat, .s n, x.setWidth 512, 0, a.sba, s.t.isSpec⟩) ∧
    s.wrS a lat .zero x = .ok s ∧
    (s.t.isSpec = false → q1Held s.t < 32 → ∃ t, s.wrS a lat (.q 1) x = .ok t ∧
      InFlight s t ⟨s.now + lat, .q1, x.setWidth 512, 0, a.sba, false⟩) ∧
    (s.t.isSpec = true → s.wrS a lat (.q 1) x = .error (.stall 4)) ∧
    (s.t.isSpec = false → 32 ≤ q1Held s.t → s.wrS a lat (.q 1) x = .error (queueTrap 1)) ∧
    ∀ n : Fin 4, n ≠ 1 → s.wrS a lat (.q n) x = .error (queueTrap n.val)) ∧
  (∀ s a lat x keep,
    (∀ n, s.t.isSpec = false → ∃ t, s.wrV a lat (.v n) x keep = .ok t ∧
      InFlight s t ⟨s.now + lat, .v n, x, keep, a.sba, false⟩) ∧
    (∀ n sp, s.t.spec = some sp → sp.wait = false → (∀ c ∈ sp.vcopies, c.1 ≠ n) → sp.vcopies.length < 64 →
      ∃ t u, s.wrV a lat (.v n) x keep = .ok t ∧
        u = s.modT (fun y => { y with spec := some { sp with vcopies := sp.vcopies ++ [(n, y.regs.v[n])] } }) ∧
        InFlight u t ⟨s.now + lat, .v n, x, keep, a.sba, true⟩) ∧
    (∀ n sp, s.t.spec = some sp → sp.wait = false → (∀ c ∈ sp.vcopies, c.1 ≠ n) → 64 ≤ sp.vcopies.length →
      s.wrV a lat (.v n) x keep = .error (.stall 1)) ∧
    s.wrV a lat .zero x keep = .ok s ∧
    (∀ n : Fin 4, n ≠ 3 → s.wrV a lat (.q n) x keep = .error (queueTrap n.val)) ∧
    (∀ (n : Fin 16) v, n ≠ 0 → InFlight s (s.wrM a (.m n) v) ⟨s.now + 1, .m n, v.setWidth 512, 0, a.sba, s.t.isSpec⟩) ∧
    (∀ v, s.wrM a (.m 0) v = s)) ∧
  (∀ s,
    (∀ v, s.t.iss.q0 = some v → s.popS (.q 0) = .ok s ∧ s.popV (.q 0) = .ok s ∧ s.rdS (.q 0) = v.setWidth 64 ∧
      ∀ w, s.rdV w (.q 0) = v) ∧
    (∀ v, s.t.iss.q1 = some v → s.popS (.q 1) = .ok s ∧ s.rdS (.q 1) = v.setWidth 64) ∧
    (∀ e r, s.t.iss.q0 = none → s.t.thr.inHandler = false → s.t.isSpec = false → s.t.regs.q0 = e :: r →
      ∃ t, s.popS (.q 0) = .ok t ∧ s.popV (.q 0) = .ok t ∧ OnlyTile s t ∧
        t.t = { s.t with regs := { s.t.regs with q0 := r }, iss := { s.t.iss with q0 := some e.val } }) ∧
    (∀ e r, s.t.iss.q1 = none → s.t.thr.inHandler = false → s.t.isSpec = false → s.t.regs.q1 = e :: r →
      ∃ t, s.popS (.q 1) = .ok t ∧ OnlyTile s t ∧
        t.t = { s.t with
          regs := { s.t.regs with q1 := r, popped := s.t.regs.popped + 1 }
          iss := { s.t.iss with q1 := some e } }) ∧
    (s.t.iss.q0 = none → s.t.thr.inHandler = false → s.t.regs.q0 = [] →
      s.popS (.q 0) = .error (if s.t.regs.loads = [] then queueTrap 0 else .stall 0)) ∧
    (s.t.iss.q1 = none → s.t.thr.inHandler = false → s.t.regs.q1 = [] →
      s.popS (.q 1) = .error (if s.t.thr.queue.isSome then .stall 0 else queueTrap 1)) ∧
    (s.t.iss.q0 = none → s.t.thr.inHandler = true → s.popS (.q 0) = .error (queueTrap 0)) ∧
    (s.t.iss.q1 = none → s.t.thr.inHandler = true → s.popS (.q 1) = .error (queueTrap 1)) ∧
    s.popS (.q 2) = .error (queueTrap 2) ∧ s.popS (.q 3) = .error (queueTrap 3) ∧
    s.popV (.q 1) = .error (queueTrap 1) ∧ s.popV (.q 3) = .error (queueTrap 3))

/-- RESULT_WRITEBACK and LOAD_DELIVER (R121, R181, R183, R204): writes that are due land in order, and no other register changes. -/
def Obligations.ResultsLand : Prop :=
  (∀ s, s.t.spec = none → Runs .resultWriteback s fun t =>
    let ws := s.t.regs.flight.filter fun w => decide (w.due ≤ s.now)
    t.t = { s.t with
      regs := { s.t.regs with
        v := t.t.regs.v
        s := t.t.regs.s
        m := t.t.regs.m
        q1 := s.t.regs.q1 ++ (ws.filter fun w => w.dst == .q1).map fun w => w.val.setWidth 32
        flight := s.t.regs.flight.filter fun w => decide (s.now < w.due) }
      bad := t.t.bad } ∧
    (∀ n : Fin 384, t.t.regs.v[n] = landed ws (.v n) s.t.regs.v[n]) ∧
    (∀ n : Fin 64, t.t.regs.s[n] = ((ws.filter fun w => w.dst == .s n).getLast?.map fun w => w.val.setWidth 64).getD s.t.regs.s[n]) ∧
    (∀ n : Fin 16, t.t.regs.m[n] = ((ws.filter fun w => w.dst == .m n).getLast?.map fun w => w.val.setWidth 64).getD s.t.regs.m[n]) ∧
    OnlyTile s t) ∧
  (∀ s l r, s.t.regs.loads = l :: r → l.due ≤ s.now → (∀ x ∈ r, s.now < x.due) → s.t.spec = none →
    (l.dst = .q0 → Runs .loadDeliver s fun t =>
      t.t = { s.t with regs := { s.t.regs with loads := r, q0 := s.t.regs.q0 ++ [⟨l.val, l.spec⟩] } } ∧
        SameModule s t ∧ SameOthers s t) ∧
    (l.dst = .zero → Runs .loadDeliver s fun t =>
      t.t = { s.t with regs := { s.t.regs with loads := r } } ∧ SameModule s t ∧ SameOthers s t) ∧
    (∀ k, l.dst = .s k → Runs .loadDeliver s fun t =>
      t.t.regs = { s.t.regs with loads := r, s := s.t.regs.s.set k (l.val.setWidth 64) } ∧
        SameBytes s.t t.t ∧ t.t.csr = s.t.csr ∧ SameModule s t ∧ SameOthers s t))

/-! ## Vectors and masks -/

/-- R253-R271: every lane of a V-slot op is what its table gives, written to the destination after the op's latency; disabled lanes keep
their value where the op merges. Where a destination or a source stops an op, `OperandForms` says. -/
def Obligations.VectorArithmetic : Prop :=
  (∀ i o s s1 s2 x, vecArith i = some o → i.wf = true → s.popVs o.srcs = .ok s1 →
    (∀ j < 512 / o.w, laneAt o.w x j = o.lane s1 j) →
    s1.wrV o.a o.lat o.d x (if o.merge then s1.t.keepBits o.a o.w else 0) = .ok s2 → Yields i s s2) ∧
  (∀ i o s s1 s2 x, vecMove i = some o → i.wf = true → s.popVs o.srcs = .ok s1 →
    (∀ j < 512 / o.w, laneAt o.w x j = o.lane s1 j) →
    s1.wrV o.a o.lat o.d x (if o.merge then s1.t.keepBits o.a o.w else 0) = .ok s2 → Yields i s s2) ∧
  (∀ i o s s1 s2 x, vecConv i = some o → i.wf = true → s.popVs o.srcs = .ok s1 →
    (∀ j < 512 / o.w, laneAt o.w x j = o.lane s1 j) →
    s1.wrV o.a o.lat o.d x (if o.merge then s1.t.keepBits o.a o.w else 0) = .ok s2 → Yields i s s2)

/-- R272-R278: reductions over a pairwise tree, special functions, refinements, top-k, gating and histograms. -/
def Obligations.VectorSpecials : Prop :=
  ∀ i o s s1 s2 x, vecSpecial i = some o → i.wf = true → s.popVs o.srcs = .ok s1 →
    (∀ j < 512 / o.w, laneAt o.w x j = o.lane s1 j) →
    s1.wrV o.a o.lat o.d x (if o.merge then s1.t.keepBits o.a o.w else 0) = .ok s2 → Yields i s s2

/-- R264, R265, R279, R280: a compare, a classification or a P-slot op pops its vector sources, and its mask is in flight for one cycle. -/
def Obligations.MaskResults : Prop :=
  ∀ i o s s1 x, maskOp i = some o → i.wf = true → s.popVs o.srcs = .ok s1 → (∀ j < 64, x.getLsbD j = o.bit s1 j) →
    Yields i s (s1.wrM o.a o.d x)

/-- R179, R181: what an op of the S, V and P slots leaves unchanged when it issues: every register but the one it names (which changes
only when its write lands), every control register, completion slot and byte of memory, and all other tiles. -/
def Obligations.RegisterOpsFrame : Prop :=
  ∀ i d s t, regResult i = some d → exec i s = .next t → t.t.iss.verdict = .issued → RegisterFrame d s t

/-! ## Loads and stores -/

/-- R121, R204, R205, R208: `vldq`, `sld` and `vldqg` take their bytes at issue and are due in order; the least delay is the rule's, more is
the choice of `State.delays` (log 4). -/
def Obligations.LoadsIssue : Prop :=
  ((∀ a sa off s (v : W512), let addr := (s.rdS sa).toInt + off.toInt * 16
    Accessible s.t addr 64 16 → s.t.badWord addr.toNat 64 = none → s.t.loadCount < 16 →
    (∀ j < 64, laneAt 8 v j = (s.t.spmByte s.t.isSpec (addr.toNat + j)).toNat) →
    Runs (.vldq a sa off) s fun t => LoadIssued s t .q0 v 0 0) ∧
  (∀ a (size : BitVec 2) signed d sa off s (v : W64), let n : Nat := 2 ^ size.toNat
    let addr := (s.rdS sa).toInt + off.toInt * (n : Int)
    Accessible s.t addr n n → s.t.badWord addr.toNat n = none → s.t.loadCount < 16 →
    (∀ j < 8, (v.toNat / 2 ^ (8 * j) % 256) =
      if j < n then (s.t.spmByte s.t.isSpec (addr.toNat + j)).toNat
      else if signed && (s.t.spmByte s.t.isSpec (addr.toNat + (n - 1))).msb then 255 else 0) →
    (∀ k, d = .s k → Runs (.sld a size signed d sa off) s fun t => LoadIssued s t (.s k) (v.setWidth 512) 0 a.sba) ∧
      (∀ k, d = .q k → Runs (.sld a size signed d sa off) s fun t => LoadIssued s t .q0 (v.setWidth 512) 0 0) ∧
      (d = .zero → Runs (.sld a size signed d sa off) s fun t => LoadIssued s t .zero (v.setWidth 512) 0 0))) ∧
  (∀ a w sa vi s (v : W512), let n := widBytes w
    let addr := fun j => (s.rdS sa).toInt + (srcLane s 32 vi j : Int)
    let en := fun j => (s.t.enables a).getLsbD j
    (∀ j < 16, en j → Accessible s.t (addr j) n n ∧ s.t.badWord (addr j).toNat n = none) → s.t.loadCount < 16 →
    (∀ j < 64, laneAt 8 v j =
      if j < 16 * n ∧ en (j / n) then (s.t.spmByte s.t.isSpec ((addr (j / n)).toNat + j % n)).toNat else 0) →
    Runs (.vldqg a w sa vi) s fun t =>
      LoadIssued s t .q0 v (bankLoad (((List.range 16).filter en).map fun j => (addr j).toNat) - 1) 0)

/-- R125, R206, R207, R208: the bytes that `vst`, `sst`, `vstm` and `vsts` store, and that every other byte reads as before; a speculative
store leaves the committed bytes. -/
def Obligations.StoresWrite : Prop :=
  ((∀ a sa vd off s, let addr := (s.rdS sa).toInt + off.toInt * 16
    Accessible s.t addr 64 16 → MayStore s.t [(addr.toNat, 64)] →
    Runs (.vst a sa vd off) s fun t => Stored s t (storeAt addr.toNat 64 (s.rdV 32 vd).toNat)) ∧
  (∀ a (size : BitVec 2) sa sd off s, let n : Nat := 2 ^ size.toNat
    let addr := (s.rdS sa).toInt + off.toInt * (n : Int)
    Accessible s.t addr n n → MayStore s.t [(addr.toNat, n)] →
    Runs (.sst a size sa sd off) s fun t => Stored s t (storeAt addr.toNat n (s.rdS sd).toNat))) ∧
  ((∀ a w sa vd off s, let n := widBytes w
    let addr := (s.rdS sa).toInt + off.toInt * 16
    let en := fun j => (s.t.enables a).getLsbD j
    Accessible s.t addr 64 16 →
    MayStore s.t (((List.range (64 / n)).filter en).map fun j => (addr.toNat + n * j, n)) →
    Runs (.vstm a w sa vd off) s fun t => Stored s t fun x =>
      if en ((x - addr.toNat) / n) then storeAt addr.toNat 64 (s.rdV 32 vd).toNat x else none) ∧
  (∀ a w sa vi vd s, let n := widBytes w
    let addr := fun j => (s.rdS sa).toInt + (srcLane s 32 vi j : Int)
    let lanes := (List.range 16).filter fun j => (s.t.enables a).getLsbD j
    (∀ j ∈ lanes, Accessible s.t (addr j) n n) → MayStore s.t (lanes.map fun j => ((addr j).toNat, n)) →
    Runs (.vsts a w sa vi vd) s fun t => Stored s t fun x =>
      (lanes.reverse.findSome? fun j => storeAt (addr j).toNat n (srcLane s (8 * n) vd j) x)))

/-- R203: the checks of an access, the range before the alignment, with the first offending address; lanes in ascending order (log 15). -/
def Obligations.AccessTraps : Prop :=
  (∀ s (addr : Int) (n al : Nat) i,
    (∃ a sa off, i = .vldq a sa off ∧ addr = (s.rdS sa).toInt + off.toInt * 16 ∧ n = 64 ∧ al = 16) ∨
    (∃ a sa vd off, i = .vst a sa vd off ∧ addr = (s.rdS sa).toInt + off.toInt * 16 ∧ n = 64 ∧ al = 16) ∨
    (∃ a w sa vd off, i = .vstm a w sa vd off ∧ addr = (s.rdS sa).toInt + off.toInt * 16 ∧ n = 64 ∧ al = 16) ∨
    (∃ a size sg d sa off, i = .sld a size sg d sa off ∧ n = 2 ^ size.toNat ∧ addr = (s.rdS sa).toInt + off.toInt * n ∧
      al = n) ∨
    (∃ a size sa sd off, i = .sst a size sa sd off ∧ n = 2 ^ size.toNat ∧ addr = (s.rdS sa).toInt + off.toInt * n ∧
      al = n) →
    ((addr < 0 ∨ 0x100000 < addr + n ∨ s.t.hitsHamper addr n = true) → Traps i s .scratchRange (BitVec.ofInt 64 addr)) ∧
    (0 ≤ addr → addr + n ≤ 0x100000 → s.t.hitsHamper addr n = false → addr % al ≠ 0 →
      Traps i s .align (BitVec.ofInt 64 addr))) ∧
  (∀ a w sa vi vd s j, let n := widBytes w
    let addr := fun k => (s.rdS sa).toInt + (srcLane s 32 vi k : Int)
    j < 16 → (s.t.enables a).getLsbD j = true →
    (∀ k < j, (s.t.enables a).getLsbD k = true → Accessible s.t (addr k) n n) →
    ((0x100000 < addr j + n ∨ addr j < 0 ∨ s.t.hitsHamper (addr j) n = true) →
      Traps (.vsts a w sa vi vd) s .scratchRange (BitVec.ofInt 64 (addr j))) ∧
    (0 ≤ addr j → addr j + n ≤ 0x100000 → s.t.hitsHamper (addr j) n = false → addr j % n ≠ 0 →
      Traps (.vsts a w sa vi vd) s .align (BitVec.ofInt 64 (addr j))) ∧
    ((∀ k < j, (s.t.enables a).getLsbD k = true → s.t.badWord (addr k).toNat n = none) →
      ((0x100000 < addr j + n ∨ addr j < 0 ∨ s.t.hitsHamper (addr j) n = true) →
        Traps (.vldqg a w sa vi) s .scratchRange (BitVec.ofInt 64 (addr j))) ∧
      (0 ≤ addr j → addr j + n ≤ 0x100000 → s.t.hitsHamper (addr j) n = false → addr j % n ≠ 0 →
        Traps (.vldqg a w sa vi) s .align (BitVec.ofInt 64 (addr j)))))

/-! ## Control flow -/

/-- R283, R284: taken and untaken transfers, the trap of a taken one while a loop level is open, and the link of a call. -/
def Obligations.BranchesTransfer : Prop :=
  (∀ i f s, branchOp i = some f →
    (∀ a, f s = some a → s.t.loops.depth = 0 → Runs i s fun t => Jumped s t a) ∧
    (f s = none → Yields i s s) ∧
    (∀ a, f s = some a → s.t.loops.depth ≠ 0 → Traps i s .loopDepth (BitVec.ofNat 64 s.t.loops.depth))) ∧
  (∀ a d s s1, s.wrS a 1 d (BitVec.ofNat 64 (s.t.nextAddr s.t.thr.pc.toNat)) = .ok s1 → s.t.loops.depth = 0 →
    (∀ target, Runs (.call a d target) s fun t => Jumped s1 t target.toNat) ∧
      ∀ r, Runs (.callIndirect a d r) s fun t => Jumped s1 t (s.rdS r).toNat)

/-- R150, R285-R287: `loop` opens a level with its count, or skips its body when the count is 0; the other open levels count its bundle. -/
def Obligations.LoopsOpen : Prop :=
  ∀ i len f s s1 n, loopOp i = some (len, f) → f s = .ok (s1, n) → s.t.thr.inHandler = false → s.t.loops.depth < 6 →
    (s.t.loops.depth = 0 ∨ s.t.loops.top.pos + 1 + len ≤ s.t.loops.top.len) →
    let d := s.t.loops.depth
    let nxt := s1.t.nextAddr s1.t.thr.pc.toNat
    (n ≠ 0 → Runs i s fun t =>
      t.t.loops.depth = d + 1 ∧
      (∀ k : Fin 6, k.val ≠ d → t.t.loops.lv[k] = passed s1.t.loops 1 k) ∧
      (∀ k : Fin 6, k.val = d → ∃ long, t.t.loops.lv[k] =
        ⟨true, BitVec.ofNat 26 nxt, len, n, true, 0, long, s1.t.loops.lv[k].strides⟩) ∧
      t.t.thr = { (s1.t.goto nxt).thr with base := s.now } ∧
      t.t = { s1.t with loops := t.t.loops, thr := t.t.thr, iss := t.t.iss } ∧ t.t.iss.verdict = .issued ∧ OnlyTile s1 t) ∧
    (n = 0 → (d = 0 ∨ s.t.loops.top.pos + 1 + len < s.t.loops.top.len) → Runs i s fun t =>
      t.t.loops.depth = d ∧
      (∀ k : Fin 6, k.val ≠ d → t.t.loops.lv[k] = passed s1.t.loops (1 + len) k) ∧
      (∀ k : Fin 6, k.val = d → t.t.loops.lv[k].strides = []) ∧
      t.t.thr = { (s1.t.goto (s1.t.skip nxt len)).thr with base := s.now + 2 } ∧
      t.t = { s1.t with loops := t.t.loops, thr := t.t.thr, iss := t.t.iss } ∧ t.t.iss.verdict = .issued ∧ OnlyTile s1 t)

/-- R286, R288, R289: strides bind to the next level, `lbrk` leaves the innermost level, and what traps LOOP_DEPTH. -/
def Obligations.LoopsBreak : Prop :=
  (∀ a n s (k : Fin 6), k.val = s.t.loops.depth → s.t.loops.lv[k].strides.length < 8 →
    let bound (v : W32) (t : State) : Prop :=
      t.t.loops.depth = s.t.loops.depth ∧ (∀ j : Fin 6, j ≠ k → t.t.loops.lv[j] = s.t.loops.lv[j]) ∧
      t.t.loops.lv[k] = { s.t.loops.lv[k] with strides := s.t.loops.lv[k].strides ++ [(n, v)] } ∧
      t.t = { s.t with loops := t.t.loops, iss := t.t.iss } ∧ t.t.iss.verdict = .issued ∧ OnlyTile s t
    (∀ r, Runs (.lstr a (.s n) r) s (bound ((s.rdS r).setWidth 32))) ∧
      ∀ v, Runs (.lstrImm a (.s n) v) s (bound (v.signExtend 32))) ∧
  (∀ a r s, 0 < s.t.loops.depth → s.t.loops.depth ≤ 6 →
    let d := s.t.loops.depth
    let broken (t : State) : Prop := t.t.loops.depth = d - 1 ∧
      (∀ k : Fin 6, k.val < d - 1 → t.t.loops.lv[k] = passed s.t.loops (s.t.loops.top.len - s.t.loops.top.pos) k) ∧
      (∀ k : Fin 6, k.val = d - 1 → t.t.loops.lv[k] = Level.closed) ∧
      (∀ k : Fin 6, k.val = d → t.t.loops.lv[k].strides = []) ∧
      t.t.thr = { (s.t.goto (s.t.skip s.t.loops.top.start.toNat s.t.loops.top.len)).thr with base := s.now + 2 } ∧
      t.t = { s.t with loops := t.t.loops, thr := t.t.thr, iss := t.t.iss } ∧ t.t.iss.verdict = .issued ∧ OnlyTile s t
    let inside : Prop := d = 1 ∨ ∃ k : Fin 6, k.val = d - 2 ∧ s.t.loops.lv[k].act = true ∧
      s.t.loops.lv[k].pos + (s.t.loops.top.len - s.t.loops.top.pos) < s.t.loops.lv[k].len
    (inside → Runs (.lbrk a) s broken) ∧
    (inside → s.rdS r = 0 → Runs (.lbrkZ a r) s broken) ∧ (s.rdS r ≠ 0 → Yields (.lbrkZ a r) s s) ∧
    (inside → s.rdS r ≠ 0 → Runs (.lbrkNz a r) s broken) ∧ (s.rdS r = 0 → Yields (.lbrkNz a r) s s)) ∧
  ((∀ i len f s, loopOp i = some (len, f) →
    (s.t.loops.depth = 6 ∨ s.t.thr.inHandler = true ∨ (0 < s.t.loops.depth ∧ s.t.loops.depth ≤ 6 ∧
      s.t.loops.top.len < s.t.loops.top.pos + 1 + len)) →
    Traps i s .loopDepth (BitVec.ofNat 64 s.t.loops.depth)) ∧
  (∀ a d r v s, (s.t.loops.depth = 6 ∨ ∃ k : Fin 6, k.val = s.t.loops.depth ∧ 8 ≤ s.t.loops.lv[k].strides.length) →
    Traps (.lstr a d r) s .loopDepth (BitVec.ofNat 64 s.t.loops.depth) ∧
      Traps (.lstrImm a d v) s .loopDepth (BitVec.ofNat 64 s.t.loops.depth)) ∧
  (∀ a r s, s.t.loops.depth = 0 → Traps (.lbrk a) s .loopDepth 0 ∧ Traps (.lbrkZ a r) s .loopDepth 0 ∧
    Traps (.lbrkNz a r) s .loopDepth 0))

/-! ## Control registers and system instructions -/

/-- R145-R149, R160, R295, R296: `csrr`, `csrw` and `fmt`, the waits of a speculative thread, and when a `fmt` comes into force. -/
def Obligations.ControlRegisters : Prop :=
  (∀ a d (n : BitVec 12) s s1, s.wrS a 1 d (csrValue s n.toNat) = .ok s1 → Yields (.csrr a d n) s s1) ∧
  (∀ i n r s, csrwOp i = some (n, r) →
    (s.t.isSpec = true → n = 5 ∨ n = 7 ∨ n = 0xB ∨ n = 0xC → Waits i s 4) ∧
    (s.t.isSpec = false ∨ ¬ (n = 5 ∨ n = 7 ∨ n = 0xB ∨ n = 0xC) → Runs i s fun t =>
      t.t = { s.t with csr := csrWritten s.t.csr (s.rdS r) n, iss := t.t.iss } ∧ t.t.iss.verdict = .issued ∧ OnlyTile s t)) ∧
  ((∀ i opc whole f s, fmtOp i = some (opc, whole, f) →
    (s.t.isSpec = true → Waits i s 4) ∧
    (s.t.isSpec = false → s.t.thr.inHandler = true → Traps i s .illegal (contextVal s opc)) ∧
    (s.t.isSpec = false → s.t.thr.inHandler = false → ¬ fmtListed (f s) ∨ (whole = true ∧ 2 ^ 11 ≤ (f s).toNat) →
      Traps i s .illegal (f s)) ∧
    (s.t.isSpec = false → s.t.thr.inHandler = false → fmtListed (f s) → (whole = true → (f s).toNat < 2 ^ 11) →
      Runs i s fun t => t.t = { s.t with csr := { s.t.csr with fmtPend := some ((f s).setWidth 11, 4) }, iss := t.t.iss } ∧
        t.t.iss.verdict = .issued ∧ OnlyTile s t)) ∧
  (∀ s v, s.t.csr.fmtPend = some (v, 0) → Runs .fmtDelayExpire s fun t =>
    t.t = { s.t with csr := { s.t.csr with fmt := v, fmtPend := none } } ∧ OnlyTile s t)) ∧
  (∀ (s : State) sp, s.t.spec = some sp → sp.stall = 0 → (csrValue (s.stalled 4) 0x00D).toNat / 2 ^ 4 % 2 ^ 4 = 4)

/-- R182, R293, R297: `nop` does nothing but hold its bundle by its pdist, and the fences issue once what they wait for has finished. -/
def Obligations.FencesWait : Prop :=
  (∀ a s, Yields (.nop a) s s ∧
    (EngDone s.t → Yields (.fenceEng a) s s) ∧ (MoonDone s.t → Yields (.fenceMoon a) s s) ∧
    (AllDone s.t → Yields (.fenceAll a) s s) ∧
    (s.t.iss.clear = false → ¬ EngDone s.t → Waits (.fenceEng a) s 0) ∧
    (s.t.iss.clear = false → ¬ MoonDone s.t → Waits (.fenceMoon a) s 0) ∧
    (s.t.iss.clear = false → ¬ AllDone s.t → Waits (.fenceAll a) s 0)) ∧
  ((∀ k rest j hd tl o a (s : State), TurnOf s k rest → NotAborted s k → Quiet (s.tile k) s.now →
    Fetches (s.tile k) k j hd tl o (.nop a) →
    (s.now < (s.tile k).thr.base + 1 + (Tail.ofNat tl).pdist → step s = .next { s with turn := rest, cur := k }) ∧
    ((Tail.ofNat tl).pdist = 7 → s.now < (s.tile k).thr.base + 8 → step s = .next { s with turn := rest, cur := k }) ∧
    ((s.tile k).thr.base + 1 + (Tail.ofNat tl).pdist ≤ s.now →
      step s = .next (((tried s k rest j (.nop a)).setVerdict .issued).modT fun t => t.endBundle (s.tile k) s.now))))

/-- R144, R294, R299, R300, R363: `halt`, `hwin` and `tbar`, and the release of a barrier. The id of a tbar fault is the model's reading
(log 39). -/
def Obligations.ThreadsEnd : Prop :=
  ((∀ a (s : State), (s.t.isSpec = true → Waits (.halt a) s 4) ∧
    (s.t.isSpec = false → s.t.iss.clear = false → ¬ AllDone s.t → Waits (.halt a) s 0) ∧
    (s.t.isSpec = false → AllDone s.t → Runs (.halt a) s fun t =>
      t.t.thr = { s.t.thr with st := .halted, tbar := none, tbarGo := none } ∧
      t.t.msg = { s.t.msg with posted := [], hamper := s.t.msg.hamper.filter fun h => h.taken.isSome, released := [], ingress := [] } ∧
      (∀ k : Fin 64, t.t.cpl[k] =
        if s.t.cpl[k].used = true ∧ s.t.cpl[k].state = 0 ∧ (s.t.cpl[k].op = .recvr ∨ s.t.cpl[k].op = .gbar ∨ s.t.cpl[k].op = .join) then
          { Slot.free with seq := s.t.cpl[k].seq }
        else s.t.cpl[k]) ∧
      t.t.regs = s.t.regs ∧ t.t.csr = s.t.csr ∧ SameBytes s.t t.t ∧ SameOthers s t ∧
      (∀ e ∈ s.t.msg.ingress, OnItsWay t (mkPacket e.dst e.src 0x08 e.group e.sxid 3 0 [])) ∧
      ∀ h g, s.t.thr.gang = some h → s.gang h = some g → g.suspended = false →
        (∀ r ∈ g.ranks, keyOf r = s.cur ∨ (s.tile (keyOf r)).thr.st = .halted) →
        ⟨s.now + 1, switchKey, .gangComplete h⟩ ∈ t.agenda)) ∧
  (∀ a (s : State), (s.t.isSpec = true → Waits (.hwin a) s 4) ∧
    (s.t.isSpec = false → Yields (.hwin a) s
      (s.modT fun t => { t with msg := { t.msg with ingress := [], released := t.msg.released ++ t.msg.ingress } })))) ∧
  ((∀ a gm (s : State), let g := s.t.csr.gm[gm]
    (s.t.isSpec = true → Waits (.tbar a gm) s 4) ∧
    (s.t.isSpec = false → gmJoined g = false →
      Traps (.tbar a gm) s .engineFault (BitVec.ofNat 64 (gm.val + 8 * 2 ^ 16))) ∧
    (s.t.isSpec = false → gmJoined g = true → g.getLsbD 18 = false →
      Traps (.tbar a gm) s .engineFault (BitVec.ofNat 64 (gm.val + 9 * 2 ^ 16))) ∧
    (s.t.isSpec = false → gmJoined g = true → g.getLsbD 18 = true → s.t.thr.tbarGo = none → Waits (.tbar a gm) s 0) ∧
    (∀ c, s.t.isSpec = false → gmJoined g = true → g.getLsbD 18 = true → s.t.thr.tbarGo = some c → c ≤ s.now →
      s.t.thr.tbar = none → Runs (.tbar a gm) s fun t =>
        t.t = { s.t with thr := { s.t.thr with tbarGo := none }, iss := t.t.iss } ∧ t.t.iss.verdict = .issued ∧
          OnlyTile s t)) ∧
  (∀ (s : State) (gm : Fin 8) (g : Group), s.groupAt (gmGroup s.t.csr.gm[gm]) (s.rankOf s.cur) = some g →
    g.grp = gmGroup s.t.csr.gm[gm] → (∀ r ∈ g.live, s.isLocal r = true) →
    (∃ r ∈ g.live, keyOf r = s.cur) → s.t.thr.st = .running → s.t.thr.tbarGo = none →
    (∀ r ∈ g.live, keyOf r = s.cur ∨ (s.tile (keyOf r)).atTbar (gmGroup s.t.csr.gm[gm]) = true) →
    let t := s.arriveTbar gm
    (∀ r ∈ g.live, (t.tile (keyOf r)).thr.tbarGo = some (s.now + 40)) ∧
      ∃ e ∈ t.agenda, e.due = s.now + 40 ∧ ∃ d, e.ev = .tbarRelease d (gmGroup s.t.csr.gm[gm])) ∧
  (∀ (die : Fin 4) (grp : W16) (s : State), Runs (.tbarRelease die grp) s fun t =>
    ∀ k, t.tile k = if (∃ g ∈ s.red.groups, g.formed = true ∧ g.grp = grp ∧ ∃ r ∈ g.members, s.isLocal r = true ∧ keyOf r = k) ∧ (∃ c ≤ s.now, (s.tile k).thr.tbarGo = some c)
      then { s.tile k with thr := { (s.tile k).thr with tbar := none } } else s.tile k))

/-! ## Traps and interrupts -/

/-- R364-R366: what taking a trap saves, where a thread stops, what is reported, and what a supervisor's trap does (log 56). -/
def Obligations.TrapsAreTaken : Prop :=
  (∀ (s : State) (k : Nat) c tval, c ≠ .fmtMismatch → (∀ sp, (s.tile k).spec = some sp → sp.wait = true) →
    TrapTaken s (s.takeTrap k c tval) k c tval (s.tile k).thr.pc false) ∧
  (∀ (s : State) (k : Nat) c tval (sp : Spec), (s.tile k).spec = some sp → sp.wait = false →
    let t := s.takeTrap k c tval
    t.tile k = { s.tile k with
      spec := some { sp with
        trap := some (⟨c, tval, true⟩, some (s.tile k).thr.pc)
        stall := if sp.stall = 0 then 4 else sp.stall } } ∧
    (∀ j, j ≠ k → t.tile j = s.tile j) ∧ t.rep = s.rep) ∧
  (∀ (s : State) d r, s.t.thr.deferred = d :: r → d.cause ≠ .fmtMismatch → s.t.spec = none → Runs .deferredTrapTake s fun t =>
    ∃ u, u = s.modT (fun y => { y with thr := { y.thr with deferred := r } }) ∧
      TrapTaken u t s.cur d.cause d.tval s.t.thr.pc false) ∧
  (∀ (s : State) (k : Nat) c tval, k < 4096 → (s.tile k).thr.st = .running → (s.tile k).spec = none → c ≠ .fmtMismatch →
    Runs (.trapTake (s.rankOf k) c tval) s fun t => TrapTaken s t k c tval (s.tile k).thr.pc false)

/-- R135, R136, R298, R301, R314, R365: `trap`, `uliret`, `eret`, and the entry of a user-level interrupt, each with the conditions under which
it completes. That entry and return land writes in flight is the model's reading (log 18). -/
def Obligations.TrapsAndReturns : Prop :=
  ((∀ a (code : BitVec 12) (s : State), (s.t.isSpec = false → Traps (.trap a code) s .swTrap (code.setWidth 64) ∧
      Runs (.trap a code) s fun t => TrapTaken s t s.cur .swTrap (code.setWidth 64) s.t.thr.pc false) ∧
    (s.t.isSpec = true → Waits (.trap a code) s 4)) ∧
  (∀ a (s : State), (s.t.thr.inHandler = false → Traps (.uliret a) s .illegal (contextVal s 0x0D)) ∧
    (s.t.thr.inHandler = true → s.t.rounds = true → Waits (.uliret a) s 0) ∧
    (s.t.thr.inHandler = true → s.t.rounds = false → Runs (.uliret a) s fun t =>
      t.t.thr = { s.t.thr with inHandler := false, pc := s.t.thr.uliRet, base := s.now + 2 } ∧ AllLanded s.t t.t ∧
      (∀ n : Fin 64, t.t.regs.s[n] =
        if h : 48 ≤ n.val then s.t.regs.shadow[(⟨n.val - 48, by omega⟩ : Fin 16)] else settled s.t n) ∧
      (∀ i : Fin 16, t.t.regs.shadow[i] = settled s.t ⟨48 + i.val, by omega⟩) ∧
      SameBytes s.t t.t ∧ t.t.csr = s.t.csr ∧ t.t.loops = s.t.loops ∧ t.t.iss.verdict = .issued ∧ OnlyTile s t)) ∧
  (∀ a r (s : State), (s.t.isSpec = true → Waits (.eret a r) s 4) ∧
    (s.t.isSpec = false → isSupervisor s.cur = false ∨ s.t.thr.svHandler = false →
      Traps (.eret a r) s .illegal (contextVal s 0x1D)) ∧
    (s.t.isSpec = false → isSupervisor s.cur = true → s.t.thr.svHandler = true → Runs (.eret a r) s fun t =>
      t.t.thr = { s.t.thr with
        svHandler := false
        pc := if s.t.targetOk (s.rdS r).toNat then BitVec.ofNat 26 (s.rdS r).toNat else s.t.thr.pc
        badTarget := if s.t.targetOk (s.rdS r).toNat then none else some s.t.thr.pc
        base := s.now + 2 } ∧
      t.t = { s.t with thr := t.t.thr, iss := t.t.iss } ∧ OnlyTile s t))) ∧
  (∀ (s : State) (k : Fin 64) c, s.t.csr.ulivec.getLsbD 0 = true → s.t.thr.inHandler = false → s.t.spec = none →
    s.t.cpl[k].uliAt = some c → c + 2 ≤ s.now →
    (∀ (j : Fin 64) d, s.t.cpl[j].uliAt = some d → c ≤ d ∧ (c = d → k ≤ j)) →
    (s.t.cpl[k].nanMis = true → exec .uliEntry s =
      .next (s.takeTrap s.cur .fmtMismatch (BitVec.ofNat 64 (k.val + 64 * s.t.cpl[k].seq.toNat)))) ∧
    (s.t.cpl[k].nanMis = false → Runs .uliEntry s fun t =>
      let st := (s.t.cpl[k].status).toNat
      let handler := s.t.csr.ulivec.toNat / 2 ^ 6 % 2 ^ 11 * 64
      t.t.regs.s[48] = BitVec.ofNat 64 (k.val + 64 * s.t.cpl[k].seq.toNat) ∧ t.t.regs.s[49] = BitVec.ofNat 64 st ∧
      t.t.regs.s[50] = BitVec.ofNat 64 (st / 2 ^ 64) ∧ t.t.regs.s[51] = s.t.thr.pc.setWidth 64 ∧
      (∀ n : Fin 64, n.val < 48 → t.t.regs.s[n] = settled s.t n) ∧
      (∀ i : Fin 16, t.t.regs.shadow[i] = settled s.t ⟨48 + i.val, by omega⟩) ∧ AllLanded s.t t.t ∧
      t.t.cpl = s.t.cpl.set k { s.t.cpl[k] with uliAt := none } ∧
      t.t.thr = { s.t.thr with
        inHandler := true
        tbar := none
        creditSince := none
        drain := true
        uliRet := s.t.thr.pc
        pc := if s.t.targetOk handler then BitVec.ofNat 26 handler else s.t.thr.pc
        badTarget := if s.t.targetOk handler then none else some s.t.thr.pc
        base := s.now + 2 } ∧
      SameBytes s.t t.t ∧ t.t.csr = s.t.csr ∧ OnlyTile s t))

/-! ## Collective branches -/

/-- R291, R331-R341: a collective branch contributes its predicate, keeps a checkpoint and follows its hint; and its resolution,
its timeout and the arrival of its result. The report's spec bit at the first CBR_TIMEOUT is the model's reading (log 41). -/
def Obligations.BranchesSpeculate : Prop :=
  (∀ (i : Instr) all gm p hint target (s : State), cbrOp i = some (all, gm, p, hint, target) →
    let opc := 0x0A
    let g := s.t.csr.gm[gm]
    (s.t.thr.inHandler = true → Traps i s .illegal (contextVal s opc)) ∧
    (s.t.thr.inHandler = false → s.t.loops.depth ≠ 0 → Traps i s .loopDepth (BitVec.ofNat 64 s.t.loops.depth)) ∧
    (s.t.thr.inHandler = false → s.t.loops.depth = 0 → gmJoined g = false →
      Traps i s .engineFault (BitVec.ofNat 64 (gm.val + 8 * 2 ^ 16))) ∧
    (s.t.thr.inHandler = false → s.t.loops.depth = 0 → gmJoined g = true → s.t.isSpec = true → Waits i s 4) ∧
    (s.t.thr.inHandler = false → s.t.loops.depth = 0 → gmJoined g = true → s.t.isSpec = false → Runs i s fun t =>
      let nxt := s.t.nextAddr s.t.thr.pc.toNat
      let dest (b : Bool) : IAddr := BitVec.ofNat 26 (if b then target.toNat else nxt)
      t.t.spec = some ⟨gm, s.t.csr.cbseq[gm], all, hint, dest (!hint), dest hint, s.t.thr.pc, s.t.csr.cbrto, false, none, false,
        0, s.t.regs.s, s.t.regs.m, s.t.loops, [], [], [], [], none⟩ ∧
      t.t.csr = { s.t.csr with cbseq := s.t.csr.cbseq.set gm (s.t.csr.cbseq[gm] + 1) } ∧
      t.t.thr = (if hint = false then s.t.thr
        else if s.t.targetOk target.toNat then
          { s.t.thr with pc := BitVec.ofNat 26 target.toNat, badTarget := none, base := s.now + 2 }
        else { s.t.thr with badTarget := some s.t.thr.pc, base := s.now + 2 }) ∧
      t.t.regs = s.t.regs ∧ (∀ b a, t.t.spmByte b a = s.t.spmByte false a) ∧ SameOthers s t ∧
      OnItsWay t (contribPacket (s.rankOf s.cur) (s.rankOf (s.cur / 1024 * 1024 + 1021))
        ⟨BitVec.ofNat 20 (s.rootOf (gmGroup g)), gmGroup g, s.t.csr.cbseq[gm], true⟩ (if all then .and else .or) false 0 0
        (bytesOf (if predicate s p then 1 else 0) 4)))) ∧
  ((∀ (s : State) (sp : Spec), s.t.spec = some sp → sp.wait = false → sp.result = some (some sp.hint) → sp.trap = none → sp.sends = [] →
    Runs .cbrResolve s fun t =>
      t.t.spec = none ∧ t.t.regs.v = s.t.regs.v ∧ t.t.regs.s = s.t.regs.s ∧ t.t.regs.m = s.t.regs.m ∧
      t.t.thr.pc = s.t.thr.pc ∧ t.t.loops = s.t.loops ∧ t.t.csr = s.t.csr ∧
      (∀ b a, t.t.spmByte b a = s.t.spmByte true a) ∧ OnlyTile s t) ∧
  (∀ (s : State) (sp : Spec), s.t.spec = some sp → sp.wait = false → sp.result = some (some (!sp.hint)) → Runs .cbrResolve s fun t =>
      t.t.spec = none ∧ t.t.regs.s = sp.ckptS ∧ t.t.regs.m = sp.ckptM ∧ Restored sp t.t.loops ∧
      (∀ n : Fin 384, (∀ c ∈ sp.vcopies, c.1 ≠ n) → t.t.regs.v[n] = s.t.regs.v[n]) ∧
      (sp.vcopies.Pairwise (fun c d => c.1 ≠ d.1) → ∀ c ∈ sp.vcopies, t.t.regs.v[c.1] = c.2) ∧
      t.t.regs.q1 = sp.pop1 ++ s.t.regs.q1 ∧
      t.t.thr.pc = (if s.t.targetOk sp.alt.toNat then sp.alt else sp.cbrPc) ∧
      t.t.thr.badTarget = (if s.t.targetOk sp.alt.toNat then none else some sp.cbrPc) ∧ t.t.thr.base = s.now + 2 ∧
      (∀ b a, t.t.spmByte b a = s.t.spmByte false a) ∧ t.t.csr = s.t.csr ∧ OnlyTile s t) ∧
  (∀ (s : State) (sp : Spec) (i : Instr), s.t.spec = some sp → isSupervisor s.cur = false →
    (i = .cbrResolve ∧ sp.result = some none) ∨ i = .cbrtoExpire →
    Runs i s fun t =>
      t.t.thr.st = .stopped ∧ t.t.csr.cause = BitVec.ofNat 9 (causeVal .cbrTimeout s.t.thr.inHandler) ∧
      t.t.csr.epc = sp.cbrPc ∧ t.t.thr.pc = sp.cbrPc ∧
      t.t.csr.tval = BitVec.ofNat 64 (sp.seq.toNat + 2 ^ 16 * sp.gm.val + (if sp.expelled then 2 ^ 19 else 0) +
        if i = .cbrResolve then 2 ^ 20 else 0) ∧
      (sp.wait = false → (∀ w ∈ s.t.regs.flight, w.spec = true) → (∀ l ∈ s.t.regs.loads, l.spec = true) →
        t.t.regs.s = sp.ckptS ∧ t.t.regs.m = sp.ckptM ∧ Restored sp t.t.loops) ∧
      (∀ a, t.t.spmByte false a = s.t.spmByte false a) ∧ SameOthers s t ∧
      Reported t (dieOf s.cur) ⟨s.rankOf s.cur, 8, s.t.thr.inHandler, !sp.wait, sp.cbrPc, t.t.csr.tval,
        BitVec.ofNat 64 s.wclk⟩) ∧
  (∀ (s : State) (sp : Spec) (p : Packet), Plain p 0x1B → s.filtered p = false → s.t.spec = some sp →
    sp.seq.toNat = ofBytes (p.payload.take 16) / 2 ^ 16 % 2 ^ 16 → gmGroup s.t.csr.gm[sp.gm] = p.group →
    let out : Option Bool := if resultStatus p.payload = 1 then some (p.aux.getLsbD 0) else none
    (s.t.thr.st ≠ .stopped → Runs (.brresult p) s fun t =>
      t.t = { s.t with spec := some { sp with result := some out } } ∧ SameOthers s t ∧ (s.isLocal p.src = true → OnlyTile s t)) ∧
    (s.t.thr.st = .stopped → Runs (.brresult p) s fun t =>
      t.t = { s.t with csr := { s.t.csr with latch := s.t.csr.latch.set sp.gm (match out with
        | some false => 1
        | some true => 2
        | none => 3) } } ∧ SameOthers s t ∧ (s.isLocal p.src = true → OnlyTile s t))))

/-! ## Engine ops and messages -/

/-- R105, R106, R198-R202, R292: an engine op waits while speculative, takes the lowest FREE slot or traps, and ends FAULT with the reason
of its first failing check. -/
def Obligations.EngineOpsIssue : Prop :=
  (∀ i s, waitsForResolution i = true → s.t.isSpec = true → Waits i s 4) ∧
  (∀ i o s, engOp s i = some o → s.t.isSpec = false →
    ((∀ k : Fin 64, s.t.cpl[k].used = true) → Traps i s .engineFault 0x10000) ∧
    (∀ k, LowestFree s.t k → CanTake s o.a o.d → Runs i s fun t => EngineIssued s t o k)) ∧
  (∀ i o s k r, engOp s i = some o → s.t.isSpec = false → LowestFree s.t k → CanTake s o.a o.d → o.reason = some r →
    Runs i s fun t =>
      EngineIssued s t o k ∧ t.t.cpl[k].state = 2 ∧ t.t.cpl[k].src = BitVec.ofNat 32 r ∧ t.t.cpl[k].bits = 0 ∧
      t.t.cpl[k].uliAt = (if o.uli then some s.now else none) ∧ t.t.msg = s.t.msg ∧ SameBytes s.t t.t ∧
      t.net = s.net ∧ (∀ e ∈ t.agenda, e ∈ s.agenda ∨ e.ev = .resultWriteback) ∧ SameModule s t)

/-- R85, R86, R97, R202, R213, R335: a `send` or `ssend` that passes its checks sends its message, keeps it behind refused ones, or holds
it while the thread is speculative. -/
def Obligations.SendsLeave : Prop :=
  ∀ i o s k sync ty gm sr sb, engOp s i = some o → sendOf i = some (sync, ty, gm, sr, sb) → LowestFree s.t k →
    CanTake s o.a o.d → o.reason = none → isHostKey s.cur = false →
    let len := bufLen (s.rdS sb)
    let e := sendEnv s sync ty gm sr sb (nextXid s.t k)
    let data := s.t.spmRead s.t.isSpec (bufAddr (s.rdS sb)) len
    (s.t.isSpec = false → (∀ q ∈ s.t.msg.kept, q.pkt.dst ≠ e.dst) → Runs i s fun t =>
      t.t.cpl[k].used = true ∧ t.t.cpl[k].op = o.op ∧ t.t.cpl[k].state = 0 ∧ t.t.cpl[k].length = BitVec.ofNat 32 len ∧
      t.t.cpl[k].x.env = some e ∧ OnItsWay t (message e data) ∧ SameBytes s.t t.t ∧ t.t.msg = s.t.msg) ∧
    (s.t.isSpec = false → (∃ q ∈ s.t.msg.kept, q.pkt.dst = e.dst) → Runs i s fun t =>
      t.t.msg = { s.t.msg with kept := s.t.msg.kept ++ [⟨message e data, false, 0⟩] } ∧ t.t.cpl[k].state = 0 ∧
      t.net = s.net) ∧
    (∀ sp, s.t.spec = some sp → sp.wait = false → len ≤ 65536 → sp.sends.length < 16 →
      (sp.sends.map HeldSend.bytes).sum + len ≤ 65536 → Runs i s fun t =>
        t.t.spec = some { sp with sends := sp.sends ++ [⟨nextXid s.t k, message e data, len⟩] } ∧
        t.t.cpl[k].state = 0 ∧ t.t.cpl[k].spec = true ∧ t.net = s.net) ∧
    (∀ sp, s.t.spec = some sp → sp.wait = false → len ≤ 65536 →
      16 ≤ sp.sends.length ∨ 65536 < (sp.sends.map HeldSend.bytes).sum + len → Waits i s 3) ∧
    (s.t.isSpec = true → 65536 < len → Traps i s .specLimit (BitVec.ofNat 64 len))

/-- R88, R89, R92, R95, R96, R98, R214: a `recv` takes the earliest held envelope that matches, or is posted; and a held eager message
that was taken reaches its buffer. -/
def Obligations.ReceivesPost : Prop :=
  (∀ a gm uli d sr sb sm o s k, let i : Instr := .recv a gm uli d sr sb sm
    engOp s i = some o → s.t.isSpec = false → LowestFree s.t k → CanTake s a d → o.reason = none →
    let r := recvPost s gm sr sb sm (nextXid s.t k)
    ((∀ h ∈ s.t.msg.hamper, ¬ Takes r h) → s.t.msg.posted.length < 256 → Runs i s fun t =>
      t.t.msg = { s.t.msg with posted := s.t.msg.posted ++ [r] } ∧ t.t.cpl[k].state = 0 ∧ t.t.cpl[k].op = .recv ∧
      SameBytes s.t t.t ∧ SameModule s t) ∧
    ((∀ h ∈ s.t.msg.hamper, ¬ Takes r h) → 256 ≤ s.t.msg.posted.length → Runs i s fun t =>
      t.t.msg = s.t.msg ∧ t.t.cpl[k].state = 5) ∧
    (∀ h, IsFirst s.t.msg.hamper (Takes r) h → h.kind = .rts → 0 < min h.env.len r.cap → Runs i s fun t =>
      let n := min h.env.len r.cap
      t.t.msg = { s.t.msg with hamper := s.t.msg.hamper.erase h, pulls := s.t.msg.pulls ++ [⟨h.env, r.xid, n, 0⟩] } ∧
      t.t.cpl[k].state = 0 ∧ t.t.cpl[k].geom = some n ∧ t.t.cpl[k].length = BitVec.ofNat 32 h.env.len ∧
      OnItsWay t (reply h.env 0x02 0 n) ∧ SameBytes s.t t.t) ∧
    (∀ h, IsFirst s.t.msg.hamper (Takes r) h → h.kind = .eager → 0 < min h.env.len r.cap → Runs i s fun t =>
      (∃ e ∈ t.agenda, e.unit = s.cur ∧ e.ev = .hamperCopyDone r.xid ∧ s.now + 1 ≤ e.due) ∧
      t.t.msg = { s.t.msg with
        hamper := s.t.msg.hamper.map fun x => if x = h then { x with taken := some r.xid } else x } ∧
      t.t.cpl[k].state = 0 ∧ SameBytes s.t t.t) ∧
    (∀ h, IsFirst s.t.msg.hamper (Takes r) h → min h.env.len r.cap = 0 → Runs i s fun t =>
      t.t.msg = { s.t.msg with hamper := s.t.msg.hamper.erase h } ∧
      t.t.cpl[k].state = (if h.env.len = 0 then 1 else 3) ∧ t.t.cpl[k].src = h.env.src ∧ SameBytes s.t t.t ∧
      (h.kind = .rts → OnItsWay t (reply h.env 0x07 0 0)))) ∧
  (∀ xid h c s, IsFirst s.t.msg.hamper (fun x => x.taken = some xid) h → InProgress s.t xid c → EngineWorks s.t →
    let n := min h.env.len c.x.len
    let m := min 64 (n - h.copied)
    let at_ := s.t.csr.hampbase.toNat + 64 * h.gran + h.copied
    (s.t.badWord at_ m false = none → n ≤ h.copied + m → Runs (.hamperCopyDone xid) s fun t =>
      let mis := h.env.etype != 0 && h.env.nan != s.t.csr.fmt.getLsbD 8
      t.t.msg = { s.t.msg with hamper := s.t.msg.hamper.erase h } ∧
      t.t.cpl = s.t.cpl.set (slotIx xid) (ended { c with nanMis := mis } s.now (if h.env.len ≤ c.x.len then 1 else 3)
        (BitVec.ofNat 32 h.env.len) h.env.src) ∧
      Copied s t (c.x.buf + h.copied) (s.t.spmRead false at_ m) ∧ OnlyTile s t) ∧
    (s.t.badWord at_ m false = none → h.copied + m < n → Runs (.hamperCopyDone xid) s fun t =>
      t.t.msg = { s.t.msg with hamper := s.t.msg.hamper.map fun x => if x = h then { x with copied := h.copied + m } else x } ∧
      (t.t.cpl[slotIx xid]).state = 0 ∧ (∀ j, j ≠ slotIx xid → t.t.cpl[j] = s.t.cpl[j]) ∧
      (∀ len, c.geom = some len → ∀ b < 64, (t.t.cpl[slotIx xid]).bits.getLsbD b =
        (c.bits.getLsbD b || decide ((b + 1) * (512 * 2 ^ chunkExp len) ≤ h.copied + m ∨ len ≤ h.copied + m ∧ b < nchunks len))) ∧
      (∃ e ∈ t.agenda, e.unit = s.cur ∧ e.ev = .hamperCopyDone xid ∧ s.now + 1 ≤ e.due) ∧
      Copied s t (c.x.buf + h.copied) (s.t.spmRead false at_ m) ∧ SameOthers s t) ∧
    (s.t.badWord at_ m false ≠ none → Runs (.hamperCopyDone xid) s fun t =>
      t.t = { s.t with
        msg := { s.t.msg with hamper := s.t.msg.hamper.erase h }
        cpl := s.t.cpl.set (slotIx xid) (ended c s.now 2 c.length 0x85) } ∧ OnlyTile s t))

/-- R101, R102, R215, R216: `probe` reports the earliest matching envelope, and `cancel` what became of a receive. -/
def Obligations.ProbesAndCancels : Prop :=
  (∀ a gm (d : Fin 63) sr sm s, s.t.isSpec = false →
    let r : Posted := recvPost s gm sr sr sm 0
    let put (lo hi : Nat) (t : State) : Prop :=
      (∃ u v, s.wrS a 1 (.s ⟨d.val, by omega⟩) (BitVec.ofNat 64 lo) = .ok u ∧
        u.wrS a 1 (.s ⟨d.val + 1, by omega⟩) (BitVec.ofNat 64 hi) = .ok v ∧ t = v.setVerdict .issued)
    (∀ h, notJoined s gm = false → IsFirst s.t.msg.hamper (Takes r) h →
      Runs (.probe a gm (.s ⟨d.val, by omega⟩) sr sm) s (put (h.env.src.toNat + 2 ^ 32 * h.env.tag.toNat)
        (1 + 2 * h.env.etype.toNat + 2 ^ 5 * h.env.len + if h.kind = .rts then 2 ^ 26 else 0))) ∧
    (notJoined s gm = true ∨ (∀ h ∈ s.t.msg.hamper, ¬ Takes r h) →
      Runs (.probe a gm (.s ⟨d.val, by omega⟩) sr sm) s (put 0 0))) ∧
  (∀ a d sx s, s.t.isSpec = false →
    let xid : W16 := (s.rdS sx).setWidth 16
    let c := s.t.cpl[slotIx xid]
    let mine := c.used = true ∧ c.seq = xidSeq xid ∧ c.op = .recv
    (¬ mine → ∀ t, s.wrS a 1 d 2 = .ok t → Yields (.cancel a d sx) s t) ∧
    (mine → (∀ q ∈ s.t.msg.posted, q.xid ≠ xid) → ∀ t, s.wrS a 1 d 1 = .ok t → Yields (.cancel a d sx) s t) ∧
    (∀ q, InProgress s.t xid c → c.op = .recv → IsFirst s.t.msg.posted (fun q => q.xid = xid) q → CanTake s a d →
      Runs (.cancel a d sx) s fun t =>
        t.t.msg = { s.t.msg with posted := s.t.msg.posted.erase q } ∧ t.t.cpl = s.t.cpl.set (slotIx xid) (ended c s.now 4 c.length 0) ∧
        (∀ n, d = .s n → ⟨s.now + 1, .s n, 0, 0, a.sba, false⟩ ∈ t.t.regs.flight) ∧ SameBytes s.t t.t ∧ SameOthers s t))

/-- EAGER and RTS (R83, R87, R89, R92, R94, R96-R98): a message meets the earliest posted receive that matches, is held, or is refused. -/
def Obligations.MessagesArrive : Prop :=
  ∀ i e data s, Arriving s i e data → Receives s e →
    (keyOf e.src % 1024 = 1023 → s.t.msg.ingress.length < 16 → Runs i s fun t =>
      t.t = { s.t with msg := { s.t.msg with ingress := s.t.msg.ingress ++ [e], tookAt := some s.now } } ∧ OnlyTile s t) ∧
    (keyOf e.src % 1024 = 1023 → 16 ≤ s.t.msg.ingress.length → Runs i s fun t =>
      t.t = { s.t with msg := { s.t.msg with refused := s.t.msg.refused ++ [(e.src, e.sxid)], tookAt := some s.now } } ∧
      OnItsWay t (reply e 0x08 1 0)) ∧
    (keyOf e.src % 1024 ≠ 1023 → (∀ r c, IsFirst s.t.msg.posted (fun r => Matches r e) r → InProgress s.t r.xid c → e.rdv = false →
      data.length = e.len → Runs i s fun t =>
        t.t.msg = { s.t.msg with posted := s.t.msg.posted.erase r, tookAt := some s.now } ∧
        (t.t.cpl[slotIx r.xid]).state = (if e.len ≤ r.cap then 1 else 3) ∧
        (t.t.cpl[slotIx r.xid]).length = BitVec.ofNat 32 e.len ∧ (t.t.cpl[slotIx r.xid]).src = e.src ∧
        (t.t.cpl[slotIx r.xid]).nanMis = (e.etype != 0 && e.nan != s.t.csr.fmt.getLsbD 8) ∧
        Copied s t r.buf (data.take (min e.len r.cap)) ∧ OnItsWay t (reply e 0x04 0 0) ∧ SameOthers s t) ∧
    (∀ r c, IsFirst s.t.msg.posted (fun r => Matches r e) r → InProgress s.t r.xid c → e.rdv = true →
      0 < min e.len r.cap → Runs i s fun t =>
        t.t.msg = { s.t.msg with
          posted := s.t.msg.posted.erase r, pulls := s.t.msg.pulls ++ [⟨e, r.xid, min e.len r.cap, 0⟩], tookAt := some s.now } ∧
        (t.t.cpl[slotIx r.xid]).state = 0 ∧ (t.t.cpl[slotIx r.xid]).geom = some (min e.len r.cap) ∧
        (t.t.cpl[slotIx r.xid]).length = BitVec.ofNat 32 e.len ∧
        OnItsWay t (reply e 0x02 0 (min e.len r.cap)) ∧ SameBytes s.t t.t ∧ SameOthers s t) ∧
    (∀ r c, IsFirst s.t.msg.posted (fun r => Matches r e) r → InProgress s.t r.xid c → e.rdv = true →
      min e.len r.cap = 0 → Runs i s fun t =>
        t.t.msg = { s.t.msg with posted := s.t.msg.posted.erase r, tookAt := some s.now } ∧
        (t.t.cpl[slotIx r.xid]).state = (if e.len = 0 then 1 else 3) ∧
        OnItsWay t (reply e 0x07 0 0) ∧ SameBytes s.t t.t ∧ SameOthers s t) ∧
    ((∀ r ∈ s.t.msg.posted, ¬ Matches r e) → s.t.msg.hamper.length < 256 → e.rdv = true → Runs i s fun t =>
        t.t = { s.t with msg := { s.t.msg with
          hamper := s.t.msg.hamper ++ [⟨.rts, e, none, 0, 0, 0, none, 0⟩], tookAt := some s.now } } ∧
        OnItsWay t (reply e 0x06 0 0)) ∧
    (∀ g, (∀ r ∈ s.t.msg.posted, ¬ Matches r e) → s.t.msg.hamper.length < 256 → e.rdv = false →
      s.t.findGran ((e.len + 63) / 64) = some g → Runs i s fun t =>
        t.t.msg = { s.t.msg with
          hamper := s.t.msg.hamper ++ [⟨.eager, e, none, g, (e.len + 63) / 64, e.len, none, 0⟩], tookAt := some s.now } ∧
        Copied s t (s.t.csr.hampbase.toNat + 64 * g) data ∧ OnItsWay t (reply e 0x04 0 0)) ∧
    ((∀ r ∈ s.t.msg.posted, ¬ Matches r e) → s.t.msg.hamper.length < 256 → e.rdv = false →
      s.t.findGran ((e.len + 63) / 64) = none → Runs i s fun t =>
        t.t = { s.t with msg := { s.t.msg with
          hamper := s.t.msg.hamper ++ [⟨.rts, e, none, 0, 0, 0, none, 0⟩], tookAt := some s.now } } ∧
        OnItsWay t (reply e 0x05 0 0)) ∧
    ((∀ r ∈ s.t.msg.posted, ¬ Matches r e) → 256 ≤ s.t.msg.hamper.length → Runs i s fun t =>
        t.t = { s.t with msg := { s.t.msg with tookAt := some s.now } } ∧ OnItsWay t (reply e 0x08 4 0)))

/-- PULL, RDATA, ACCEPT, KEEPHDR, HELD, FIN, REFUSE and REFUSED_RESEND at a tile (R94, R96, R97, R100, R107). -/
def Obligations.TransfersProceed : Prop :=
  (∀ p c s, isHostKey s.cur = false → EngineActs s.t p.group → s.t.msg.kept = [] → InProgress s.t p.xid c →
    (c.op = .send ∨ c.op = .ssend) →
    (Plain p 0x04 → Runs (.accept p) s fun t => OnlySlot s t p.xid (ended c s.now 1 c.length 0)) ∧
    (Plain p 0x07 → Runs (.fin p) s fun t => OnlySlot s t p.xid (ended c s.now 1 c.length 0)) ∧
    (Plain p 0x06 → Runs (.held p) s fun t => t = s) ∧
    (Plain p 0x05 → Runs (.keephdr p) s fun t => OnlySlot s t p.xid
      { c with x := { c.x with env := c.x.env.map fun e => { e with rdv := true } } }) ∧
    (∀ e o m, Plain p 0x02 → c.x.env = some e → c.x.hold = none → p.xid ∉ s.t.msg.streams →
      NextPiece p.ext p.off.toNat 0 o m → s.t.badWord (c.x.buf + o) m false = none → Runs (.pull p) s fun t =>
        t.t = { s.t with
          cpl := s.t.cpl.set (slotIx p.xid) { c with x := { c.x with
            streaming := true, pulled := p.off.toNat, sent := o + m, skip := p.ext, nextAt := s.now + flitsOf m } }
          msg := { s.t.msg with streams := s.t.msg.streams ++ [p.xid] } } ∧
        SameOthers s t ∧
        OnItsWay t (mkPacket e.src e.dst 0x03 e.group e.sxid 0 o (s.t.spmRead false (c.x.buf + o) m))) ∧
    (Plain p 0x08 → p.ext.getLsbD 0 = false → c.x.peer = p.src →
      (p.aux = 3 → Runs (.refuse p) s fun t => OnlySlot s t p.xid (ended c s.now 7 c.length 0)) ∧
      (p.aux = 4 → Runs (.refuse p) s fun t => OnlySlot s t p.xid (ended c s.now 5 c.length 0)) ∧
      (p.aux = 5 → Runs (.refuse p) s fun t => OnlySlot s t p.xid (ended c s.now 2 c.length 0x83)) ∧
      (p.aux = 6 → Runs (.refuse p) s fun t => OnlySlot s t p.xid (ended c s.now 2 c.length 0x82)) ∧
      (c.x.streaming = true → p.aux = 1 ∨ p.aux = 2 → Runs (.refuse p) s fun t =>
        OnlySlot s t p.xid { c with x := { c.x with streaming := false } }) ∧
      (∀ m, c.x.streaming = false → p.aux = 1 ∨ p.aux = 2 → s.t.message c = some m → Runs (.refuse p) s fun t =>
        t.t = { s.t with msg := { s.t.msg with kept := [⟨m, false, s.now + 1024⟩] } } ∧
        ⟨s.now + 1024, s.cur, .refusedResend⟩ ∈ t.agenda ∧ SameOthers s t))) ∧
  (∀ p s, Plain p 0x02 → isHostKey s.cur = false → EngineActs s.t p.group → NoSend s.t p.xid → Runs (.pull p) s fun t =>
    t.t = s.t ∧ OnItsWay t { mkPacket p.dst p.src 0x08 p.group p.xid 3 0 [] with ext := 1 }) ∧
  (∀ p q c s, Plain p 0x08 → isHostKey s.cur = false → EngineActs s.t p.group → p.ext.getLsbD 0 = true →
    IsFirst s.t.msg.pulls (fun q => q.env.src = p.src ∧ q.env.sxid = p.xid) q → InProgress s.t q.xid c →
    Runs (.refuse p) s fun t =>
      t.t = { s.t with
        msg := { s.t.msg with pulls := s.t.msg.pulls.erase q }
        cpl := s.t.cpl.set (slotIx q.xid) (if p.aux = 6 then ended c s.now 2 (BitVec.ofNat 32 q.env.len) 0x82
          else ended c s.now 7 (BitVec.ofNat 32 q.env.len) 0) } ∧ OnlyTile s t) ∧
  (∀ p q c s, Plain p 0x03 → isHostKey s.cur = false → EngineActs s.t p.group →
    IsFirst s.t.msg.pulls (fun q => q.env.src = p.src ∧ q.env.sxid = p.xid) q → InProgress s.t q.xid c →
    q.n ≤ p.off.toNat + p.payload.length → Runs (.rdata p) s fun t =>
      Copied s t (c.x.buf + p.off.toNat) p.payload ∧ t.t.msg = { s.t.msg with pulls := s.t.msg.pulls.erase q } ∧
      (t.t.cpl[slotIx q.xid]).state = (if q.n = q.env.len then 1 else 3) ∧
      (t.t.cpl[slotIx q.xid]).length = BitVec.ofNat 32 q.env.len ∧ (t.t.cpl[slotIx q.xid]).src = q.env.src ∧
      OnItsWay t (reply q.env 0x07 0 0) ∧ SameOthers s t) ∧
  (∀ q s, isHostKey s.cur = false → EngineWorks s.t → s.t.msg.kept = [q] → q.away = false → q.due ≤ s.now → pktEvent q.pkt ≠ none →
    Runs .refusedResend s fun t =>
      t.t = { s.t with msg := { s.t.msg with kept := [{ q with away := true }] } } ∧ OnItsWay t q.pkt ∧ SameOthers s t)

/-- R104, R105, R226-R229: `xtst`, `xwait` and `xinfo` observe a transfer, trap on a stale id or a format mismatch, and `xfree` frees it. -/
def Obligations.TransfersAreObserved : Prop :=
  ∀ s sx, let xid : W16 := (s.rdS sx).setWidth 16
    let c := s.t.cpl[slotIx xid]
    let live := c.used = true ∧ c.seq = xidSeq xid
    let spent := c.state ≠ 0 ∧ c.nanMis = true
    (∀ a d hi sm, ¬ live → Traps (.xtst a d sx sm) s .engineFault (xid.setWidth 64) ∧
      Traps (.xwait a sx sm) s .engineFault (xid.setWidth 64) ∧ Traps (.xinfo a hi d sx) s .engineFault (xid.setWidth 64) ∧
      Traps (.xfree a sx) s .engineFault (xid.setWidth 64)) ∧
    (∀ a d hi sm, live → spent → Traps (.xtst a d sx sm) s .fmtMismatch (xid.setWidth 64) ∧
      Traps (.xwait a sx sm) s .fmtMismatch (xid.setWidth 64) ∧
      Traps (.xinfo a hi d sx) s .fmtMismatch (xid.setWidth 64)) ∧
    (∀ a d sm t, live → ¬ spent → let m := s.rdS sm
      s.wrS a 1 d (BitVec.ofNat 64 ((if c.bits &&& m = m then 1 else 0) + (if c.state = 0 then 0 else 2) +
        2 ^ 4 * c.state.toNat)) = .ok t → Yields (.xtst a d sx sm) s t) ∧
    (∀ a sm, live → ¬ spent → (c.state ≠ 0 ∨ (s.rdS sm ≠ 0 ∧ c.bits &&& s.rdS sm = s.rdS sm) → Yields (.xwait a sx sm) s s) ∧
      (c.state = 0 → s.rdS sm = 0 ∨ c.bits &&& s.rdS sm ≠ s.rdS sm → Waits (.xwait a sx sm) s 0)) ∧
    (∀ a hi d t, live → ¬ spent → let x := (c.status).toNat
      s.delay.2.wrS a (2 + min 4 s.delay.1) d (BitVec.ofNat 64 (if hi then x / 2 ^ 64 else x)) = .ok t →
      Yields (.xinfo a hi d sx) s t) ∧
    (∀ a, live → c.state = 0 → Traps (.xfree a sx) s .engineFault (BitVec.ofNat 64 (xid.toNat + 3 * 2 ^ 16))) ∧
    (∀ a, live → c.state ≠ 0 → Runs (.xfree a sx) s fun t =>
      t.t = { s.t with cpl := s.t.cpl.set (slotIx xid) { Slot.free with seq := c.seq }, iss := t.t.iss } ∧
        t.t.iss.verdict = .issued ∧ OnlyTile s t)

/-! ## The copy engine -/

/-- R131, R132, R210-R212: `cset` always writes its shadow register, `cgo` checks and queues the shadow registers as they stand at its
issue, and the end of a work set starts the next. -/
def Obligations.WorkSetsQueue : Prop :=
  (∀ a k sa s, Runs (.cset a k sa) s fun t =>
    t.t = { s.t with copy := { s.t.copy with sh := s.t.copy.sh.set k (s.rdS sa) }, iss := t.t.iss } ∧ t.t.iss.verdict = .issued ∧
      OnlyTile s t) ∧
  (∀ a d s k, s.t.isSpec = false → LowestFree s.t k → CanTake s a d →
    let r := s.t.copy.sh
    let op := r[0].toNat % 8
    let rsv := r[0].toNat / 16 ≠ 0 ∨ 2 ^ 20 ≤ r[1].toNat ∨ 2 ^ 20 ≤ r[2].toNat ∨ 2 ^ 20 ≤ r[3].toNat ∨ 5 ≤ op
    let o : EngOp := ⟨a, d, .cgo, r[0].getLsbD 3, none⟩
    let recOk (x : Nat) : Prop := x % 16 = 0 ∧ x + 32 ≤ 0x100000 ∧ s.t.hitsHamper x 32 = false
    (4 ≤ s.t.copy.ws.length → Waits (.cgo a d) s 0) ∧
    (s.t.copy.ws.length < 4 → rsv → Runs (.cgo a d) s fun t =>
      EngineIssued s t o k ∧ t.t.cpl[k].state = 2 ∧ t.t.cpl[k].src = 0x84 ∧ t.t.copy = s.t.copy) ∧
    (s.t.copy.ws.length < 4 → ¬ rsv → r[2].toNat % 16 ≠ 0 → Traps (.cgo a d) s .align (r[2])) ∧
    (s.t.copy.ws.length < 4 → ¬ rsv → r[2].toNat % 16 = 0 → 0x100000 < r[2].toNat + 32 ∨ s.t.hitsHamper r[2].toNat 32 = true →
      Traps (.cgo a d) s .scratchRange (r[2])) ∧
    (s.t.copy.ws.length < 4 → ¬ rsv → recOk r[2].toNat → (op ≠ 1 → recOk r[1].toNat) →
      (op = 3 ∨ op = 4 → r[3].toNat % 4 = 0 ∧ r[3].toNat + 4 ≤ 0x100000) → Runs (.cgo a d) s fun t =>
        EngineIssued s t o k ∧ t.t.cpl[k].state = 0 ∧
        t.t.copy = { s.t.copy with ws := s.t.copy.ws ++ [⟨r, nextXid s.t k, false, none, none, 0⟩] } ∧
        (s.t.copy.ws = [] → ∃ e ∈ t.agenda, e.unit = s.cur ∧ s.now < e.due ∧ e.ev =
          if op = 0 then .copy else if op = 1 then .fill else if op = 2 then .transpose else if op = 3 then .gather
          else .scatter))) ∧
  (∀ s w r c, s.t.copy.ws = w :: r → InProgress s.t w.xid c → Runs .copyWorksetDone s fun t =>
    t.t = { s.t with
      cpl := s.t.cpl.set (slotIx w.xid) (ended c s.now 1 c.length 0), copy := { s.t.copy with ws := r } } ∧
    SameOthers s t ∧ (r = [] → t.agenda = s.agenda))

/-- COPY, FILL, TRANSPOSE, GATHER and SCATTER (R107, R128-R134): the index list is read first, then the elements move cycle by cycle, each
from where its operation takes it. -/
def Obligations.CopiesMove : Prop :=
  (∀ s w rest c src dst, CopyReady s w rest c src dst →
    let op := w.regs[0].toNat % 8
    let lead := if op = 4 then src else dst
    let len := lead.count * lead.size
    let n := listLen op src dst
    let ready (t : State) : Prop := (t.t.cpl[slotIx w.xid]).length = BitVec.ofNat 32 len ∧ (t.t.cpl[slotIx w.xid]).geom = some len
    (n = 0 → Runs (copyStep op) s fun t =>
      ready t ∧ CopyBatch s t { w with recs := some (src, dst), list := some [] } rest lead (copyMove op src dst []) dst
        fun b => decide (nchunks len ≤ b)) ∧
    (n ≠ 0 → s.t.outside (w.regs[3].toNat % 2 ^ 20 : Nat) (4 * n) = false →
      (op = 3 ∨ dst.count = 0 ∨
        overlaps dst.spanLo (dst.spanHi - dst.spanLo) (w.regs[3].toNat % 2 ^ 20 : Nat) (4 * n) = false) →
      Runs (copyStep op) s fun t =>
        ready t ∧ t.t.copy = { s.t.copy with ws := { w with recs := some (src, dst), list := none } :: rest } ∧
        (∃ e ∈ t.agenda, e.ev = copyStep op ∧ e.unit = s.cur ∧
          s.now + (w.regs[3].toNat % 2 ^ 20 % 16 + 4 * n + 15) / 16 ≤ e.due) ∧ SameBytes s.t t.t ∧ SameOthers s t)) ∧
  (∀ s w rest c src dst l, CopyRuns s w rest c src dst l →
    let op := w.regs[0].toNat % 8
    let lead := if op = 4 then src else dst
    Runs (copyStep op) s fun t =>
      CopyBatch s t { w with list := some l } rest lead (copyMove op src dst l) dst fun b => c.bits.getLsbD b) ∧
  (∀ s w rest c, s.t.copy.ws = w :: rest → InProgress s.t w.xid c → w.recs = none → w.spec = false → s.t.spmBad = [] →
    (Shape.of (s.t.spmNat false (w.regs[2].toNat % 2 ^ 20) 32)).rsv = true → Runs (copyStep (w.regs[0].toNat % 8)) s fun t =>
      t.t.cpl[slotIx w.xid] = ended c s.now 2 c.length 0x84 ∧ t.t.copy.ws = rest ∧ SameBytes s.t t.t ∧ SameOthers s t)

/-! ## Moons -/

/-- R41-R43, R217-R220: transfers are cut into pieces, requested from their moons, and completed by the replies. -/
def Obligations.MoonTransfersRequest : Prop :=
  ((∀ moon va len, len ≤ 2 ^ 20 →
    let ps := cutPieces moon va len 0 cutFuel
    (ps.map Piece.len).sum = len ∧
    (∀ p ∈ ps, 0 < p.len ∧ p.len ≤ 4096 ∧ p.addr = va + p.off ∧ p.moon = moon ∧ p.reply = none ∧
      p.addr / 65536 = (p.addr + p.len - 1) / 65536) ∧
    ∀ i (h : i + 1 < ps.length), ps[i + 1].off = ps[i].off + ps[i].len) ∧
  (∀ a uli d sv sb sm o s k, let i : Instr := .mget a uli d sv sb sm
    engOp s i = some o → s.t.isSpec = false → LowestFree s.t k → CanTake s a d → o.reason = none →
    let len := bufLen (s.rdS sb)
    (len = 0 → Runs i s fun t => t.t.cpl[k].state = 1 ∧ t.net = s.net) ∧
    (0 < len → Runs i s fun t => Requested s t k 0 false (fun _ => [])
      (cutPieces ((s.rdS sm).setWidth 32) (s.rdS sv).toNat len 0 cutFuel) ∧ SameBytes s.t t.t)) ∧
  (∀ a uli d sv sb sm o s k, let i : Instr := .mput a uli d sv sb sm
    engOp s i = some o → s.t.isSpec = false → LowestFree s.t k → CanTake s a d → o.reason = none →
    let len := bufLen (s.rdS sb)
    (len = 0 → Runs i s fun t => t.t.cpl[k].state = 1 ∧ t.net = s.net) ∧
    (0 < len → Runs i s fun t =>
      Requested s t k 1 false (fun p => s.t.spmRead false (bufAddr (s.rdS sb) + p.off) p.len)
        (cutPieces ((s.rdS sm).setWidth 32) (s.rdS sv).toNat len 0 cutFuel) ∧ SameBytes s.t t.t))) ∧
  ((∀ a op wide uli d sa s k, s.t.isSpec = false → LowestFree s.t k → CanTake s a d →
    let o : EngOp := ⟨a, d, .matom, uli, none⟩
    let r := atomRec s sa
    (atomReason s op wide sa = none → Runs (.matom a op wide uli d sa) s fun t =>
      EngineIssued s t o k ∧ Requested s t k (atomCode op wide) false (fun _ => bytesOf (r / 2 ^ 128 % 2 ^ 128) 16)
        [⟨0, if wide then 8 else 4, BitVec.ofNat 32 r, r / 2 ^ 64 % 2 ^ 64, true, none⟩]) ∧
    (∀ q, atomReason s op wide sa = some q → Runs (.matom a op wide uli d sa) s fun t =>
      EngineIssued s t o k ∧ t.t.cpl[k].state = 2 ∧ t.t.cpl[k].src = BitVec.ofNat 32 q ∧ t.net = s.net)) ∧
  (∀ a uli d se sb so s k, s.t.isSpec = false → LowestFree s.t k → CanTake s a d →
    let e : W16 := (s.rdS se).setWidth 16
    let x := s.ertEnt e
    let off := (s.rdS so).toNat % 2 ^ 32
    let len := bufLen (s.rdS sb)
    let bad := bufBad s (s.rdS sb) = true ∨ 2 ^ 16 ≤ (s.rdS se).toNat ∨ 2 ^ 32 ≤ (s.rdS so).toNat
    let found := e ≠ 0xFFFF ∧ (x.state = 2 ∨ x.state = 3 ∨ x.state = 4) ∧ x.asid = s.t.thr.asid ∧ x.readers ≠ 0xFFFF ∧
      off + len ≤ x.size.toNat * 65536
    let fault (q : Nat) (t : State) : Prop := EngineIssued s t ⟨a, d, .exget, uli, none⟩ k ∧ t.t.cpl[k].state = 2 ∧
      t.t.cpl[k].src = BitVec.ofNat 32 q ∧ t.ert.ent = s.ert.ent ∧
      t.ert.cnt[dieOf s.cur].exgetFaults = sat32 s.ert.cnt[dieOf s.cur].exgetFaults ∧
      ∃ r, Reported t (dieOf s.cur) r ∧ r.code = 0x25 ∧ r.rank = s.rankOf s.cur ∧
        r.tval = BitVec.ofNat 64 ((s.rankOf s.cur).toNat + 2 ^ 32 * e.toNat + 2 ^ 48 * q)
    s.isFrozen 0 e.toNat = false →
    (bad → Runs (.exget a uli d se sb so) s (fault 0x81)) ∧
    (¬ bad → ¬ found → Runs (.exget a uli d se sb so) s (fault 0x80)) ∧
    (¬ bad → found → 0 < len →
      let ps := s.expertPieces x (x.size.toNat * 65536 / (x.splitm1.toNat + 1)) off len 0 8
      (Runs (.exget a uli d se sb so) s fun t =>
        EngineIssued s t ⟨a, d, .exget, uli, none⟩ k ∧ t.ertEnt e = { x with readers := x.readers + 1 } ∧
        Requested s t k 0 true (fun _ => []) ps) ∧
      (x.splitm1 = 0 → ps =
        cutPieces (s.rankOf (x.pdie.val * 1024 + 288 + x.moon.val)) (x.base.toNat * 65536 + off) len 0 cutFuel)))) ∧
  (∀ p s c i q, Plain p 0x11 →
    let h := ofBytes (p.payload.take 16)
    let xid : W16 := BitVec.ofNat 16 (h / 2 ^ 32 % 2 ^ 16)
    let data := p.payload.drop 16
    (p.src, xid, i) ∉ s.t.msg.orphans → (∀ j ∈ s.jobs, ¬ (j.owner = p.dst ∧ j.xid = xid)) →
    InProgress s.t xid c → s.t.isSpec = false → h / 2 ^ 16 % 2 ^ 16 = i → c.x.pieces[i]? = some q → q.reply = none → c.x.expert = none ∨ c.op = .exget →
    let rest := ∀ j r, j ≠ i → c.x.pieces[j]? = some r → r.reply = some 0
    (h % 16 = 1 → c.op = .mget → rest → Runs (.mrsp p) s fun t =>
      Copied s t (c.x.buf + q.off) data ∧ (t.t.cpl[slotIx xid]).state = 1 ∧
      (t.t.cpl[slotIx xid]).bits = BitVec.allOnes 64 ∧ OnlyTile s t) ∧
    (h % 16 = 1 → c.op = .mput → rest → Runs (.mrsp p) s fun t =>
      (t.t.cpl[slotIx xid]).state = 1 ∧ SameBytes s.t t.t ∧ OnlyTile s t) ∧
    (h % 16 = 1 → c.op = .matom → rest → Runs (.mrsp p) s fun t =>
      Copied s t (c.x.buf + 32) (bytesOf (h / 2 ^ 64 % 2 ^ 64) 8) ∧ (t.t.cpl[slotIx xid]).state = 1 ∧ OnlyTile s t) ∧
    (h % 16 = 1 → c.op = .mput → (∃ j r, j ≠ i ∧ c.x.pieces[j]? = some r ∧ r.reply = none) → Runs (.mrsp p) s fun t =>
      (t.t.cpl[slotIx xid]).state = 0 ∧ (t.t.cpl[slotIx xid]).x.pieces = c.x.pieces.set i { q with reply := some 0 } ∧
      SameBytes s.t t.t ∧ OnlyTile s t) ∧
    (h % 16 = 2 → h / 2 ^ 8 % 2 ^ 8 ≠ 0 → h / 2 ^ 8 % 2 ^ 8 ≠ 0xFF → c.op = .mget ∨ c.op = .mput ∨ c.op = .matom → rest → Runs (.mrsp p) s fun t =>
        (t.t.cpl[slotIx xid]).state = 2 ∧
        (t.t.cpl[slotIx xid]).src = BitVec.ofNat 32 (h / 2 ^ 8 % 2 ^ 8 + 2 ^ 8 * (q.off % 2 ^ 24)) ∧ SameBytes s.t t.t ∧
        OnlyTile s t) ∧
    (∀ e, h % 16 = 1 → c.op = .exget → c.x.expert = some e → rest → Runs (.mrsp p) s fun t =>
      Copied s t (c.x.buf + q.off) data ∧ (t.t.cpl[slotIx xid]).state = 1 ∧
      t.ertEnt e = { s.ertEnt e with readers := BitVec.ofNat 16 ((s.ertEnt e).readers.toNat - 1) } ∧ SameOthers s t))

/-- MREQ, MOON_INGRESS_RETRY and TRANSLATION_WALK (R46, R48-R54, R60): what a moon does with a request that arrives, and how an
address is translated. That a table outside the region is a BAD_PTE is the model's choice (log 30). -/
def Obligations.MoonsTranslate : Prop :=
  ((∀ p s, Plain p 0x10 → AtMoon s →
    let m := thisMoon s
    let r := MReq.of m.nextId p
    (¬ (Accepts s ∧ m.ingress = []) → Runs (.mreq p) s fun t =>
      (thisMoon t) = { m with ingress := m.ingress ++ [p] } ∧ t.tiles = s.tiles ∧ t.hbm = s.hbm) ∧
    (∀ q, Accepts s → m.ingress = [] → r.refusal p = some q → Runs (.mreq p) s fun t =>
      MoonFaulted s t r q ∧ (thisMoon t).queue = m.queue ∧ t.tiles = s.tiles ∧ t.hbm = s.hbm) ∧
    (Accepts s → m.ingress = [] → r.refusal p = none → r.phys = true → (∀ q ∈ m.queue, q.id < m.nextId ∧ q.waits = false) →
      (∀ d ∈ s.performDues s.moonKey, d.1 < m.nextId) → Runs (.mreq p) s fun t =>
        (thisMoon t).queue = m.queue ++ [{ r with pa := some r.addr }] ∧ (thisMoon t).nextId = m.nextId + 1 ∧
        (∃ e ∈ t.agenda, e.ev = r.event s.moonKey ∧ e.unit = s.cur ∧ s.now < e.due) ∧ t.tiles = s.tiles ∧ t.hbm = s.hbm) ∧
    (∀ x, Accepts s → m.ingress = [] → r.refusal p = none → r.phys = false → (m.asidEnt r.asid).getLsbD 0 = true →
      m.hit r.asid r.addr = some x → x.denies r = none → (∀ q ∈ m.queue, q.id < m.nextId ∧ q.waits = false) →
      (∀ d ∈ s.performDues s.moonKey, d.1 < m.nextId) → Runs (.mreq p) s fun t =>
        (thisMoon t).queue = m.queue ++ [{ r with pa := some (x.phys r.addr) }] ∧
        (∃ e ∈ t.agenda, e.ev = r.event s.moonKey ∧ e.unit = s.cur ∧ s.now < e.due) ∧ t.tiles = s.tiles ∧ t.hbm = s.hbm) ∧
    (∀ x q, Accepts s → m.ingress = [] → r.refusal p = none → r.phys = false → (m.asidEnt r.asid).getLsbD 0 = true →
      m.hit r.asid r.addr = some x → x.denies r = some q → (∀ y ∈ m.queue, y.id < m.nextId) → Runs (.mreq p) s fun t =>
        MoonFaulted s t r q ∧ t.tiles = s.tiles ∧ t.hbm = s.hbm) ∧
    (Accepts s → m.ingress = [] → r.refusal p = none → r.phys = false → (m.asidEnt r.asid).getLsbD 0 = false →
      (∀ y ∈ m.queue, y.id < m.nextId) → Runs (.mreq p) s fun t =>
        MoonFaulted s t r 0x01 ∧ t.tiles = s.tiles ∧ t.hbm = s.hbm) ∧
    (Accepts s → m.ingress = [] → r.refusal p = none → r.phys = false → (m.asidEnt r.asid).getLsbD 0 = true →
      m.hit r.asid r.addr = none → (∀ q ∈ m.queue, q.id < m.nextId ∧ q.waits = false ∧ q.walking = false) →
      Runs (.mreq p) s fun t =>
        (thisMoon t).queue = m.queue ++ [{ r with walking := true }] ∧
        (∃ e ∈ t.agenda, e.ev = .translationWalk (Fin.ofNat 64 s.moonKey) m.nextId ∧ e.unit = s.cur ∧ s.now < e.due) ∧
        t.tiles = s.tiles ∧ t.hbm = s.hbm)) ∧
  (∀ p q r s, AtMoon s → (thisMoon s).ingress = q :: r →
    (¬ Accepts s → Runs (.moonIngressRetry p) s fun t =>
      t.moons = s.moons ∧ ∃ e ∈ t.agenda, e.ev = .moonIngressRetry p ∧ e.unit = s.cur ∧ s.now < e.due) ∧
    (Accepts s → r = [] → exec (.moonIngressRetry p) s = .next
      (((s.modMoon s.moonKey fun m => { m with ingress := [] }).modMoon s.moonKey fun m => { m with tookAt := some s.now }).acceptReq
        q)))) ∧
  ((∀ (s : State) (mk : Nat) a va,
    let ae := ((s.moon mk).asidEnt a).toNat
    let ent (base i : Nat) : Nat := s.hbm.readNat (mk * 0x180000000 + base + 8 * i) 8
    let readable (base i : Nat) : Prop := base + 8 * i + 8 ≤ 0x180000000 ∧
      ∀ b ∈ s.hbmBad, ¬ (mk * 0x180000000 + base + 8 * i ≤ b ∧ b < mk * 0x180000000 + base + 8 * i + 8)
    let good (base i : Nat) : Prop := readable base i ∧ ent base i % 2 = 1
    let pa (e : Nat) : Nat := e / 2 ^ 8 % 2 ^ 32 * 256
    let t1 := ae / 2 ^ 15 % 2 ^ 25 * 32768
    let i1 := va / 2 ^ 30
    let e1 := ent t1 i1
    let i2 := va / 2 ^ 21 % 512
    let e2 := ent (pa e1) i2
    let i3 := va / 2 ^ 16 % 32
    (ae % 2 = 0 → s.walk2 mk a va = .error 0x01) ∧
    (ae % 2 = 1 → readable t1 i1 → e1 % 2 = 0 → s.walk2 mk a va = .error 0x02) ∧
    (ae % 2 = 1 → good t1 i1 → ptrOk e1 4096 true = false → s.walk2 mk a va = .error 0x05) ∧
    (ae % 2 = 1 → good t1 i1 → ptrOk e1 4096 true = true → readable (pa e1) i2 → e2 % 2 = 0 → s.walk2 mk a va = .error 0x02) ∧
    (ae % 2 = 1 → good t1 i1 → ptrOk e1 4096 true = true → good (pa e1) i2 → e2 / 2 % 2 = 1 →
      leafOk e2 (2 ^ 21) false = true → s.walk2 mk a va =
        .ok (.inl ⟨a, va / 2 ^ 21 * 2 ^ 21, true, pa e2, (e2 / 4 % 2 == 1), (e2 / 8 % 2 == 1)⟩)) ∧
    (ae % 2 = 1 → good t1 i1 → ptrOk e1 4096 true = true → good (pa e1) i2 → e2 / 2 % 2 = 0 →
      ptrOk e2 256 false = true → s.walk2 mk a va = .ok (.inr (pa e2))) ∧
    (∀ base, readable base i3 → ent base i3 % 2 = 0 → s.leaf3 mk base a va = .error 0x02) ∧
    (∀ base, good base i3 → leafOk (ent base i3) (2 ^ 16) true = true → s.leaf3 mk base a va =
      .ok ⟨a, va / 2 ^ 16 * 2 ^ 16, false, pa (ent base i3), (ent base i3 / 4 % 2 == 1), (ent base i3 / 8 % 2 == 1)⟩)) ∧
  (∀ (moon : Fin 64) r s,
    let m := s.moon moon.val
    let there : State := { s with cur := rankKeyOfMoon moon.val }
    let found (x : TlbEnt) (t : State) : Prop := (t.moon moon.val).tlb.getLast? = some x ∧
      { r with pa := some (x.phys r.addr), walking := false } ∈ (t.moon moon.val).queue ∧ t.hbm = s.hbm ∧ t.tiles = s.tiles
    let faults (q : Nat) (t : State) : Prop := (∀ y ∈ (t.moon moon.val).queue, y.id ≠ r.id) ∧ MoonFaulted there t r q ∧
      t.hbm = s.hbm ∧ t.tiles = s.tiles
    IsFirst m.queue (fun q => q.id = r.id ∧ (q.walking = true ∨ q.own ≠ none)) r → m.stopped = false →
    ¬ ReportWaits there → r.pa = none → r.phys = false → (∀ q ∈ m.queue, q.id = r.id → q = r) →
    (∀ base, r.own = some base →
      (∀ x, s.leaf3 moon.val base r.asid r.addr = .ok x → x.denies r = none → Runs (.translationWalk moon r.id) s (found x)) ∧
      (∀ q, s.leaf3 moon.val base r.asid r.addr = .error q → Runs (.translationWalk moon r.id) s (faults q))) ∧
    (r.own = none → (∀ q ∈ m.queue, q.pa = none → q.own = none → q.sameWalk r = true → q = r) →
      (∀ q, s.walk2 moon.val r.asid r.addr = .error q → Runs (.translationWalk moon r.id) s (faults q)) ∧
      (∀ x, s.walk2 moon.val r.asid r.addr = .ok (.inl x) → x.denies r = none → Runs (.translationWalk moon r.id) s (found x)) ∧
      (∀ base x, s.walk2 moon.val r.asid r.addr = .ok (.inr base) → s.leaf3 moon.val base r.asid r.addr = .ok x →
        x.denies r = none → Runs (.translationWalk moon r.id) s (found x))) ∧
    (∀ base q, r.own = none → s.walk2 moon.val r.asid r.addr = .ok (.inr base) → q ∈ m.queue → q.pa = none → q.own = none →
      q.sameWalk r = true → q.addr / 65536 ≠ r.addr / 65536 → (∀ y ∈ m.queue, y.id = q.id → y = q) →
      Runs (.translationWalk moon r.id) s fun t =>
        { q with own := some base } ∈ (t.moon moon.val).queue ∧
        ∃ e ∈ t.agenda, e.ev = .translationWalk moon q.id ∧ s.now < e.due)))

/-- MOON_GET to MOON_CAS and the control of a moon (R44, R45, R47, R52, R57-R60): what each request reads and leaves, its answer, and the
invalidation, trace, stop and release. -/
def Obligations.MoonsPerform : Prop :=
  (∀ (m : Fin 64) r pa s, Performs s m r pa →
    let at_ := m.val * 0x180000000 + pa
    let u : State := { s with cur := rankKeyOfMoon m.val }
    (r.op = 0 → Runs (.moonGet m r.id) s fun t =>
      Performed s t m r ∧ t.hbm = s.hbm ∧ OnItsWay t (moonReply u r 1 0 0 (s.hbm.read at_ r.len))) ∧
    (r.op = 1 → r.data.length = r.len → Runs (.moonPut m r.id) s fun t =>
      Performed s t m r ∧ OnItsWay t (moonReply u r 1 0 0 []) ∧
      (Mem.wf s.hbm = true → ∀ a, t.hbm.get a = if at_ ≤ a ∧ a < at_ + r.len then r.data.getD (a - at_) 0 else s.hbm.get a)) ∧
    (∀ i c, atomStep i = some (m, r.id, c) → r.op.toNat = c ∨ r.op.toNat = c + 1 →
      r.len = (if r.op.toNat = c then 4 else 8) → Runs i s fun t =>
        let n := 8 * r.len
        let old := s.hbm.readNat at_ r.len
        Performed s t m r ∧ OnItsWay t (moonReply u r 1 0 old []) ∧
        (Mem.wf s.hbm = true →
          t.hbm.readNat at_ r.len = atomResult c n old (r.a.toNat % 2 ^ n) (r.b.toNat % 2 ^ n) ∧
          ∀ a, ¬ (at_ ≤ a ∧ a < at_ + r.len) → t.hbm.get a = s.hbm.get a))) ∧
  ((∀ (m : Fin 64) sc s, Runs (.tlbinv m sc) s fun t =>
    (∀ x, x ∈ (t.moon m.val).tlb ↔ x ∈ (s.moon m.val).tlb ∧ ¬ (match sc with
      | .all => True
      | .asid a => a = x.asid
      | .page a va => a = x.asid ∧ va / (if x.big then 2 ^ 21 else 2 ^ 16) = x.va / (if x.big then 2 ^ 21 else 2 ^ 16))) ∧
    (t.moon m.val).queue = (s.moon m.val).queue ∧ t.hbm = s.hbm ∧
    ((∀ r ∈ (s.moon m.val).queue, r.phys = true ∨ r.pa = none) → ⟨s.now, rankKeyOfMoon m.val, .tlbinvComplete⟩ ∈ t.agenda)) ∧
  (∀ s, exec .tlbinvComplete s = .next { s with mgmt := { s.mgmt with replies := s.mgmt.replies ++ [.ok] } }) ∧
  (∀ (m : Fin 64) (v : W32) s, Runs (.mtrctlWrite m v) s fun t =>
    let o := (s.moon m.val).mtrctl
    let n := (t.moon m.val).mtrctl
    let starts := v.getLsbD 0 = true ∧ o.getLsbD 0 = false
    t.moon m.val = { s.moon m.val with mtrctl := n } ∧ n.getLsbD 0 = v.getLsbD 0 ∧ n.getLsbD 1 = v.getLsbD 1 ∧
    n.toNat / 4 % 4 = (if v.toNat / 4 % 4 = 3 then o.toNat / 4 % 4 else v.toNat / 4 % 4) ∧
    n.toNat / 2 ^ 16 % 2 ^ 12 = (if starts then 0 else o.toNat / 2 ^ 16 % 2 ^ 12) ∧
    n.getLsbD 28 = (if starts then false else o.getLsbD 28) ∧
    n.getLsbD 29 = (if v.getLsbD 29 then false else o.getLsbD 29) ∧ n.toNat / 16 % 2 ^ 12 = 0 ∧ n.toNat / 2 ^ 30 = 0) ∧
  (∀ (m : Fin 64) i s, Runs (.traceEntryRead m i) s fun t =>
    let e := (s.moon m.val).ringEntry i.val
    t = { s with mgmt := { s.mgmt with
      readback := s.mgmt.readback ++ [BitVec.ofNat 64 e.toNat, BitVec.ofNat 64 (e.toNat / 2 ^ 64)] } }) ∧
  (∀ (m : Fin 64) c s, Runs (.moonStop m c) s fun t =>
    t.moon m.val = { s.moon m.val with stopped := true, restarted := false } ∧ t.tiles = s.tiles ∧ t.hbm = s.hbm ∧
    ∃ q, Reported t (dieOf (rankKeyOfMoon m.val)) q ∧ q.code = 0x27 ∧ q.rank = s.rankOf (rankKeyOfMoon m.val) ∧
      q.tval = BitVec.ofNat 64 c.val) ∧
  (∀ (m : Fin 64) s, (s.moon m.val).stopped = true → (s.moon m.val).restarted = true → Runs (.moonRelease m) s fun t =>
    (t.moon m.val).stopped = false ∧ (t.moon m.val).queue = [] ∧ t.hbm = s.hbm ∧ t.tiles = s.tiles ∧
    ∀ r ∈ (s.moon m.val).queue, OnItsWay t (moonReply { s with cur := rankKeyOfMoon m.val } r 2 0x08 0 [])) ∧
  (∀ (m : Fin 64) s, (s.moon m.val).stopped = false ∨ (s.moon m.val).restarted = false →
    exec (.moonRelease m) s = .next s))

/-! ## Channels, reductions, groups -/

/-- R109, R110, R221: `chld` loads, invalidates or refuses an entry. -/
def Obligations.ChannelsLoad : Prop :=
  ∀ a k d sa s j, s.t.isSpec = false → LowestFree s.t j → CanTake s a d →
    let addr : Nat := (s.rdS sa).toNat % 2 ^ 20
    let x := s.t.spmNat false addr 16
    let old := s.t.msg.chan[k]
    let c : Chan := { Chan.of x with
      w := windowStart (x / 2 ^ 72 % 2 ^ 32) (s.cyc s.t).toNat
      lat := 2 + 2 * s.legHops s.cur (s.cur / 1024 * 1024 + x / 2 ^ 8 % 2 ^ 10) +
        (flitsOf (16 * (x / 2 ^ 28 % 2 ^ 5 + 1)) - 1) }
    let busy : Prop := old.v = true ∧ (if old.recvEnd then old.buf ≠ [] else old.credits < old.depth)
    let o : EngOp := ⟨a, d, .chld, false, none⟩
    let i : Instr := .chld a k d sa
    (addr % 16 ≠ 0 → Traps i s .align (BitVec.ofNat 64 addr)) ∧
    (addr % 16 = 0 → s.t.badWord addr 16 = none →
      (busy → Runs i s fun t => EngineIssued s t o j ∧ t.t.cpl[j].state = 2 ∧ t.t.cpl[j].src = 0x84 ∧ t.t.msg = s.t.msg) ∧
      (¬ busy → x % 2 = 0 → chanRsv x = false → Runs i s fun t => EngineIssued s t o j ∧ t.t.cpl[j].state = 1 ∧
        OnlyChan s t k (if old.v then Chan.invalid else old)) ∧
      (¬ busy → x % 2 = 0 → chanRsv x = true → Runs i s fun t => EngineIssued s t o j ∧ t.t.cpl[j].state = 2 ∧
        t.t.cpl[j].src = 0x84 ∧ t.t.msg = s.t.msg) ∧
      (¬ busy → x % 2 = 1 → s.chanOk k c (chanRsv x) = true → Runs i s fun t =>
        EngineIssued s t o j ∧ t.t.cpl[j].state = 1 ∧ OnlyChan s t k c) ∧
      (¬ busy → x % 2 = 1 → s.chanOk k c (chanRsv x) = false → Runs i s fun t =>
        EngineIssued s t o j ∧ t.t.cpl[j].state = 2 ∧ t.t.cpl[j].src = 0x84 ∧ OnlyChan s t k Chan.invalid)) ∧
    (addr % 16 = 0 → s.t.badWord addr 16 ≠ none → Runs i s fun t =>
      EngineIssued s t o j ∧ t.t.cpl[j].state = 2 ∧ t.t.cpl[j].src = 0x85 ∧ t.t.msg = s.t.msg)

/-- R111-R115, R222, R223: `sendc`, `recvc` and `recvac`, the elements and credits on their way, and slot violations. That a send without
a credit waits, and traps only where a window that it waited in has ended, is the model's reading (log 26). -/
def Obligations.ChannelsCarry : Prop :=
  (∀ a k d sa s, s.t.isSpec = false →
    let c := s.t.msg.chan[k]
    let addr : Nat := (s.rdS sa).toNat % 2 ^ 20
    let ty := (Ety.ofCode c.etype.toNat).getD .raw
    let n := ty.width / 8
    (c.v = false ∨ c.recvEnd = true → Traps (.sendc a k sa) s .engineFault (BitVec.ofNat 64 (k.val + 2 * 2 ^ 16))) ∧
    (c.v = false ∨ c.recvEnd = false →
      Traps (.recvc a k d sa) s .engineFault (BitVec.ofNat 64 (k.val + 2 * 2 ^ 16)) ∧
      Traps (.recvac a k d sa) s .engineFault (BitVec.ofNat 64 (k.val + 2 * 2 ^ 16))) ∧
    (Accessible s.t addr c.size 16 →
      (c.v = true → c.recvEnd = false → s.t.badWord addr c.size = none →
        (0 < c.credits → ¬ windowOpen s c → Traps (.sendc a k sa) s .slotViolation (BitVec.ofNat 64 k.val)) ∧
        (c.credits = 0 → ¬ windowEnds s c → Waits (.sendc a k sa) s 6) ∧
        (c.credits = 0 → windowEnds s c → Traps (.sendc a k sa) s .slotViolation (BitVec.ofNat 64 k.val)) ∧
        (0 < c.credits → windowOpen s c → Runs (.sendc a k sa) s fun t =>
          OnlyChan s t k { c with credits := c.credits - 1 } ∧
          ⟨s.now + c.lat, keyOf (s.rankOf (peerOf s c)), .chnelem (toPeer s c 0x28 3 (s.t.spmRead false addr c.size))⟩ ∈ t.agenda ∧
          t.t.regs = s.t.regs ∧ SameBytes s.t t.t ∧ SameModule s t ∧ SameOthers s t)) ∧
      (c.v = true → c.recvEnd = true → c.buf = [] → Waits (.recvc a k d sa) s 0 ∧ Waits (.recvac a k d sa) s 0) ∧
      (∀ e r, c.v = true → c.recvEnd = true → c.buf = e :: r → CanTake s a d →
        let credit : Timed := ⟨s.now + c.lat, keyOf (s.rankOf (peerOf s c)), .chncredit (toPeer s c 0x29 2 [])⟩
        (Runs (.recvc a k d sa) s fun t => Copied s t addr e ∧ OnlyChan s t k { c with buf := r } ∧ credit ∈ t.agenda ∧
          Gives s t a d 1 ∧ SameOthers s t ∧ SameModule s t) ∧
        ((ty = .f32 ∨ ty = .bf16 ∨ ty.isI = true) → s.t.badWord addr c.size = none → Runs (.recvac a k d sa) s fun t =>
          (tileMemWf s.t = true → (∀ j < c.size / n, t.t.spmNat false (addr + n * j) n =
            let x := s.t.spmNat false (addr + n * j) n
            let y := ofBytes ((e.drop (n * j)).take n)
            arith ty false (exactSum [toR ty x, toR ty y]) (laneInt ty x + laneInt ty y)) ∧
          (∀ b, ¬ (addr ≤ b ∧ b < addr + c.size) → t.t.spmByte false b = s.t.spmByte false b)) ∧
          OnlyChan s t k { c with buf := r } ∧ credit ∈ t.agenda ∧ Gives s t a d 1 ∧ SameOthers s t ∧ SameModule s t) ∧
        (¬ (ty = .f32 ∨ ty = .bf16 ∨ ty.isI = true) → Runs (.recvac a k d sa) s fun t =>
          SameBytes s.t t.t ∧ OnlyChan s t k { c with buf := r } ∧ credit ∈ t.agenda ∧ Gives s t a d 2 ∧ SameOthers s t)))) ∧
  ((∀ p s, Plain p 0x28 → let k : Fin 64 := Fin.ofNat 64 p.aux.toNat
    let c := s.t.msg.chan[k]
    c.v = true → c.recvEnd = true → c.buf.length < c.depth → Runs (.chnelem p) s fun t =>
      OnlyChan s t k { c with buf := c.buf ++ [p.payload] } ∧ OnlyTile s t ∧ t.t.regs = s.t.regs ∧ SameBytes s.t t.t) ∧
  (∀ p s, Plain p 0x29 → let k : Fin 64 := Fin.ofNat 64 p.aux.toNat
    let c := s.t.msg.chan[k]
    c.v = true → c.recvEnd = false → Runs (.chncredit p) s fun t =>
      OnlyChan s t k { c with credits := min c.depth (c.credits + 1) } ∧ OnlyTile s t ∧ t.t.regs = s.t.regs ∧
        SameBytes s.t t.t) ∧
  (∀ k s b r, let c := s.t.msg.chan[k]
    c.buf = b :: r → Runs (.channelInject k) s fun t =>
      OnlyChan s t k { c with buf := r } ∧
      ⟨s.now + c.lat, keyOf (s.rankOf (peerOf s c)), .chnelem (toPeer s c 0x28 3 b)⟩ ∈ t.agenda ∧ SameModule s t ∧
      SameOthers s t) ∧
  (∀ k s, let c := s.t.msg.chan[k]
    s.t.thr.st = .running → c.v = true → c.recvEnd = false → c.credits = 0 → windowEnds s c →
      exec (.slotViolation k) s = .next (s.takeTrap s.cur .slotViolation (BitVec.ofNat 64 k.val))))

/-- R80, R81, R224, R225, R311: `sendr`, `recvr` and `gbar` contribute to a key and wait for its result, and how a result arrives. -/
def Obligations.ReductionsContribute : Prop :=
  ((∀ a op wide gm uli d sb si o s k, let i : Instr := .sendr a op wide gm uli d sb si
    engOp s i = some o → s.t.isSpec = false → LowestFree s.t k → CanTake s a d → o.reason = none → Runs i s fun t =>
      t.t.cpl[k].state = 0 ∧ t.t.cpl[k].op = .sendr ∧
      OnItsWay t (contribPacket (s.rankOf s.cur) (s.rankOf (s.cur / 1024 * 1024 + 1021))
        ⟨BitVec.ofNat 20 (s.rootOf (groupOf s gm)), groupOf s gm, (s.rdS si).setWidth 16, false⟩ op wide (nextXid s.t k) 0
        (s.t.spmRead false (bufAddr (s.rdS sb)) (bufLen (s.rdS sb)))) ∧ SameBytes s.t t.t) ∧
  (∀ a gm uli d si o s k, let i : Instr := .gbar a gm uli d si
    engOp s i = some o → s.t.isSpec = false → LowestFree s.t k → CanTake s a d → o.reason = none → Runs i s fun t =>
      t.t.cpl[k].state = 0 ∧ t.t.cpl[k].op = .gbar ∧ t.t.cpl[k].x.ident = (s.rdS si).setWidth 16 ∧
      OnItsWay t (contribPacket (s.rankOf s.cur) (s.rankOf (s.cur / 1024 * 1024 + 1021))
        ⟨BitVec.ofNat 20 (s.rootOf (groupOf s gm)), groupOf s gm, (s.rdS si).setWidth 16, false⟩ .and false (nextXid s.t k) 0
        (bytesOf 0xFFFFFFFF 4)) ∧ SameBytes s.t t.t) ∧
  (∀ a gm uli d sb si o s k, let i : Instr := .recvr a gm uli d sb si
    let mine (h : HeldEnv) : Prop := h.kind = .result ∧ ∃ q, h.key = some q ∧ q.group = groupOf s gm ∧
      q.ident = (s.rdS si).setWidth 16
    engOp s i = some o → s.t.isSpec = false → LowestFree s.t k → CanTake s a d → o.reason = none →
    ((∀ h ∈ s.t.msg.hamper, ¬ mine h) → Runs i s fun t =>
      t.t.cpl[k].state = 0 ∧ t.t.cpl[k].op = .recvr ∧ t.t.msg = s.t.msg ∧ SameBytes s.t t.t) ∧
    (∀ h, IsFirst s.t.msg.hamper mine h →
      let bs := s.t.spmRead false (s.t.csr.hampbase.toNat + 64 * h.gran) h.bytes
      let cap := bufLen (s.rdS sb)
      (s.t.badWord (s.t.csr.hampbase.toNat + 64 * h.gran) h.bytes false ≠ none → Runs i s fun t =>
        t.t.msg = { s.t.msg with hamper := s.t.msg.hamper.erase h } ∧ t.t.cpl[k].state = 2 ∧ t.t.cpl[k].src = 0x85 ∧
        SameBytes s.t t.t) ∧
      (s.t.badWord (s.t.csr.hampbase.toNat + 64 * h.gran) h.bytes false = none → Runs i s fun t =>
        t.t.msg = { s.t.msg with hamper := s.t.msg.hamper.erase h } ∧
        t.t.cpl[k].state = (if cap < h.bytes then 3 else BitVec.ofNat 4 (ofBytes (bs.take 1))) ∧
        t.t.cpl[k].length = BitVec.ofNat 32 h.bytes ∧ Copied s t (bufAddr (s.rdS sb)) (bs.take (min cap h.bytes)))))) ∧
  ((∀ p s, Plain p 0x19 → s.isLocal p.src = true → s.t.thr.st ≠ .none → s.t.thr.st ≠ .halted →
    let id : W16 := BitVec.ofNat 16 (resultOf p / 2 ^ 16)
    let waits (op : SlotOp) (k : Fin 64) : Prop := s.t.cpl[k].used = true ∧ s.t.cpl[k].state = 0 ∧ s.t.cpl[k].op = op ∧
      s.t.cpl[k].x.group = p.group ∧ s.t.cpl[k].x.ident = id
    (¬ EngineActs s.t p.group → Runs (.rresult p) s fun t =>
      t.tiles = s.tiles ∧ ⟨s.now + 1024, s.cur, .rresultResend p⟩ ∈ t.agenda) ∧
    (∀ k, EngineActs s.t p.group → waits .gbar k → (∀ j < k, ¬ waits .gbar j) → s.t.cpl[k].drop = false →
      Runs (.rresult p) s fun t =>
        t.t.cpl[k].state = (if resultOf p % 16 = 1 then 1 else 6) ∧
        t.t.cpl[k].src = (if resultOf p % 16 = 1 then 0 else BitVec.ofNat 32 (resultOf p / 2 ^ 64)) ∧
        (∀ j, j ≠ k → t.t.cpl[j] = s.t.cpl[j]) ∧ SameBytes s.t t.t ∧ SameOthers s t) ∧
    (∀ k, EngineActs s.t p.group → (∀ j, ¬ waits .gbar j) → waits .recvr k → (∀ j < k, ¬ waits .recvr j) →
      s.t.cpl[k].drop = false → Runs (.rresult p) s fun t =>
        let c := s.t.cpl[k]
        t.t.cpl[k].state = (if c.x.len < p.payload.length then 3 else BitVec.ofNat 4 (ofBytes (p.payload.take 1))) ∧
        t.t.cpl[k].length = BitVec.ofNat 32 p.payload.length ∧
        Copied s t c.x.buf (p.payload.take (min c.x.len p.payload.length)) ∧ SameOthers s t) ∧
    (∀ g, EngineActs s.t p.group → (∀ j, ¬ waits .gbar j) → (∀ j, ¬ waits .recvr j) →
      (∃ m : Fin 8, notJoined s m = false ∧ groupOf s m = p.group) → s.t.msg.hamper.length < 256 →
      s.t.findGran ((p.payload.length + 63) / 64) = some g → Runs (.rresult p) s fun t =>
        (∃ h, t.t.msg = { s.t.msg with hamper := s.t.msg.hamper ++ [h] } ∧ h.kind = .result ∧
          h.key = some ⟨BitVec.ofNat 20 (pkgOf p.src), p.group, id, false⟩ ∧ h.gran = g ∧ h.bytes = p.payload.length) ∧
        Copied s t (s.t.csr.hampbase.toNat + 64 * g) p.payload ∧ SameOthers s t)) ∧
  (∀ p s, s.isLocal p.src = true → pktEvent p ≠ none → Runs (.rresultResend p) s fun t => OnItsWay t p ∧ t.tiles = s.tiles))

/-- RCONTRIB and BRPRED (R77-R80, R224): what a combining point does with an input. Both complete on every well-formed packet of their kind. -/
def Obligations.ContributionsCombine : Prop :=
  (∀ pt p s, Plain p 0x1A → Runs (.brpred pt p) s (Combined s pt p)) ∧
  (∀ pt p s, Plain p 0x18 → pt = .switch ∨ NoSendr s p → Runs (.rcontrib pt p) s (Combined s pt p)) ∧
  (∀ d p s c, Plain p 0x18 → keyOf p.src % 1024 ≠ 1021 → (∀ v ∈ s.sched.saves, v.rank ≠ p.src) →
    InProgress (s.tile (keyOf p.src)) p.xid c → c.op = .sendr → c.x.group = p.group →
    Runs (.rcontrib (.die d) p) s fun t =>
      t.tile (keyOf p.src) = { s.tile (keyOf p.src) with
        cpl := (s.tile (keyOf p.src)).cpl.set (slotIx p.xid) (ended c s.now 1 c.length 0) } ∧
      ∀ k, k ≠ keyOf p.src → t.tile k = s.tile k)

/-- R78, R80, R82: the timers of reduction slots, the late list, the slots that wait, and the registers of the switch die. -/
def Obligations.ReductionTimers : Prop :=
  (∀ (d : Fin 4) key g x (s : State), s.redSlot (.die d) key = some x → s.groupOf key = some g →
    (s.now < x.due → exec (.dieCombineTimeout d key) s = .next s) ∧
    (x.due ≤ s.now → Runs (.dieCombineTimeout d key) s fun t =>
      t.redSlot (.die d) key = none ∧ (.die d, key) ∈ t.red.passed ∧ t.red.late = s.red.late ∧ SameTiles s t ∧
      OnItsWay t (contribPacket (s.rankOf (d.val * 1024 + 1021)) (s.rankOf 1022) key x.op x.wide 0 (s.missingOf g x)
        (x.folded.getD [])))) ∧
  (∀ key g x (s : State), s.redSlot .switch key = some x → s.groupOf key = some g → s.isFrozen 2 x.ix = false →
    x.due ≤ s.now → s.red.late.length < 4096 → key.branch = false →
    (g.root ≠ s.mgmt.pkg.toNat → Runs (.memberSwitchTimeout key) s fun t =>
      t.redSlot .switch key = none ∧ (.switch, key) ∈ t.red.passed ∧ SameTiles s t ∧
      t.red.late = s.red.late ++ [(key, s.now + 64 * s.red.rsto.toNat)] ∧
      ⟨s.now + 64 * s.red.rsto.toNat, 1022, .keylistExpire key⟩ ∈ t.agenda ∧
      OnItsWay t (contribPacket (s.rankOf 1022) (BitVec.ofNat 32 (g.root * 4096 + 1022)) key x.op x.wide 0 (s.missingOf g x)
        (x.folded.getD []))) ∧
    (g.root = s.mgmt.pkg.toNat → Runs (.slotTimeout key) s fun t =>
      t.redSlot .switch key = none ∧ SameTiles s t ∧
      t.red.late = (if s.missingOf g x = 0 then s.red.late else s.red.late ++ [(key, s.now + 64 * s.red.rsto.toNat)]) ∧
      ∀ r ∈ g.live, ∃ q, OnItsWay t q ∧ q.dst = r ∧ q.kind = 0x19 ∧ q.group = key.group ∧
        resultOf q % 16 = (if s.missingOf g x = 0 then 1 else 6) ∧ resultOf q / 2 ^ 64 = (s.missingOf g x).toNat ∧
        q.payload.drop 16 = x.folded.getD (redEmpty x.op x.wide x.len))) ∧
  (∀ key (s : State), ((∃ w ∈ s.red.waiting, (Contrib.of w.2).key = key) → Runs (.slotWait key) s fun t =>
      ⟨s.now + 65536, 1022, .slotWait key⟩ ∈ t.agenda ∧ SameTiles s t ∧
      ∃ r, Reported t 0 r ∧ r.code = 0x2B ∧ r.tval = BitVec.ofNat 64 (key.group.toNat + 2 ^ 16 * key.ident.toNat)) ∧
    ((∀ w ∈ s.red.waiting, (Contrib.of w.2).key ≠ key) → exec (.slotWait key) s = .next s)) ∧
  (∀ key (s : State), exec (.keylistExpire key) s = .next { s with red := { s.red with
    late := s.red.late.filter fun l => !(l.1 == key && decide (l.2 ≤ s.now)) } }) ∧
  (∀ (v : W32) (s : State), exec (.rstoWrite v) s = .next { s with red := { s.red with
    rsto := if v = 0 then s.red.rsto else v } }) ∧
  (∀ (s : State), exec .redlateRead s = .next { s with
    red := { s.red with redlate := 0 }
    mgmt := { s.mgmt with readback := s.mgmt.readback ++ [s.red.redlate.setWidth 64] } }) ∧
  (∀ (w : Nat × Packet) rest g n (s : State), s.red.waiting = w :: rest → s.red.freeIx = some n → Contributes s .switch w.2 g →
    s.redSlot .switch (Contrib.of w.2).key = none → (∀ u ∈ rest, (Contrib.of u.2).key ≠ (Contrib.of w.2).key) →
    (∃ e ∈ s.expected g (Contrib.of w.2).key .switch, e.1 ≠ s.placeOf .switch w.2.src) → Runs .slotAllocateWaiting s fun t =>
      t.red.waiting = rest ∧ SameTiles s t ∧ ∃ x ∈ t.red.slots, x.pt = .switch ∧ x.ix = n ∧ x.key = (Contrib.of w.2).key ∧
        x.inputs.map RInput.place = [s.placeOf .switch w.2.src] ∧
        x.due = s.now + if g.root = s.mgmt.pkg.toNat then s.red.rsto.toNat else s.red.rsto.toNat / 2) ∧
  (∀ p (s : State), Plain p 0x18 → s.groupOf (Contrib.of p).key = none → Runs (.rcontrib .switch p) s fun t =>
    t.red.redlate.toNat = min (s.red.redlate.toNat + 1) (2 ^ 32 - 1) ∧ SameTiles s t) ∧
  State.reset.red.rsto = 0x00100000 ∧ State.reset.red.redlate = 0

/-- R144, R308-R310: `join`, the registration of a member, the forming of its group or the end of its wait, and `leave`. That `leave` acts
at issue is the model's reading (log 38). -/
def Obligations.GroupsForm : Prop :=
  (∀ a gm uli d sg o (s : State) k, let i : Instr := .join a gm uli d sg
    engOp s i = some o → s.t.isSpec = false → LowestFree s.t k → CanTake s a d → o.reason = none → Runs i s fun t =>
      EngineIssued s t o k ∧ t.t.cpl[k].state = 0 ∧ t.t.cpl[k].x.word = s.rdS sg ∧ t.t.cpl[k].x.gm = gm ∧
      ⟨s.now + s.toSwitch s.cur, 1022, .groupJoinRegister (s.rankOf s.cur) (s.rdS sg)⟩ ∈ t.agenda ∧ SameBytes s.t t.t) ∧
  (∀ rank word k (s : State), s.isLocal rank = true → (s.tile (keyOf rank)).thr.starting = false → Joining s rank word k →
    (s.tile (keyOf rank)).cpl[k].drop = false → GroupsClean s →
    let i : Instr := .groupJoinRegister rank word
    let c := (s.tile (keyOf rank)).cpl[k]
    let me : Joiner := ⟨rank, (s.tile (keyOf rank)).thr.gang, c.x.gm, some (mkXid k c.seq)⟩
    let home := word.toNat / 2 ^ 16 % 2 ^ 20
    let grp : W16 := word.setWidth 16
    let count := word.toNat / 2 ^ 36 % 2 ^ 20
    let now (t : State) : Slot := (t.tile (keyOf rank)).cpl[k]
    (∀ n, (∀ g ∈ s.red.groups, ¬ (g.grp = grp ∧ g.home = home)) → s.red.freeGroup (home == s.mgmt.pkg.toNat) = some n → count = 1 → Runs i s fun t =>
      (now t).state = 1 ∧ (t.tile (keyOf rank)).csr.gm[c.x.gm] = memberWord s (keyOf rank) grp [rank] ∧
      (t.tile (keyOf rank)).csr.cbseq[c.x.gm] = 0 ∧ (∃ g ∈ t.red.groups, g.formed = true ∧ g.grp = grp ∧ g.home = home ∧ g.members = [rank] ∧ g.left = [])) ∧
    (∀ n, (∀ g ∈ s.red.groups, ¬ (g.grp = grp ∧ g.home = home)) → s.red.freeGroup (home == s.mgmt.pkg.toNat) = some n → count ≠ 1 → Runs i s fun t =>
      t.red.groups = s.red.groups ++ [⟨n, grp, home, count, [me], [], [], false, s.now + s.red.rsto.toNat⟩] ∧
      ⟨s.now + s.red.rsto.toNat, 1022, .joinFormTimeout (BitVec.ofNat 20 home) grp⟩ ∈ t.agenda ∧ t.tiles = s.tiles) ∧
    ((∀ g ∈ s.red.groups, ¬ (g.grp = grp ∧ g.home = home)) → s.red.freeGroup (home == s.mgmt.pkg.toNat) = none → Runs i s fun t =>
      (now t).state = 5 ∧ t.red = s.red) ∧
    (∀ g, IsFirst s.red.groups (fun g => g.grp = grp ∧ g.home = home) g → g.formed = true ∨ g.count ≠ count → Runs i s fun t =>
      (now t).state = 2 ∧ (now t).src = 0x84 ∧ t.red = s.red) ∧
    (∀ g, IsFirst s.red.groups (fun g => g.grp = grp ∧ g.home = home) g → g.formed = false → g.count = count →
      g.joiners.length + 1 < count → Runs i s fun t =>
        { g with joiners := g.joiners ++ [me] } ∈ t.red.groups ∧ t.tiles = s.tiles ∧ t.agenda = s.agenda) ∧
    (∀ g, IsFirst s.red.groups (fun g => g.grp = grp ∧ g.home = home) g → g.formed = false → g.count = count →
      g.joiners.length + 1 = count → (∀ q ∈ g.joiners, s.isLocal q.rank = true ∧ ∃ x, q.xid = some x ∧ BusyAt s q.rank q.gang x) →
      Runs i s fun t => ∃ members, members.Perm (me :: g.joiners |>.map Joiner.rank) ∧
        members.Pairwise (fun a b => a.toNat ≤ b.toNat) ∧
        { g with joiners := [], members := members, formed := true } ∈ t.red.groups ∧
        ∀ q ∈ me :: g.joiners, ∀ x, q.xid = some x →
          (t.tile (keyOf q.rank)).cpl[slotIx x].state = 1 ∧
          (t.tile (keyOf q.rank)).csr.gm[q.gm] = memberWord s (keyOf q.rank) grp members)) ∧
  (∀ (home : BitVec 20) grp g (s : State), IsFirst s.red.groups (fun g => g.grp = grp ∧ g.home = home.toNat) g →
    (g.formed = true ∨ s.now < g.due → exec (.joinFormTimeout home grp) s = .next s) ∧
    (g.formed = false → g.due ≤ s.now → (∀ q ∈ g.joiners, s.isLocal q.rank = true ∧ ∃ x, q.xid = some x ∧ BusyAt s q.rank q.gang x) →
      Runs (.joinFormTimeout home grp) s fun t =>
        t.red.groups = s.red.groups.filter (fun x => x.ix != g.ix) ∧
        ∀ q ∈ g.joiners, ∀ x, q.xid = some x → (t.tile (keyOf q.rank)).cpl[slotIx x].state = 6)) ∧
  (∀ a gm uli d (s : State) k, let i : Instr := .leave a gm uli d
    s.t.isSpec = false → LowestFree s.t k → CanTake s a d → GroupsClean s →
    ((s.t.csr.gm[gm]).getLsbD 16 = false → Runs i s fun t =>
      EngineIssued s t ⟨a, d, .leave, uli, none⟩ k ∧ t.t.cpl[k].state = 2 ∧ t.t.cpl[k].src = 0x81 ∧ t.red = s.red) ∧
    ((s.t.csr.gm[gm]).getLsbD 16 = true → Runs i s fun t =>
      t.t.cpl[k].state = 1 ∧ t.t.cpl[k].op = .leave ∧ t.t.csr = { s.t.csr with gm := s.t.csr.gm.set gm 0 } ∧
      SameBytes s.t t.t ∧
      ∀ g, IsFirst s.red.groups (fun g => g.grp = groupOf s gm ∧ g.formed = true ∧ s.rankOf s.cur ∈ g.members ∧
          s.rankOf s.cur ∉ g.left) g →
        (∃ r ∈ g.members, r ∉ g.left ∧ r ≠ s.rankOf s.cur) → { g with left := g.left ++ [s.rankOf s.cur] } ∈ t.red.groups))

/-! ## The matrix engine -/

/-- R129, R234-R239, R246, R249: an op of the matrix engine waits for its pipe and its interlocks, then enters its pipe; or traps. -/
def Obligations.MatrixOpsQueue : Prop :=
  (∀ i a op extra (s : State), matIssue s i = some (a, op, extra) →
    (¬ PipesFree s.t.mat op → Waits i s 0) ∧
    (PipesFree s.t.mat op → s.t.isSpec = false → matChecks s i → Runs i s fun t =>
      t.t = { s.t with
        mat := s.t.mat.setPipe op.pipe (s.t.mat.pipe op.pipe ++ [⟨op, s.t.csr.fmt, a.sba, s.now + 1 + extra, none, 0, false⟩])
        iss := t.t.iss } ∧ t.t.iss.verdict = .issued ∧
      (s.t.mat.pipe op.pipe = [] → ⟨s.now + 1 + extra, s.cur, .matrixPipeOpStart op.pipe⟩ ∈ t.agenda) ∧
      (s.t.mat.pipe op.pipe ≠ [] → t.agenda = s.agenda) ∧ SameModule s t ∧ SameOthers s t)) ∧
  ((∀ i a op extra sa types (s : State), matIssue s i = some (a, op, extra) → recordOp i = some (sa, types) →
    PipesFree s.t.mat op → s.t.isSpec = false →
    let x := (s.rdS sa).toNat
    (x % 16 ≠ 0 → Traps i s .align (s.rdS sa)) ∧
    (x % 16 = 0 → 0x100000 < x + 32 ∨ s.t.hitsHamper x 32 = true → Traps i s .scratchRange (s.rdS sa)) ∧
    (RecordThere s sa → ¬ RecordForm (recordAt s sa) types → Traps i s .engineFault 0x50000) ∧
    (RecordThere s sa → RecordForm (recordAt s sa) types → ∀ e, s.t.spanBad (recordAt s sa) = some e →
      Traps i s .scratchRange (BitVec.ofInt 64 e)) ∧
    (RecordThere s sa → RecordForm (recordAt s sa) types → s.t.spanBad (recordAt s sa) = none →
      ∀ e, (recordAt s sa).alignBad = some e → Traps i s .align (BitVec.ofInt 64 e))) ∧
  (∀ a acc (w : Fin 2) sa (s : State), s.t.isSpec = false →
    PipesFree s.t.mat (.mma acc w (recordAt s sa)) →
    RecordThere s sa → RecordForm (recordAt s sa) [s.t.csr.fmt.toNat % 16] → s.t.spanBad (recordAt s sa) = none →
    (recordAt s sa).alignBad = none →
    (s.t.mat.w[w].integer = true → Traps (.mma a acc w sa) s .engineFault 0x60000) ∧
    (s.t.mat.w[w].integer = false → ∀ gs, Traps (.mmaw a acc w gs sa) s .engineFault 0x60000)) ∧
  (∀ a (w : Fin 2) gs sa (s : State), s.t.isSpec = false → PipesFree s.t.mat (.wld w gs 0) →
    (s.t.csr.fmt.toNat / 16 % 16 = 0xE → s.t.csr.isapin = 3) → (s.rdS sa).toNat % 16 ≠ 0 →
    Traps (.wld a w gs sa) s .align (s.rdS sa)) ∧
  (∀ i a op extra sa (s : State), matIssue s i = some (a, op, extra) → wideOp i = some sa → PipesFree s.t.mat op →
    ((s.rdS sa).toNat % 16 ≠ 0 → Traps i s .align (s.rdS sa)) ∧
    ((s.rdS sa).toNat % 16 = 0 → s.t.outside (s.rdS sa).toNat 80 = true → Traps i s .scratchRange (s.rdS sa))) ∧
  (∀ a sa sb (s : State), PipesFree s.t.mat (.lmerge 0 0) → WideThere s sa → WideThere s sb →
    (s.rdS sa).toNat ≠ (s.rdS sb).toNat → (s.rdS sa).toNat < (s.rdS sb).toNat + 80 →
    (s.rdS sb).toNat < (s.rdS sa).toNat + 80 → Traps (.lmerge a sa sb) s .engineFault 0x70000))

/-- MATRIX_PIPE_OP_START and MATRIX_PIPE_OP_COMPLETE (R234, R239-R251): how long ops run, and what they leave. That operands are read at
completion is the model's reading (log 21). -/
def Obligations.MatrixPipesRun : Prop :=
  (∀ p o rest (s : State), s.t.mat.pipe p = o :: rest → o.done = 0 → o.start = none →
    s.t.thr.preempt = .none → Runs (.matrixPipeOpStart p) s fun t =>
    let beats (r : Shape) (w : Fin 2) : Nat := let g := (r.ext[0] + 31) / 32
      if (r.etype = 3 ∨ r.etype = 4) ∧ s.t.mat.w[w].oneByte = true then (g + 1) / 2 else g
    let runs : Nat := match o.op with
      | .mma _ w r | .mmaw _ w _ r => 6 + r.ext[1] * beats r w + 2
      | .mzero _ => 4
      | .mld _ r | .mst _ r => 4 + r.ext[1] * ((r.ext[0] * r.size + 255) / 256)
      | .wld _ gs _ => 4 + (blockBytes (o.fmt.toNat / 16 % 16) gs + 255) / 256
      | .lclr _ => 2
      | .lmerge _ _ => 7
      | .lrnd _ _ clr _ => if clr then 8 else 7
      | .ladd a _ _ _ | .lmadd a _ _ _ _ => 2 + costOf (s.t.wideAt (o.spec && s.t.isSpec) a) (wideTerms o.op)
    t.t = { s.t with mat := s.t.mat.setPipe p ({ o with start := some s.now } :: rest) } ∧ SameOthers s t ∧
    ∃ e ∈ t.agenda, e.ev = .matrixPipeOpComplete p ∧ e.unit = s.cur ∧ s.now + runs ≤ e.due) ∧
  (∀ p o rest (s : State), s.t.mat.pipe p = o :: rest → o.start ≠ none ∨ s.t.thr.preempt ≠ .none →
    exec (.matrixPipeOpStart p) s = .next s) ∧
  (∀ o rest acc (s : State), PipeHead s .array o rest (.mzero acc) → Runs (.matrixPipeOpComplete .array) s fun t =>
    (∀ i < 4096, accAt t.t acc i = 0) ∧ t.t = { s.t with mat := { s.t.mat with arr := rest, acc := t.t.mat.acc } } ∧
    PipeShorter s t .array rest) ∧
  (∀ o rest acc w r (scales : Option Bool) (s : State), PipeHead s .array o rest (match scales with
      | none => .mma acc w r
      | some gs => .mmaw acc w gs r) → 1 ≤ r.ext[0] → r.ext[0] ≤ 128 → r.ext[1] ≤ 32 →
    Runs (.matrixPipeOpComplete .array) s fun t =>
      (∀ row < r.ext[1], ∀ col < 128, accAt t.t acc (128 * row + col) =
        dotRow s.t (o.fmt.getLsbD 8) w scales r row col (accWas s.t acc (128 * row + col))) ∧
      t.t = { s.t with mat := { s.t.mat with arr := rest, acc := t.t.mat.acc } } ∧ PipeShorter s t .array rest) ∧
  (∀ o rest acc r (s : State), PipeHead s .array o rest (.mld acc r) → r.ext[0] ≤ 128 → r.ext[1] ≤ 32 →
    Runs (.matrixPipeOpComplete .array) s fun t =>
      (∀ row < r.ext[1], ∀ col < r.ext[0], accAt t.t acc (128 * row + col) = BitVec.ofNat 32
        (let v := s.t.spmNat false (r.elem col row).toNat r.size
         if r.etype = 1 then v else v * 2 ^ 16)) ∧
      t.t = { s.t with mat := { s.t.mat with arr := rest, acc := t.t.mat.acc } } ∧ PipeShorter s t .array rest) ∧
  (∀ o rest acc r (s : State), PipeHead s .array o rest (.mst acc r) → 1 ≤ r.ext[0] → r.ext[0] ≤ 128 → r.ext[1] ≤ 32 →
    r.ndm1 = 1 → s.t.spanBad r = none → Runs (.matrixPipeOpComplete .array) s fun t =>
      Moved s t (List.range (r.ext[0] * r.ext[1])) r.size (fun e => r.elem (e % r.ext[0]) (e / r.ext[0]))
        (fun e j => (mstBytes r o.fmt (accWas s.t acc (128 * (e / r.ext[0]) + e % r.ext[0]))).getD j 0) ∧
      t.t.mat = { s.t.mat with arr := rest } ∧ t.t.regs = s.t.regs ∧ t.t.csr = s.t.csr ∧ PipeShorter s t .array rest) ∧
  (∀ o rest w gs base (s : State), PipeHead s .weight o rest (.wld w gs base) → Runs (.matrixPipeOpComplete .weight) s fun t =>
    let wt := o.fmt.toNat / 16 % 16
    let now (i : Nat) : W16 := (t.t.mat.w[w].w.find i).getD 0
    let scale (i : Nat) : W16 := (t.t.mat.w[w].sc.find i).getD 0
    t.t = { s.t with mat := { s.t.mat with wgt := rest, w := t.t.mat.w } } ∧ PipeShorter s t .weight rest ∧
    (∀ v, v ≠ w → t.t.mat.w[v] = s.t.mat.w[v]) ∧ t.t.mat.w[w].integer = decide (¬ (wt = 2 ∨ wt = 3 ∨ wt = 4)) ∧
    t.t.mat.w[w].oneByte = decide (wt ≠ 2) ∧
    (wt = 2 → ∀ i < 16384, now i = BitVec.ofNat 16 (s.t.spmNat false (base + 2 * i) 2)) ∧
    (wt = 3 ∨ wt = 4 → ∀ i < 16384, now i =
      let x := (if wt = 3 then fE4m3 (o.fmt.getLsbD 8) else fE5m2).toReal (s.t.spmNat false (base + i) 1)
      if x.isNan then 0x7FC0 else BitVec.ofNat 16 (roundBf x)) ∧
    (wt = 0xD → (∀ k < 128, ∀ n < 128, now (128 * k + n) = BitVec.ofNat 16 (roundBf (Machine.Num.ofInt
        (BitVec.ofNat 4 (weightGroup s base 16 k n / 2 ^ (4 * (k % 32)))).toInt))) ∧
      ∀ i < 512, scale i = BitVec.ofNat 16 (s.t.spmNat false (base + 8192 + 2 * (if gs then i else i % 128)) 2)) ∧
    (wt = 0xE → (∀ k < 128, ∀ n < 128, now (128 * k + n) = BitVec.ofNat 16 (roundBf (Machine.Num.ofInt
        (BitVec.ofNat 3 (weightGroup s base 12 k n / 2 ^ (3 * (k % 32)))).toInt))) ∧
      ∀ i < 512, scale i = BitVec.ofNat 16 (s.t.spmNat false (base + 6144 + 2 * (if gs then i else i % 128)) 2))) ∧
  (∀ o rest op (s : State), PipeHead s .wide o rest op → s.t.isSpec = false → Runs (.matrixPipeOpComplete .wide) s fun t =>
    PipeShorter s t .wide rest ∧ t.t.mat = { s.t.mat with wide := rest } ∧
    (∀ a, op = .lclr a → Copied s t a (List.replicate 80 0)) ∧
    (∀ a b, op = .lmerge a b → Copied s t a (bytesOf (wideMerge (s.t.wideAt false a) (s.t.wideAt false b)).toNat 80)) ∧
    (∀ a bf x en, op = .ladd a bf x en → wideTerms op ≠ [] →
      Copied s t a (bytesOf ((wideTerms op).foldl wideAdd (s.t.wideAt false a)).toNat 80)) ∧
    (∀ a bf x y en, op = .lmadd a bf x y en → wideTerms op ≠ [] →
      Copied s t a (bytesOf ((wideTerms op).foldl wideAdd (s.t.wideAt false a)).toNat 80)) ∧
    (∀ a bf clr n, op = .lrnd a bf clr (some n) →
      t.t.regs.s[n] = BitVec.ofNat 64 (wideRound bf (o.fmt.getLsbD 9) (s.t.wideAt false a)) ∧
      (clr = true → Copied s t a (List.replicate 80 0)) ∧ (clr = false → SameBytes s.t t.t)))

/-! ## Launches, dispatch, experts -/

/-- R312, R345, R346, R348, R349: a launch enters its queue, counters meet its dependences, and a scheduler that picks it holds its tiles. -/
def Obligations.LaunchesQueue : Prop :=
  (∀ a uli d sa o (s : State) k, let i : Instr := .launch a uli d sa
    engOp s i = some o → s.t.isSpec = false → LowestFree s.t k → CanTake s a d → o.reason = none →
    let r := Klr.of (s.t.spmRead false ((s.rdS sa).toNat % 2 ^ 20) 128)
    let q : Fin 5 := if r.form then Fin.ofNat 5 r.die.val else 4
    ((s.sched.q[q]).length < 256 → Runs i s fun t =>
      EngineIssued s t o k ∧ t.t.cpl[k].state = 1 ∧ Enqueued s t r (dieOf s.cur) (s.rankOf s.cur)) ∧
    (256 ≤ (s.sched.q[q]).length → Runs i s fun t =>
      EngineIssued s t o k ∧ t.t.cpl[k].state = 5 ∧ t.sched = s.sched)) ∧
  (∀ (c : Fin 4096) (v : W32) (s : State), Runs (.dctrWrite c v) s fun t =>
    t.sched.dctr = (if v = 0 then s.sched.dctr.del c.val else s.sched.dctr.put c.val v) ∧ (v ≠ 0 → t.dctr c.val = v) ∧
    (v ≠ 0 → ∀ k : Fin 5, ∀ x ∈ t.sched.q[k], ∀ j n, x.klr.deps[j]? = some (c.val, n) → n ≤ v.toNat → j ∈ x.met) ∧
    t.frozen = s.frozen.filter (fun f => f != (3, c.val)) ∧ Awake t ∧ t.tiles = s.tiles) ∧
  (∀ (k : Fin 5) (s : State), (∀ e ∈ s.agenda, e.due ≤ s.now → ∀ j, e.ev ≠ .schedulerPick j) →
    (s.pick k = none → exec (.schedulerPick k) s = .next s) ∧
    (∀ x p tiles, s.pick k = some (x, p) → x.resume = false →
      (x.klr.form = true ∧ tiles = x.klr.rect ∧ (∀ n ∈ tiles, s.freeTile n = true)) ∨
        (x.klr.form = false ∧ x.klr.tdom = false ∧ tiles = (exposed.filter s.freeTile).take x.klr.ntiles ∧
          tiles.length = x.klr.ntiles) →
      Runs (.schedulerPick k) s fun t =>
        (∃ g ∈ t.sched.gangs, g.handle = x.handle ∧ g.klr = x.klr ∧ g.ranks = tiles.map s.rankOf ∧ g.suspended = false) ∧
        (∀ n ∈ tiles, (t.tile n).thr = { Thread.reset with st := .running, gang := some x.handle, starting := true }) ∧
        (∀ y ∈ t.sched.q[k], y.handle ≠ x.handle) ∧ ⟨s.now, 1022, .gangPlace x.handle⟩ ∈ t.agenda ∧
        (x.klr.rwv = true → (t.dq x.bindDie x.klr.queue).reserved = some x.handle)))

/-- GANG_PLACE, GANG_COMPLETE and GANG_RESUME (R351, R352, R377): the requests of a step, and the step once they are answered. What becomes of
reads that are abandoned or fault is the model's reading (log 44). -/
def Obligations.GangsRun : Prop :=
  (∀ h g (s : State), s.gang h = some g → (∀ j ∈ s.jobs, j.isOf 1022 (.gangPlace h) = false) → g.ranks.Nodup →
    Runs (.gangPlace h) s fun t =>
      (imagePieces g ≠ [] → t.tiles = s.tiles ∧ t.sched = s.sched) ∧
      ∀ r ∈ g.ranks, ∃ xid, ∀ i (hi : i < (imagePieces g).length), OnItsWay t (mkPacket r g.klr.imgmoon 0x10 0 xid 0 0
        (mreqHeader 0 false g.klr.asid (imagePieces g)[i].len ((imagePieces g)[i].addr % 2 ^ 64) r xid i))) ∧
  (∀ h g (img args : Rank → List Byte) (s : State), s.gang h = some g → StepAnswered s 1022 (.gangPlace h) → (g.ranks.map keyOf).Nodup →
    (∀ r ∈ g.ranks, ReadBack s (.gangPlace h) r 0 (imagePieces g) (img r) ∧
      ReadBack s (.gangPlace h) r 1 (cutPieces g.klr.argmoon g.klr.argva g.klr.arglen 0 cutFuel) (args r)) →
    (∀ w, g.klr.grp = some w → s.homeReached w = true) → Runs (.gangPlace h) s fun t =>
      (∀ r ∈ g.ranks, PlacedTile (t.tile (keyOf r)) (keyOf r) g s.now (img r) (args r)) ∧ t.hbm = s.hbm ∧
      (g.klr.rwv = true → (t.dq g.bindDie g.klr.queue).bound = some h ∧ (t.dq g.bindDie g.klr.queue).round = 0) ∧
      ∀ w, g.klr.grp = some w → ∀ r ∈ g.ranks,
        ⟨s.now + s.toSwitch (keyOf r), 1022, .groupJoinRegister r w⟩ ∈ t.agenda) ∧
  (∀ h g reason (s : State), s.gang h = some g → StepFaulted s (.gangPlace h) reason →
    Runs (.gangPlace h) s fun t => GaveUp t h reason) ∧
  (∀ h g (s : State), s.gang h = some g →
    (∀ r ∈ g.ranks, (s.tile (keyOf r)).thr.st = .halted ∧ (s.tile (keyOf r)).thr.gang = some h) →
    (∀ c, g.klr.donectr = some c → s.isFrozen 3 c = false) → Runs (.gangComplete h) s fun t =>
      (∀ x ∈ t.sched.gangs, x.handle ≠ h) ∧ (∀ r ∈ g.ranks, (t.tile (keyOf r)).thr = Thread.reset) ∧ Awake t ∧
      (∀ c, g.klr.donectr = some c → s.dctr c + 1 ≠ 0 → t.dctr c = s.dctr c + 1)) ∧
  (∀ h g r v prog img (s : State), s.gang h = some g → g.ranks = [r] → memWf s = true →
    IsFirst s.sched.saves (fun w => w.rank = r ∧ w.tile.thr.gang = some h) v → StepAnswered s 1022 (.gangResume h) →
    ReadBack s (.gangResume h) r 0 (imagePieces g) prog →
    ReadBack s (.gangResume h) r 1 (s.savePieces v.die v.slot g.klr.spill) img → Runs (.gangResume h) s fun t =>
      BroughtBack s t v prog img g.klr.spill ∧ (∀ w ∈ t.sched.saves, ¬ (w.die = v.die ∧ w.slot = v.slot)))

/-- R313, R354-R357, R362: `recq` and `rclose`, the records that enter the open round, and the close of a round (log 49). -/
def Obligations.RoundsFillAndClose : Prop :=
  (∀ a q uli d sb o (s : State) k, let i : Instr := .recq a q uli d sb
    engOp s i = some o → s.t.isSpec = false → LowestFree s.t k → CanTake s a d → o.reason = none → Runs i s fun t =>
      let b := s.rdS sb
      let p : Push := ⟨s.rankOf s.cur, s.t.thr.gang, nextXid s.t k, s.now + 1, (s.dq (dieOf s.cur) q).round,
        (List.range (bufLen b / 16)).map fun j => RouteRec.of (s.t.spmRead false (bufAddr b + 16 * j) 16)⟩
      EngineIssued s t o k ∧ t.t.cpl[k].state = 0 ∧
      p ∈ (t.dq (dieOf s.cur) q).pushes ∧ (∀ x ∈ (s.dq (dieOf s.cur) q).pushes, x ∈ (t.dq (dieOf s.cur) q).pushes) ∧
      ⟨s.now + 1, (dieOf s.cur).val, .recqRecordsEnter (dieOf s.cur) q⟩ ∈ t.agenda ∧ SameBytes s.t t.t) ∧
  (∀ a q uli d o (s : State) k, let i : Instr := .rclose a q uli d
    engOp s i = some o → s.t.isSpec = false → LowestFree s.t k → CanTake s a d → o.reason = none → Runs i s fun t =>
      let p : Push := ⟨s.rankOf s.cur, s.t.thr.gang, nextXid s.t k, s.now + 1, (s.dq (dieOf s.cur) q).round, []⟩
      EngineIssued s t o k ∧ t.t.cpl[k].state = 0 ∧ p ∈ (t.dq (dieOf s.cur) q).closes ∧
      ⟨s.now + 1, (dieOf s.cur).val, .roundClose (dieOf s.cur) q⟩ ∈ t.agenda ∧ SameBytes s.t t.t) ∧
  (∀ die q p rest (s : State), (s.dq die q).pushes = p :: rest → p.at_ ≤ s.now →
    (∀ x, rest.head? = some x → s.now < x.at_) →
    ((s.dq die q).recs.length + p.recs.length ≤ 16384 → BusyAt s p.rank p.gang p.xid → Runs (.recqRecordsEnter die q) s fun t =>
      let late := decide (p.round < (s.dq die q).round)
      (t.dq die q).recs = (s.dq die q).recs ++ p.recs.map (entered late) ∧ (t.dq die q).pushes = rest ∧
      (t.dq die q).carried.toNat = (if late then raised (s.dq die q).carried p.recs.length else (s.dq die q).carried.toNat) ∧
      (t.tile (keyOf p.rank)).cpl[slotIx p.xid].state = 1) ∧
    (16384 < (s.dq die q).recs.length + p.recs.length → exec (.recqRecordsEnter die q) s = .next s)) ∧
  (∀ die q p rest g (s : State), (s.dq die q).closes = p :: rest → (s.dq die q).bound = some g.handle →
    s.gang g.handle = some g → p.at_ ≤ s.now → (∀ d j, ∀ c ∈ (s.dq d j).closing, c.looked = true ∨ s.now ≤ c.at_) →
    (p.round < (s.dq die q).round → BusyAt s p.rank p.gang p.xid → Runs (.roundClose die q) s fun t =>
      (t.dq die q).closes = rest ∧ (t.dq die q).round = (s.dq die q).round ∧ (t.dq die q).recs = (s.dq die q).recs ∧
      (t.tile (keyOf p.rank)).cpl[slotIx p.xid].state = 1) ∧
    ((s.dq die q).round ≤ p.round → Runs (.roundClose die q) s fun t =>
      (t.dq die q).closes = rest ∧ (t.dq die q).round = (s.dq die q).round + 1 ∧ (t.dq die q).recs = [] ∧
      t.ert.clock = s.ert.clock + 1 ∧ ⟨s.now + 1, die.val, .roundClose die q⟩ ∈ t.agenda ∧ t.tiles = s.tiles ∧
      ∃ rows n1 n, (t.dq die q).closing =
          (s.dq die q).closing ++ [⟨(s.dq die q).round, s.now, rows, p.rank, p.gang, p.xid, false, false, false⟩] ∧
        RoundCut (s.dq die q).recs rows (g.klr.km1 + 1) g.klr.cap n1 n ∧
        (t.dq die q).dropped1.toNat = raised (s.dq die q).dropped1 n1 ∧
        (t.dq die q).spares.toNat = raised (s.dq die q).spares n)) ∧
  (∀ die q c g (s : State), (s.dq die q).closes = [] → (s.dq die q).bound = some g.handle → s.gang g.handle = some g →
    IsFirst (s.dq die q).closing (fun c => c.looked = false) c → c.at_ < s.now →
    (∀ d j, (d, j) ≠ (die, q) → ∀ c ∈ (s.dq d j).closing, c.looked = true ∨ s.now ≤ c.at_) →
    ((∀ r ∈ c.rows, s.isFrozen 0 r.expert.toNat = false) → Runs (.roundClose die q) s fun t =>
      (t.dq die q).closing = (s.dq die q).closing.map (fun y => if y.round = c.round then { y with looked := true } else y) ∧
      (t.dq die q).members.map Member.rank = (s.dq die q).members.map Member.rank ∧
      (∀ m ∈ (t.dq die q).members, ∃ y, m.pend.getLast? = some y ∧ y.round = c.round ∧ y.opened = false) ∧
      ⟨s.now + 1, die.val, .rowAreaWrite die q⟩ ∈ t.agenda ∧ t.tiles = s.tiles) ∧
    ((∃ r ∈ c.rows, s.isFrozen 0 r.expert.toNat = true) → Runs (.roundClose die q) s fun t =>
      t.disp = s.disp ∧ t.ert = s.ert ∧ ⟨s.now + 1, die.val, .roundClose die q⟩ ∈ t.agenda))

/-- R33-R36, R358, R360, R361: the row area, the wait queues, and what reaches the members (log 49). -/
def Obligations.RowsReachMembers : Prop :=
  (∀ die q c g (s : State), let x := s.dq die q
    x.bound = some g.handle → s.gang g.handle = some g → x.closing = [c] → c.looked = true → c.stalled = false →
    c.written = false →
    let opens (t : State) : Prop := ∀ m ∈ (t.dq die q).members, ∀ y ∈ m.pend, y.round = c.round → y.opened = true
    let ready : Prop := ∃ m ∈ x.members, ∃ y ∈ m.pend, y.round = c.round ∧ y.ready ≠ 0
    let job (j : Job) : Prop := IsFirst s.jobs (fun j => j.isOf die.val (.rowAreaWrite die q) = true) j ∧ j.tag = c.round
    let failed (p : Piece) : Prop := ∃ b, p.reply = some b ∧ b ≠ 0
    (c.rows = [] → c.round < 2 → (∀ j ∈ s.jobs, j.isOf die.val (.rowAreaWrite die q) = false) → ¬ ready →
      BusyAt s c.rank c.gang c.xid → Runs (.rowAreaWrite die q) s fun t =>
        (t.dq die q).closing = [] ∧ (t.tile (keyOf c.rank)).cpl[slotIx c.xid].state = 1 ∧ opens t) ∧
    (c.rows ≠ [] → c.round < 2 → (∀ j ∈ s.jobs, j.isOf die.val (.rowAreaWrite die q) = false) →
      Runs (.rowAreaWrite die q) s fun t => t.tiles = s.tiles ∧ t.disp = s.disp ∧
        let bs := c.rows.flatMap RouteRec.bytes
        let ps := cutPieces g.klr.outmoon (g.klr.outva + c.round % 2 * 0x40000) (16 * c.rows.length) 0 cutFuel
        let me := s.rankOf (die.val * 1024 + 307)
        ∃ xid, ∀ i (h : i < ps.length), OnItsWay t (mkPacket me g.klr.outmoon 0x10 0 xid 0 0
          (mreqHeader 1 false g.klr.asid ps[i].len (ps[i].addr % 2 ^ 64) me xid i ++ (bs.drop ps[i].off).take ps[i].len))) ∧
    (∀ j, job j → (∀ p ∈ j.pieces, p.reply = some 0) → ready → Runs (.rowAreaWrite die q) s fun t =>
      (t.dq die q).closing = [{ c with written := true }] ∧ opens t ∧ t.tiles = s.tiles) ∧
    (∀ j, job j → (∀ p ∈ j.pieces, p.reply = some 0) → ¬ ready → BusyAt s c.rank c.gang c.xid →
      Runs (.rowAreaWrite die q) s fun t =>
        (t.dq die q).closing = [] ∧ (t.tile (keyOf c.rank)).cpl[slotIx c.xid].state = 1 ∧ opens t) ∧
    (∀ j p b, job j → (∀ p ∈ j.pieces, p.reply ≠ none) → IsFirst j.pieces failed p → p.reply = some b →
      Runs (.rowAreaWrite die q) s fun t =>
        (t.dq die q).closing = [{ c with stalled := true }] ∧ t.tiles = s.tiles ∧
        ∃ r, Reported t die r ∧ r.code = 0x31 ∧ r.tval = BitVec.ofNat 64 (b.toNat + 2 ^ 8 * q.val))) ∧
  (∀ die q rank m g (s : State), let x := s.dq die q
    IsFirst x.members (fun m => m.rank = rank) m → x.bound = some g.handle → s.gang g.handle = some g → g.suspended = false →
    g.suspending = false → x.members.Pairwise (fun a b => a.rank ≠ b.rank) →
    let u := s.tile (keyOf rank)
    (∀ c b bs rest, m.pend = c :: rest → c.opened = true → c.batches = b :: bs → u.q1Full = false → m.halfFree u = true →
      Runs (.batchDelivery die q rank) s fun t =>
        let v := t.tile (keyOf rank)
        v.regs = { u.regs with q1 := u.regs.q1 ++ [BitVec.ofNat 32 b.length] } ∧
        (tileMemWf u = true → ∀ a, v.spmByte false a =
          let base := g.klr.ring + if m.half then 4096 else 0
          if base ≤ a ∧ a < base + 16 * b.length then
            (b.flatMap fun x => x.tr.bytes).getD (a - base) 0
          else u.spmByte false a) ∧
        ∃ n ∈ (t.dq die q).members, n.rank = rank ∧ n.half = !m.half ∧ n.pend = { c with batches := bs, ready := c.ready - 1 } :: rest) ∧
    (∀ c rest, m.pend = c :: rest → c.opened = true → c.batches = [] → c.owed = 0 → c.part = [] → c.late = [] → u.q1Full = false →
      Runs (.batchDelivery die q rank) s fun t =>
        t.tile (keyOf rank) = { u with regs := { u.regs with q1 := u.regs.q1 ++ [0] } } ∧
        ∃ n ∈ (t.dq die q).members, n.rank = rank ∧ n.pend = rest) ∧
    (m.pend = [] ∨ (∃ c rest, m.pend = c :: rest ∧ c.opened = false) → exec (.batchDelivery die q rank) s = .next s)) ∧
  (∀ (d : Fin 4) e discard rest h tl w (s : State), s.cur = d.val → s.ert.rel[d] = (e, discard) :: rest →
    (s.ertEnt e).wq[d] = some (h, tl) → (s.ert.wq[d]).find h.toNat = some w → s.isFrozen 0 e.toNat = false →
    s.isFrozen 1 (d.val * 8192 + h.toNat) = false → s.ert.blocked[d] = [] → w.dealt.tr.expert = e →
    Runs .waitqRelease s fun t =>
      t.ert.wq[d] = (s.ert.wq[d]).del h.toNat ∧
      (t.ertEnt e).wq[d] = (if h = tl then none else w.link.map fun n => (n, tl)) ∧
      (s.bindLives w.dealt = true → (s.ertEnt e).readers ≠ 0xFFFF → (t.ertEnt e).readers = (s.ertEnt e).readers + 1) ∧
      (s.bindLives w.dealt = true → (s.ertEnt e).readers = 0xFFFF → t.ert.limit[w.dealt.die] = s.ert.limit[w.dealt.die] ++
        [{ w.dealt with tr := { w.dealt.tr with pagefail := discard } }]) ∧
      (s.bindLives w.dealt = false → (t.ertEnt e).readers = (s.ertEnt e).readers)) ∧
  (∀ (d : Fin 4) x rest n (s : State), s.cur = d.val → s.ert.blocked[d] = x :: rest → s.freeWq d = some n → x.die = d →
    (s.ertEnt x.tr.expert).present = false →
    (∀ c, (s.ertEnt x.tr.expert).wq[d] = some c → ((s.ert.wq[d]).find c.2.toNat).isSome = true) → Runs .waitqRefill s fun t =>
      t.ert.blocked[d] = rest ∧
      (t.ert.wq[d]).find n = some ⟨{ x with tr := { x.tr with parked := true } }, none⟩ ∧
      (t.ertEnt x.tr.expert).wq[d] = some ((((s.ertEnt x.tr.expert).wq[d]).map (·.1)).getD (BitVec.ofNat 13 n),
        BitVec.ofNat 13 n)) ∧
  (∀ (d : Fin 4) e x rest (s : State), s.ert.limit[d] = x :: rest → x.tr.expert = e → (∀ y ∈ rest, y.tr.expert ≠ e) →
    ((s.ertEnt e).readers = 0xFFFF → Runs (.readerLimitRetry d e) s fun t =>
      t.ert.limit[d] = x :: rest ∧ t.ertEnt e = s.ertEnt e) ∧
    ((s.ertEnt e).readers ≠ 0xFFFF → Runs (.readerLimitRetry d e) s fun t =>
      t.ert.limit[d] = rest ∧ (t.ertEnt e).readers = (s.ertEnt e).readers + 1))

/-- R24, R28, R29, R31, R32, R35, R37, R38, R40: the supervisor's commands on entries, and the page-in: slot, engine, units, completion,
failure. The times of its steps (log 32) and the readings of log 63 are the model's. -/
def Obligations.ErtCommands : Prop :=
  ((∀ i a d sa sb (s : State), ertOp i = some (a, d, sa, sb) → s.t.isSpec = false → CanTake s a d →
    let e : W16 := (s.rdS sa).setWidth 16
    let x := s.ertEnt e
    s.isFrozen 0 e.toNat = false → CommandOk s sa sb →
    (e = 0xFFFF → Runs i s fun t => Answers s t a d 2 ∧ t.ert = s.ert) ∧
    (e ≠ 0xFFFF →
      (∀ y, (i = .pin a d sa sb ∧ (x.state = 2 ∨ x.state = 4) ∧ y = { x with state := 3 }) ∨
          (i = .unpin a d sa sb ∧ x.state = 3 ∧ y = { x with state := if x.splitm1 = 0 then 2 else 4 }) ∨
          (i = .evict a d sa sb ∧ (x.state = 2 ∨ x.state = 4) ∧ x.readers = 0 ∧ y = { x with state := 0 }) ∨
          (i = .pagein a d sa sb ∧ x.state = 0 ∧ x.size ≠ 0 ∧ y = { x with state := 1 }) ∨
          (i = .discard a d sa sb ∧ x.state = 0 ∧ y = x) →
        Runs i s fun t => Answers s t a d 0 ∧ OnlyEntry s t e y ∧
          (i = .pagein a d sa sb → (∃ j ∈ t.ert.pageq, j.expert = e ∧ j.miss = false ∧ j.die = dieOf s.cur ∧ j.slot = none) ∧
            ∃ ev ∈ t.agenda, ev.ev = .pageinSlotChoice ∧ s.now + 4 ≤ ev.due) ∧
          (i = .discard a d sa sb → ∀ n : Fin 4, (x.wq[n]).isSome = true → t.ert.rel[n] = s.ert.rel[n] ++ [(e, true)])) ∧
      ((i = .pin a d sa sb ∧ ¬ (x.state = 2 ∨ x.state = 4)) ∨ (i = .unpin a d sa sb ∧ x.state ≠ 3) ∨
          (i = .evict a d sa sb ∧ ¬ ((x.state = 2 ∨ x.state = 4) ∧ x.readers = 0)) ∨
          (i = .pagein a d sa sb ∧ ¬ (x.state = 0 ∧ x.size ≠ 0)) ∨ (i = .discard a d sa sb ∧ x.state ≠ 0) →
        Runs i s fun t => Answers s t a d 1 ∧ t.ert = s.ert))) ∧
  (∀ i a d sa sb (s : State), ertOp i = some (a, d, sa, sb) ∨ i = .read a d sa sb ∨ i = .config a d sa sb →
    s.t.isSpec = false → CanTake s a d → s.isFrozen 0 ((s.rdS sa).toNat % 2 ^ 16) = false → 2 ^ 16 ≤ (s.rdS sa).toNat →
    Runs i s fun t => Answers s t a d 2 ∧ t.ert = s.ert ∧ SameBytes s.t t.t) ∧
  (∀ a d sa sb (s : State), s.t.isSpec = false → CanTake s a d → (s.rdS sa).toNat < 2 ^ 16 → (s.rdS sb).toNat < 2 ^ 41 →
    bufLen (s.rdS sb) = 32 → bufAddr (s.rdS sb) % 16 = 0 → bufAddr (s.rdS sb) + 32 ≤ 0x100000 →
    s.t.hitsHamper (bufAddr (s.rdS sb)) 32 = false →
    let e : W16 := (s.rdS sa).setWidth 16
    let x := s.ertEnt e
    let v := s.t.spmNat false (bufAddr (s.rdS sb)) 32
    let y : ErtEnt := { x with
      asid := BitVec.ofNat 8 (v / 2 ^ 8), size := BitVec.ofNat 16 (v / 2 ^ 40), splitm1 := BitVec.ofNat 2 (v / 2 ^ 56),
      diemask := BitVec.ofNat 4 (v / 2 ^ 58), far := BitVec.ofNat 48 (v / 2 ^ 64) }
    let bad := 5 ≤ v % 8 ∨ v / 2 ^ 6 % 4 ≠ 0 ∨ v / 2 ^ 62 % 4 ≠ 0 ∨ v / 2 ^ 252 ≠ 0 ∨ s.configOk y = false
    (Runs (.read a d sa sb) s fun t => Answers s t a d 0 ∧ t.ert = s.ert ∧
      Copied s t (bufAddr (s.rdS sb)) (if e = 0xFFFF then List.replicate 32 0 else (s.ertEnt e).bytes)) ∧
    (e ≠ 0xFFFF → x.state = 0 → ¬ bad → Runs (.config a d sa sb) s fun t =>
      Answers s t a d 0 ∧ OnlyEntry s t e y ∧ t.isFrozen 0 e.toNat = false) ∧
    (e ≠ 0xFFFF → x.state = 0 → bad → Runs (.config a d sa sb) s fun t => Answers s t a d 2 ∧ t.ert = s.ert) ∧
    (e ≠ 0xFFFF → x.state ≠ 0 → Runs (.config a d sa sb) s fun t => Answers s t a d 1 ∧ t.ert = s.ert) ∧
    (e = 0xFFFF → Runs (.config a d sa sb) s fun t => Answers s t a d 2 ∧ t.ert = s.ert))) ∧
  ((∀ j sl (s : State), s.freeSlotOn j.dies = some sl →
    let got (t : State) : Prop :=
      t.ertEnt j.expert = { s.ertEnt j.expert with
        moon := sl.1, base := BitVec.ofNat 20 sl.2, pdie := j.dies.headD 0 } ∧
      { j with slot := some sl.2, waiting := false } ∈ t.ert.pageq ∧
      (∃ e ∈ t.agenda, e.ev = .pageinEngineStart ∧ s.now + 26 ≤ e.due) ∧ t.tiles = s.tiles ∧ t.hbm = s.hbm
    (NextJob s j → Runs .pageinSlotChoice s got) ∧
    (IsFirst s.ert.pageq (fun q => q.expert = j.expert ∧ q.waiting = true) j → Runs (.pageinRetry j.expert) s got)) ∧
  (∀ j (s : State), NextJob s j → s.freeSlotOn j.dies = none → s.victim j.dies = none → Runs .pageinSlotChoice s fun t =>
      { j with waiting := true, since := s.now } ∈ t.ert.pageq ∧ t.ert.ent = s.ert.ent ∧
      ⟨s.now + 65536, 0, .noVictim j.expert⟩ ∈ t.agenda) ∧
  (∀ e (s : State),
    let due (q : PageIn) : Prop := q.expert = e ∧ q.waiting = true ∧ q.since ≠ s.now ∧ (s.now - q.since) % 65536 = 0 ∧
      ∀ x ∈ s.agenda, ¬ (x.ev = .noVictim e ∧ x.due = s.now)
    (∀ j, IsFirst s.ert.pageq due j → Runs (.noVictim e) s fun t =>
      ⟨s.now + 65536, 0, .noVictim e⟩ ∈ t.agenda ∧ t.ert = s.ert ∧
        ∃ r, Reported t (reportsTo j) r ∧ r.code = 0x24 ∧ r.tval = e.setWidth 64) ∧
    ((∀ j ∈ s.ert.pageq, ¬ due j) → exec (.noVictim e) s = .next s)) ∧
  (∀ j (n : Fin 8) (s : State), IsFirst s.ert.pageq (fun j => j.slot.isSome = true) j → s.ert.eng[n] = none →
    (∀ m < n, s.ert.eng[m] ≠ none) → Runs .pageinEngineStart s fun t =>
      t.ert.eng[n] = some ⟨j, 0⟩ ∧ t.ert.pageq = s.ert.pageq.erase j ∧
      ∃ e ∈ t.agenda, e.ev = .farUnitTransfer n ∧ s.now + 300 ≤ e.due) ∧
  (∀ (n : Fin 8) g (s : State), s.ert.eng[n] = some g →
    let x := s.ertEnt g.job.expert
    let psize := x.size.toNat / x.parts
    let d := x.dieOfPart (g.moved / psize)
    let off := (x.base.toNat + g.moved % psize) * 65536
    let fu := farUnit x.far + g.moved
    let tile := s.rankOf (d.val * 1024 + 304 + g.moved % 2)
    let moon := s.rankOf (d.val * 1024 + 288 + x.moon.val)
    (fu ∈ s.farBad → Runs (.farUnitTransfer n) s fun t =>
      ⟨s.now + 1, 0, .pageinFailed n g.moved⟩ ∈ t.agenda ∧ t.hbm = s.hbm ∧ t.ert = s.ert) ∧
    (fu ∉ s.farBad → Runs (.farUnitTransfer n) s fun t =>
        (∃ xid, ∀ i < 16, OnItsWay t (mkPacket tile moon 0x10 0 xid 0 0
          (mreqHeader 1 true 0 4096 ((off + 4096 * i) % 2 ^ 64) tile xid i ++ s.far.read (fu * 65536 + 4096 * i) 4096))) ∧
        t.ert.eng[n] = some { g with moved := g.moved + 1 } ∧ t.ert.ent = s.ert.ent ∧ t.far = s.far ∧ t.hbm = s.hbm ∧
        (g.moved + 1 ≠ x.size.toNat → ∃ e ∈ t.agenda, e.ev = .farUnitTransfer n ∧ s.now + 342 ≤ e.due)) ∧
    (StepAnswered s 0 (.pageinComplete n) → x.size.toNat ≤ g.moved → s.isFrozen 0 g.job.expert.toNat = false →
      Runs (.pageinComplete n) s fun t =>
        t.ertEnt g.job.expert = { x with state := if x.splitm1 = 0 then 2 else 4, age := s.ert.clock } ∧ t.ert.eng[n] = none ∧
        ⟨s.now + 4, 0, .pageinEngineStart⟩ ∈ t.agenda ∧
        ∀ k : Fin 4, (x.wq[k]).isSome = true → t.ert.rel[k] = s.ert.rel[k] ++ [(g.job.expert, false)]) ∧
    ((∀ j ∈ s.jobs, j.isOf 0 (.pageinComplete n) = true → ∀ p ∈ j.pieces, p.reply = some 0 ∨ p.reply = none) →
      g.moved < x.size.toNat ∨ (∃ j ∈ s.jobs, j.isOf 0 (.pageinComplete n) = true ∧ ∃ p ∈ j.pieces, p.reply = none) →
      exec (.pageinComplete n) s = .next s) ∧
    (∀ j, IsFirst s.jobs (fun j => j.isOf 0 (.pageinComplete n) = true ∧ ∃ p ∈ j.pieces, ∃ b, p.reply = some b ∧ b ≠ 0) j →
      Runs (.pageinComplete n) s fun t => ⟨s.now + 1, 0, .pageinFailed n j.tag⟩ ∈ t.agenda ∧ t.ert = s.ert) ∧
    (∀ u, Runs (.pageinFailed n u) s fun t =>
      t.ertEnt g.job.expert = { x with state := 0, err := true } ∧ t.ert.eng[n] = none ∧ t.hbm = s.hbm ∧
      ⟨s.now + 4, 0, .pageinEngineStart⟩ ∈ t.agenda ∧
      ∃ r, Reported t (reportsTo g.job) r ∧ r.code = 0x21 ∧
        r.tval = BitVec.ofNat 64 (g.job.expert.toNat + 2 ^ 16 * u))) ∧
  (∀ (die : Fin 4) (reg : Fin 18) (v : W32) (s : State),
    let p := s.ert.pool[die]
    let wrote (q : Pool) (t : State) : Prop := t = { s with ert := { s.ert with pool := s.ert.pool.set die q } }
    let held := ∃ e ∈ s.ert.ent, s.holdsOn e.1 e.2 die = true
    (reg = 17 → v.toNat % 4 ≠ 3 → Runs (.poolRegisterWrite die reg v) s (wrote { p with policy := v.setWidth 2 })) ∧
    (reg = 17 → v.toNat % 4 = 3 → exec (.poolRegisterWrite die reg v) s = .next s) ∧
    (reg = 0 → ¬ held → Runs (.poolRegisterWrite die reg v) s (wrote { p with size := v.setWidth 16 })) ∧
    (∀ m : Fin 16, reg.val = m.val + 1 → ¬ held → Runs (.poolRegisterWrite die reg v) s
      (wrote { p with moon := p.moon.set m (BitVec.ofNat 20 v.toNat, BitVec.ofNat 12 (v.toNat / 2 ^ 20)) })) ∧
    (reg ≠ 17 → held → Runs (.poolRegisterWrite die reg v) s fun t => t.ert = s.ert ∧
      ∃ r, Reported t 0 r ∧ r.code = 0x23 ∧ r.tval = BitVec.ofNat 64 reg.val)))

/-! ## The supervisor, pre-emption -/

/-- R315, R369, R371, R375, R378: what each command does, its answer, and `tctl`, which gives the command of its code. That EXPEL of a
member without v answers OK (log 42), and the BUSY answers of logs 65 and 66, are the model's reading. -/
def Obligations.SupervisorCommands : Prop :=
  (∀ (r : Rank) (s : State), ¬ OwnDie s r →
    exec (.state r) s = .next (Read s (BitVec.allOnes 64)) ∧ exec (.resume r) s = .next (Read s 2) ∧
    (∀ g, exec (.expel r g) s = .next (Read s 2)) ∧ exec (.preempt r) s = .next (Read s 2) ∧
    (∀ n, exec (.mapspare r n) s = .next (Read s 2)) ∧ (∀ n v, exec (.wrcsr r n v) s = .next (Read s 2)) ∧
    ∀ n, exec (.rdcsr r n) s = .next (Read s 2)) ∧
  (∀ (r : Rank) (s : State), OwnDie s r → (∀ v ∈ s.sched.saves, v.rank ≠ r) →
    let x := s.tile (keyOf r)
    exec (.state r) s = .next (Read s (match x.thr.st with
      | .running => 0
      | .stopped => 1
      | .suspended => 2
      | .halted => 3
      | .none => 4)) ∧
    (x.thr.st = .none → (∀ n, exec (.rdcsr r n) s = .next (Read s 0)) ∧ exec (.resume r) s = .next (Read s 2) ∧
      exec (.preempt r) s = .next (Read s 2) ∧ (∀ g, exec (.expel r g) s = .next (Read s 2)) ∧
      ∀ n v, exec (.wrcsr r n v) s = .next (Read s 2)) ∧
    (x.thr.st = .running → x.thr.preempt = .none → ¬ TrapWaits s r → exec (.resume r) s = .next (Read s 2) ∧
      ∀ n v, exec (.wrcsr r n v) s = .next (Read s 2)) ∧
    (x.thr.st = .running ∨ x.thr.st = .stopped → x.thr.preempt ≠ .none ∨ TrapWaits s r →
      exec (.resume r) s = .next (Read s 1) ∧ ∀ n v, exec (.wrcsr r n v) s = .next (Read s 1)) ∧
    (x.thr.st = .running ∨ x.thr.st = .stopped ∨ x.thr.st = .halted → ∀ n,
      exec (.rdcsr r n) s = .next (Read s (csrValue { s with cur := keyOf r } n.toNat))) ∧
    (x.thr.st = .stopped → x.thr.preempt = .none → ¬ TrapWaits s r →
      (∀ v, Runs (.wrcsr r 0x010 v) s fun t =>
        t = Read (s.setTile (keyOf r) { x with csr := { x.csr with cause := v.setWidth 9 } }) 0) ∧
      (∀ v, Runs (.wrcsr r 0x012 v) s fun t =>
        t = Read (s.setTile (keyOf r) { x with csr := { x.csr with tval := v } }) 0) ∧
      (∀ v, x.spec = none → Runs (.wrcsr r 0x011 v) s fun t =>
        t = Read (s.setTile (keyOf r) { x with csr := { x.csr with epc := v.setWidth 26 } }) 0) ∧
      (∀ n v, n ≠ 0x010 → n ≠ 0x011 → n ≠ 0x012 → exec (.wrcsr r n v) s = .next (Read s 2)) ∧
      (x.spec = none → x.csr.cause.toNat % 256 ≠ 0x0C → x.targetOk x.csr.epc.toNat = true → Runs (.resume r) s fun t =>
        (t.tile (keyOf r)).thr =
          { x.thr with st := .running, pc := x.csr.epc, badTarget := none, base := s.now, drain := true, trapped := false } ∧
        (t.tile (keyOf r)).regs = x.regs ∧ (t.tile (keyOf r)).csr = x.csr ∧ (t.tile (keyOf r)).loops = x.loops ∧
        SameBytes x (t.tile (keyOf r)) ∧ (∀ k, k ≠ keyOf r → t.tile k = s.tile k) ∧
        t.mgmt.readback = s.mgmt.readback ++ [0])) ∧
    (x.thr.st = .running ∨ x.thr.st = .stopped → ∀ g : Fin 8,
      ((x.csr.gm[g]).getLsbD 16 = false → exec (.expel r g) s = .next (Read s 0)) ∧
      ((x.csr.gm[g]).getLsbD 16 = true → Runs (.expel r g) s fun t =>
        (t.tile (keyOf r)).csr = { x.csr with gm := x.csr.gm.set g (BitVec.ofNat 64 ((x.csr.gm[g]).toNat % 2 ^ 16 + 2 ^ 17)) } ∧
        (t.tile (keyOf r)).regs = x.regs ∧ SameBytes x (t.tile (keyOf r)) ∧ t.mgmt.readback = s.mgmt.readback ++ [0])) ∧
    (x.thr.st = .running ∨ x.thr.st = .stopped → ∀ h g, x.thr.gang = some h → s.gang h = some g →
      (s.canPreempt g = false → exec (.preempt r) s = .next (Read s 1)) ∧
      (s.canPreempt g = true → Runs (.preempt r) s fun t =>
        (∃ y ∈ t.sched.gangs, y = { g with suspending := true }) ∧ t.mgmt.readback = s.mgmt.readback ++ [0] ∧
        ∀ m ∈ g.ranks, ∃ e ∈ t.agenda, e.ev = .preemptHalt ∧ e.unit = keyOf m ∧ s.now < e.due)) ∧
    (∀ n : BitVec 4, (s.sched.spares[dieOf (keyOf r)]).armed ≠ some (r, n) →
      exec (.mapspare r n) s = .next (Read s 2)) ∧
    (∀ n : Nat, SpareFits s r n →
      (x.thr.st = .none → Runs (.mapspare r (BitVec.ofNat 4 n)) s fun t =>
        Mapped s t (dieOf (keyOf r)) (keyOf r) n ∧ t.sched.spares[dieOf (keyOf r)].armed = none ∧
        t.mgmt.readback = s.mgmt.readback ++ [0] ∧ (∀ a, (t.tile (keyOf r)).spm.get a = 0) ∧ (t.tile (keyOf r)).regs = Regs.reset) ∧
      (x.thr.st = .stopped → ∀ slot rest, s.freeSaves (dieOf (keyOf r)) = slot :: rest →
        s.sched.spares[dieOf (keyOf r)].moving = none → Runs (.mapspare r (BitVec.ofNat 4 n)) s fun t =>
        t.mgmt.readback = s.mgmt.readback ∧ t.sched.spares[dieOf (keyOf r)].armed = none ∧
        t.sched.spares[dieOf (keyOf r)].moving = some (r, n, false) ∧ (t.tile (keyOf r)).thr.saveSlot = some slot ∧
        ⟨s.now + 1, keyOf r, .preemptHalt⟩ ∈ t.agenda))) ∧
  (∀ a n sa sb sc i (s : State), s.t.isSpec = false →
    IsCommand ((s.rdS sa).setWidth 32) (s.rdS sb).toNat (s.rdS sc).toNat i → ∀ u v,
    exec i s = .next u → u.mgmt.readback = s.mgmt.readback ++ [v] → Runs (.tctl a (.s n) sa sb sc) s fun t =>
      (∃ w ∈ t.t.regs.flight, w.dst = .s n ∧ w.val = v.setWidth 512 ∧ s.now < w.due) ∧
      (∀ k, k ≠ s.cur → t.tile k = u.tile k) ∧ t.sched = u.sched ∧ t.red = u.red ∧ (∀ e ∈ u.agenda, e ∈ t.agenda)) ∧
  (∀ a n sa sb sc (s : State), s.t.isSpec = false → 7 ≤ (s.rdS sb).toNat % 16 → Runs (.tctl a (.s n) sa sb sc) s fun t =>
    (∃ w ∈ t.t.regs.flight, w.dst = .s n ∧ w.val = 2 ∧ s.now < w.due) ∧ SameOthers s t ∧ t.sched = s.sched) ∧
  (∀ m g spare late (s : State), s.t.thr.saveSlot = some m → s.t.thr.gang = some g.handle → s.gang g.handle = some g →
    keyOf (s.rankOf s.cur) = s.cur → s.sched.spares[dieOf s.cur].moving = some (s.rankOf s.cur, spare, late) →
    (s.jobsOf s.cur .saveImageWrite = [] → s.t.spmBad = [] → s.t.awaited = [] → s.drained = true →
      Runs .saveImageWrite s fun t => Saving s t m true) ∧
    (∀ v prog img, IsFirst s.sched.saves (fun v => v.rank = s.rankOf s.cur ∧ v.tile.thr.gang = some g.handle) v → v.die = dieOf s.cur →
      v.tile.thr.st ≠ .none → StepAnswered s s.cur .saveImageWrite → (∃ j ∈ s.jobs, j.isOf s.cur .saveImageWrite = true) →
      ReadAt s s.cur .saveImageWrite v.rank 1 prog → ReadAt s s.cur .saveImageWrite v.rank 2 img →
      Runs .saveImageWrite s fun t => BroughtBack s t v prog img true ∧ Mapped s t (dieOf s.cur) s.cur spare ∧
        t.sched.spares[dieOf s.cur].moving = none ∧ (late = false → t.mgmt.readback = s.mgmt.readback ++ [0]))) ∧
  (∀ a d sa sb sc (s : State), s.t.isSpec = true → Waits (.tctl a d sa sb sc) s 4)

/-- R366, R374-R376: how a tile halts for pre-emption, is saved by requests to its moons, and what becomes of reports (log 46). -/
def Obligations.PreemptionAndReports : Prop :=
  (∀ n (s : State), s.t.thr.saveSlot = some n →
    (s.t.thr.preempt = .none → AtBoundary s → s.t.mat.arr = [] → s.t.mat.wgt = [] → Runs .preemptHalt s fun t =>
      t.t.thr = { s.t.thr with preempt := .requested, tbar := none, tbarGo := none, creditSince := none } ∧ t.t.regs = s.t.regs ∧
      t.t.csr = s.t.csr ∧ (∀ g ∈ s.t.groups, g ∈ t.t.msg.filter) ∧
      (∀ e ∈ s.agenda, e.unit = s.cur → isEngineStep e.ev = true → (e.due - s.now, e.ev) ∈ t.t.frozen ∧ e ∉ t.agenda) ∧
      ⟨s.now + 1, s.cur, .preemptHalt⟩ ∈ t.agenda ∧ SameOthers s t) ∧
    (s.t.thr.preempt = .requested → s.drained = true → Runs .preemptHalt s fun t =>
      t.t = { s.t with thr := { s.t.thr with preempt := .halted } } ∧ ⟨s.now + 1, s.cur, .saveImageWrite⟩ ∈ t.agenda ∧
      SameModule s t ∧ SameOthers s t) ∧
    (s.t.thr.preempt = .requested → s.drained = false → Runs .preemptHalt s fun t =>
      t.tiles = s.tiles ∧ ⟨s.now + 1, s.cur, .preemptHalt⟩ ∈ t.agenda ∧ SameModule s t)) ∧
  (∀ n h g (s : State), s.t.thr.saveSlot = some n → s.t.thr.gang = some h → s.gang h = some g →
    (∀ m ∈ s.sched.spares[dieOf s.cur].moving, m.1 ≠ s.rankOf s.cur) →
    (s.jobsOf s.cur .saveImageWrite = [] → s.t.awaited = [] → s.drained = true →
      (g.klr.tdom = true → ∀ r ∈ g.ranks, (s.tile (keyOf r)).thr.preempt = .halted ∨ (s.tile (keyOf r)).thr.preempt = .saved) →
      Runs .saveImageWrite s fun t => Saving s t n g.klr.spill) ∧
    (s.jobsOf s.cur .saveImageWrite = [] → s.t.awaited ≠ [] ∨ s.drained = false → Runs .saveImageWrite s fun t =>
      t = { s with agenda := t.agenda } ∧ ⟨s.now + 1, s.cur, .saveImageWrite⟩ ∈ t.agenda) ∧
    (s.jobsOf s.cur .saveImageWrite ≠ [] → (∀ j ∈ s.jobsOf s.cur .saveImageWrite, ∀ p ∈ j.pieces, p.reply ≠ none) →
      (s.reportRoom (dieOf s.cur) = false → Runs .saveImageWrite s fun t =>
        t = { s with agenda := t.agenda } ∧ ⟨s.now + 1, s.cur, .saveImageWrite⟩ ∈ t.agenda) ∧
      (s.reportRoom (dieOf s.cur) = true → Runs .saveImageWrite s fun t =>
        (∃ r, Reported t (dieOf s.cur) r ∧ r.code = 0x0B ∧ r.rank = s.rankOf s.cur ∧ r.tval = BitVec.ofNat 64 n) ∧
        ((∃ r ∈ g.ranks, keyOf r ≠ s.cur ∧ (s.tile (keyOf r)).thr.preempt ≠ .saved) → t.t.thr.preempt = .saved ∧ t.sched = s.sched) ∧
        ((∀ r ∈ g.ranks, keyOf r ≠ s.cur → (s.tile (keyOf r)).thr.preempt = .saved) → Awake t ∧
          { g with suspended := true, suspending := false } ∈ t.sched.gangs ∧
          (let q : Fin 5 := if g.klr.form then Fin.ofNat 5 g.klr.die.val else 4
           ∃ x, (t.sched.q[q]).head? = some x ∧ x.handle = g.handle ∧ x.resume = true ∧ x.entered = s.now) ∧
          ∀ r ∈ g.ranks, g.klr.spill = true → (t.tile (keyOf r)).thr.st = .none ∧ ∀ a, (t.tile (keyOf r)).spm.get a = 0)))) ∧
  (∀ (d : Fin 4) (s : State),
    (∀ r w, s.rep[d].q = r :: w → s.rep[d].waiting = [] → exec (.reportQueueTake d) s =
      .next { s with rep := s.rep.set d { s.rep[d] with q := w, taken := s.rep[d].taken ++ [r] } }) ∧
    (s.rep[d].q = [] → exec (.reportQueueTake d) s = .next s) ∧
    (∀ r w, s.cur = d.val → s.rep[d].waiting = r :: w → s.rep[d].q.length < 1024 → Runs .reportEnqueue s fun t =>
      t.rep = s.rep.set d { s.rep[d] with q := s.rep[d].q ++ [r], waiting := w } ∧ t.tiles = s.tiles) ∧
    (s.cur = d.val → 1024 ≤ s.rep[d].q.length → exec .reportEnqueue s = .next s))

/-! ## The host and links -/

/-- R380, R381, R383, R384: the doorbell, the entries that stay and those refused, and LAUNCH and DCTR. When a completion ring is full is
a free value (log 28). -/
def Obligations.HostLaunchesAndCounters : Prop :=
  (∀ (q : Fin 64) tail (s : State), Runs (.hostDoorbell q tail) s fun t =>
    ringsOf t = (s.host.mem, if s.mgmt.bootst = 6 then s.host.pair.set q { s.host.pair[q] with tail := tail }
      else s.host.pair) ∧ t.tiles = s.tiles ∧ t.sched = s.sched) ∧
  (∀ i (q : Fin 64) (s : State), (hostKind i).isSome = true → s.cur = q.val →
    ¬ HasEntry s.host.pair[q] ∨ Config.ringFull s.freeCtr = true → Runs i s fun t =>
      ringsOf t = ringsOf s ∧ t.tiles = s.tiles ∧ t.sched = s.sched) ∧
  (∀ i kind used (q : Fin 64) (s : State), hostKind i = some (kind, used) → s.cur = q.val → HasEntry s.host.pair[q] →
    let found := bytesAt (entryOf s q) 0 1
    (found ≠ kind → 1 ≤ found → found ≤ 7 → Runs i s fun t => t = { s with agenda := t.agenda } ∧
      ∃ e ∈ t.agenda, e.due = s.now ∧ e.unit = s.cur ∧ ∃ l, hostKind e.ev = some (found, l)) ∧
    (found = kind ∨ found = 0 ∨ 7 < found → Config.ringFull s.freeCtr = false → ¬ EntryForm (entryOf s q) kind used → Runs i s fun t =>
      AnsweredBy s t q 0x10 0 0 ∧ t.tiles = s.tiles ∧ t.sched = s.sched ∧ t.host.xfer = s.host.xfer)) ∧
  (∀ (q : Fin 64) (s : State), TakesEntry .hostLaunch s q →
    let bs := ((entryOf s q).drop 32).take 128
    let r := Klr.of bs
    let l := s.sched.q[if r.form then Fin.ofNat 5 r.die.val else 4]
    (∀ w, r.refusal bs = some w → Runs .hostLaunch s fun t =>
      AnsweredBy s t q 0x10 0 (2 ^ 32 * w) ∧ t.tiles = s.tiles ∧ t.sched = s.sched) ∧
    (r.refusal bs = none → l.length < 256 → Runs .hostLaunch s fun t =>
      AnsweredBy s t q 1 0 s.sched.handle.toNat ∧ Enqueued s t r 0 (s.rankOf 1023) ∧ t.tiles = s.tiles) ∧
    (r.refusal bs = none → 256 ≤ l.length → Runs .hostLaunch s fun t =>
      AnsweredBy s t q 5 0 0 ∧ t.tiles = s.tiles ∧ t.sched = s.sched)) ∧
  (∀ (q : Fin 64) (s : State), TakesEntry .hostDctr s q →
    let c := bytesAt (entryOf s q) 32 2
    let v := BitVec.ofNat 32 (bytesAt (entryOf s q) 36 4)
    (4096 ≤ c → s.isFrozen 3 c = false → Runs .hostDctr s fun t =>
      AnsweredBy s t q 0x10 0 0 ∧ t.tiles = s.tiles ∧ t.sched = s.sched) ∧
    (c < 4096 → s.isFrozen 3 c = false → Runs .hostDctr s fun t =>
      AnsweredBy s t q 1 0 0 ∧ t.sched.dctr = (if v = 0 then s.sched.dctr.del c else s.sched.dctr.put c v) ∧ Awake t ∧
      t.tiles = s.tiles ∧ ∀ k : Fin 5, (t.sched.q[k]).map Queued.handle = (s.sched.q[k]).map Queued.handle) ∧
    (s.isFrozen 3 c = true → Runs .hostDctr s fun t =>
      ringsOf t = ringsOf s ∧ t.sched = s.sched ∧ t.tiles = s.tiles))

/-- R294, R370, R382, R383, R385: ABORT, SEND, RECV, CANCEL and HWIN. What an abort does with messages on their way is the model's reading
(log 48). -/
def Obligations.HostMessages : Prop :=
  (∀ (q : Fin 64) (s : State), TakesEntry .hostAbort s q →
    let h := BitVec.ofNat 32 (bytesAt (entryOf s q) 32 4)
    (∀ g, s.gang h = some g → Runs .hostAbort s fun t =>
      EntryStays s t ∧ (∃ x ∈ t.sched.gangs, x.handle = h ∧ q ∈ x.aborts) ∧ t.sched.q = s.sched.q ∧ t.sched.saves = s.sched.saves) ∧
    (s.gang h = none → (h, q) ∈ s.sched.aborted → Runs .hostAbort s fun t =>
      AnsweredBy s t q 1 0 0 ∧ t.sched = { s.sched with aborted := s.sched.aborted.erase (h, q) } ∧ t.tiles = s.tiles) ∧
    (s.gang h = none → (h, q) ∉ s.sched.aborted → (∃ k : Fin 5, ∃ x ∈ s.sched.q[k], x.handle = h) → Runs .hostAbort s fun t =>
      AnsweredBy s t q 0x12 0 0 ∧ (∀ k : Fin 5, t.sched.q[k] = (s.sched.q[k]).filter fun x => x.handle != h) ∧
      t.tiles = s.tiles ∧ t.sched.dctr = s.sched.dctr ∧ Awake t) ∧
    (s.gang h = none → (h, q) ∉ s.sched.aborted → (∀ k : Fin 5, ∀ x ∈ s.sched.q[k], x.handle ≠ h) → Runs .hostAbort s fun t =>
      AnsweredBy s t q 0x11 0 0 ∧ t.sched = s.sched ∧ t.tiles = s.tiles)) ∧
  (∀ g (s : State), s.sched.gangs.filter (fun x => !x.aborts.isEmpty) = [g] → s.gang g.handle = some g →
    let t := s.abortCycle
    ((∀ r ∈ g.ranks, MemberEnds s g r) →
      (∀ x ∈ t.sched.gangs, x.handle ≠ g.handle) ∧ (∀ v ∈ t.sched.saves, v.tile.thr.gang ≠ some g.handle) ∧
      (∀ k : Fin 5, ∀ x ∈ t.sched.q[k], x.handle ≠ g.handle) ∧ (∀ q ∈ g.aborts, (g.handle, q) ∈ t.sched.aborted) ∧
      t.sched.dctr = s.sched.dctr ∧ Awake t ∧
      (∀ r ∈ g.ranks, (s.tile (keyOf r)).thr.gang = some g.handle → (t.tile (keyOf r)).thr = Thread.reset) ∧
      ∃ r, Reported t 0 r ∧ r.code = 0x30 ∧ r.tval = BitVec.ofNat 64 g.handle.toNat) ∧
    ((∃ r ∈ g.ranks, ¬ MemberEnds s g r ∧ (s.tile (keyOf r)).thr.gang = some g.handle) →
      t.gang g.handle = some g ∧ t.sched = s.sched)) ∧
  (∀ i (q : Fin 64) (s : State), i = .hostSend ∨ i = .hostRecv → TakesEntry i s q →
    (∀ k < 4096, ∃ x, s.host.xfer.find k = some x ∧ x.used = true) → Runs i s fun t => EntryStays s t ∧ t.net = s.net) ∧
  (∀ (q : Fin 64) (s : State) k, TakesEntry .hostSend s q → FreeHostSlot s k →
    let ty := bytesAt (entryOf s q) 42 1
    let len := bytesAt (entryOf s q) 44 4
    let x := hostXfer s q k false
    let e : Env := ⟨s.rankOf 1023, x.mtag, x.group, x.etype, x.nan, true, false, len, x.peer,
      BitVec.ofNat 16 (k + 4096 * (hostSeq s k).toNat)⟩
    (32 ≤ ty ∨ ty % 16 = 15 ∨ 1048576 < len → Runs .hostSend s fun t =>
      AnsweredBy s t q 0x10 0 0 ∧ t.host.xfer = s.host.xfer ∧ t.net = s.net) ∧
    (ty < 32 → ty % 16 ≠ 15 → len ≤ 1048576 → destOk x.peer = true →
      (∀ u ∈ s.host.kept, u.pkt.dst ≠ x.peer) → Runs .hostSend s fun t =>
        AnsweredBy s t q 0 0 (hostId s k) ∧ t.host.xfer.find k = some x ∧ OnItsWay t (message e []) ∧ t.tiles = s.tiles) ∧
    (ty < 32 → ty % 16 ≠ 15 → len ≤ 1048576 → destOk x.peer = false → Runs .hostSend s fun t =>
      ringsOf t = answerTo (answerTo (headTaken (ringsOf s) q) q (bytesAt (entryOf s q) 2 2) 0 0 (hostId s k)) q
        (bytesAt (entryOf s q) 2 2) 2 0x82 (hostId s k + 2 ^ 32 * len) ∧
      t.host.xfer.find k = some { x with used := false } ∧ t.net = s.net)) ∧
  (∀ (q : Fin 64) (s : State) k, TakesEntry .hostRecv s q → FreeHostSlot s k →
    let x := hostXfer s q k true
    let tag := bytesAt (entryOf s q) 2 2
    let opened := answerTo (headTaken (ringsOf s) q) q tag 0 0 (hostId s k)
    let fits (h : Env × Option Nat) : Prop := Matches ⟨x.peer, x.mtag, x.tmask, x.group, 0, 0, 0⟩ h.1
    (1048576 < x.len → Runs .hostRecv s fun t => AnsweredBy s t q 0x10 0 0 ∧ t.host.xfer = s.host.xfer) ∧
    (x.len ≤ 1048576 → (∀ h ∈ s.host.headers, ¬ fits h) → s.host.posted.length < 1024 → Runs .hostRecv s fun t =>
      ringsOf t = opened ∧ t.host.posted = s.host.posted ++ [k] ∧ t.host.xfer.find k = some x ∧ t.tiles = s.tiles) ∧
    (x.len ≤ 1048576 → (∀ h ∈ s.host.headers, ¬ fits h) → 1024 ≤ s.host.posted.length → Runs .hostRecv s fun t =>
      ringsOf t = answerTo opened q tag 5 0 (hostId s k + 2 ^ 32 * x.len) ∧ t.host.posted = s.host.posted) ∧
    (∀ e g, x.len ≤ 1048576 → IsFirst s.host.headers fits (e, some g) → Runs .hostRecv s fun t =>
      ringsOf t = answerTo (wroteHost opened x.haddr
          (opened.1.read (s.host.hampBase.toNat + 64 * g) (min e.len x.len))) q tag (if e.len ≤ x.len then 1 else 3)
        e.src.toNat (hostId s k + 2 ^ 32 * e.len) ∧
      t.host.headers = s.host.headers.erase (e, some g) ∧ t.host.posted = s.host.posted) ∧
    (∀ e, x.len ≤ 1048576 → min e.len x.len = 0 → IsFirst s.host.headers fits (e, none) → Runs .hostRecv s fun t =>
      ringsOf t = answerTo opened q tag (if e.len = 0 then 1 else 3) e.src.toNat (hostId s k + 2 ^ 32 * e.len) ∧
      t.host.headers = s.host.headers.erase (e, none) ∧ OnItsWay t (reply e 0x07 0 0)) ∧
    (∀ e, x.len ≤ 1048576 → 0 < min e.len x.len → IsFirst s.host.headers fits (e, none) → Runs .hostRecv s fun t =>
      ringsOf t = opened ∧ t.host.headers = s.host.headers.erase (e, none) ∧
      t.host.xfer.find k = some { x with matched := true } ∧ OnItsWay t (reply e 0x02 0 (min e.len x.len)))) ∧
  (∀ (q : Fin 64) (s : State), TakesEntry .hostCancel s q →
    let id := bytesAt (entryOf s q) 32 4
    let k := id % 4096
    let names (x : HXfer) : Prop := s.host.xfer.find k = some x ∧ (k + 4096 * x.seq.toNat) % 2 ^ 32 = id ∧ x.recv = true
    (∀ x, names x → x.used = true → k ∈ s.host.posted → Runs .hostCancel s fun t =>
      ringsOf t = answerTo (answerTo (headTaken (ringsOf s) q) q (bytesAt (entryOf s q) 2 2) 1 0 0) x.q x.tag.toNat 4 0
        (id + 2 ^ 32 * x.len) ∧
      t.host.posted = s.host.posted.erase k ∧ t.host.xfer.find k = some { x with used := false }) ∧
    (∀ x, names x → x.used = false ∨ k ∉ s.host.posted → Runs .hostCancel s fun t =>
      AnsweredBy s t q 1 0 1 ∧ t.host.posted = s.host.posted ∧ t.host.xfer = s.host.xfer) ∧
    ((∀ x, ¬ names x) → Runs .hostCancel s fun t =>
      AnsweredBy s t q 1 0 2 ∧ t.host.posted = s.host.posted ∧ t.host.xfer = s.host.xfer)) ∧
  (∀ (q : Fin 64) (s : State), TakesEntry .hostHwin s q →
    let r : Rank := BitVec.ofNat 32 (bytesAt (entryOf s q) 32 4)
    let x := s.tile (keyOf r)
    (x.isSpec = true → Runs .hostHwin s fun t => EntryStays s t) ∧
    (x.isSpec = false → s.isLocal r = true → (∃ v ∈ s.sched.saves, v.rank = r) ∨ x.thr.st = .suspended → Runs .hostHwin s fun t =>
      AnsweredBy s t q 8 0 0 ∧ t.tiles = s.tiles) ∧
    (x.isSpec = false → s.isLocal r = false ∨ ((∀ v ∈ s.sched.saves, v.rank ≠ r) ∧ x.thr.st = .none) → Runs .hostHwin s fun t =>
      AnsweredBy s t q 0x11 0 0 ∧ t.tiles = s.tiles) ∧
    (x.isSpec = false → s.isLocal r = true → (∀ v ∈ s.sched.saves, v.rank ≠ r) → x.thr.st ≠ .suspended → x.thr.st ≠ .none →
      Runs .hostHwin s fun t => AnsweredBy s t q 1 0 0 ∧ (∀ k, k ≠ keyOf r → t.tile k = s.tile k) ∧
        t.tile (keyOf r) = { x with msg := { x.msg with ingress := [], released := x.msg.released ++ x.msg.ingress } }))

/-- R63-R65, R69-R71, R74-R76: what a scale-up port does with flits, its training, how a packet for another module leaves, and the latency and
the arbitration of the mesh. Credits, views and spray ports are free values (logs 29, 71). -/
def Obligations.PortsRun : Prop :=
  ((∀ (k : Fin 18) f (s : State), (s.net.port[k]).up = false →
    exec (.data k f) s = .next s ∧ exec (.idle k f) s = .next s ∧ exec (.nak k f) s = .next s) ∧
  (∀ (k : Fin 18) f i (s : State), let p := s.net.port[k]
    p.up = true → i = Instr.data k f ∨ i = .idle k f ∨ i = .nak k f →
    (Broken f → Runs i s fun t => PortNow s t k { p with nakSent := true } [portFlit p 2 []]) ∧
    (i = .data k f → ¬ Broken f → f.fseq ≠ nextFlit p →
      (p.nakSent = true → exec i s = .next s) ∧
      (p.nakSent = false → Runs i s fun t => PortNow s t k { p with nakSent := true } [portFlit p 2 []]))) ∧
  (∀ (k : Fin 18) f (s : State), let p := s.net.port[k]
    p.up = true → ¬ Broken f →
    (f.fseq = nextFlit p →
      let bs := p.part ++ f.payload
      let pkt := packetOf bs
      let q := heard { p with good := f.fseq, goodv := true, nakSent := false } f
      let back (q : Port) : List Flit := [{ portFlit q 1 [] with ccls := pkt.cls, ccnt := 1 }]
      (bs.length < 32 + headerLen bs → Runs (.data k f) s fun t => PortNow s t k { q with part := bs } (back q)) ∧
      (32 + headerLen bs ≤ bs.length → Runs (.data k f) s fun t => PortNow s t k { q with part := [] } (back q) ∧
        (s.isLocal pkt.dst = false → ⟨s.now, 1022, .switchDieForward pkt⟩ ∈ t.agenda) ∧
        (s.isLocal pkt.dst = true → (pktEvent pkt).isSome = true → InFabric t pkt) ∧
        (s.isLocal pkt.dst = true → pktEvent pkt = none → ∃ r, Reported t (dieOf (keyOf pkt.dst)) r ∧
          r.code = 0x33 ∧ r.tval = BitVec.ofNat 64 (pkt.src.toNat + 2 ^ 32 * pkt.kind.toNat)))) ∧
    (Runs (.idle k f) s fun t => PortNow s t k (heard p f) []) ∧
    (let n := if p.naks ≠ 0 ∧ p.lastNak = f.ackseq then p.naks + 1 else 1
      let q := { heard p f with naks := n, lastNak := f.ackseq }
      (n ≠ 8 → Runs (.nak k f) s fun t => PortNow s t k q (again q)) ∧
      (n = 8 → s.mgmt.bootst.toNat < 0x80 → Runs (.nak k f) s fun t => Trains s t k q)))) ∧
  ((∀ (k : Fin 18) i (s : State), i = Instr.linkUp k ∨ i = .lossOfLock k ∨ i = .portRetrainCommand k →
    ((s.net.port[k]).failed = false ∨ i = .portRetrainCommand k → s.mgmt.bootst.toNat < 0x80 →
      Runs i s fun t => Trains s t k s.net.port[k]) ∧
    (0x80 ≤ s.mgmt.bootst.toNat ∨ ((s.net.port[k]).failed = true ∧ i ≠ .portRetrainCommand k) → exec i s = .next s)) ∧
  (∀ (k : Fin 18) f (s : State), let p := s.net.port[k]
    let far : View := BitVec.ofNat 27 (ofBytes (f.payload.take 4))
    (p.training = false ∨ Broken f → exec (.train k f) s = .next s) ∧
    (p.training = true → ¬ Broken f → far = p.view → Runs (.train k f) s fun t =>
      let q := { heard p f with up := true, training := false, nakSent := false, naks := 0 }
      let q := { q with fseq := if q.replay ≠ [] then p.fseq else if f.ackv then f.ackseq + 1 else 0 }
      PortNow s t k { q with credits := Vector.replicate 3 Config.portCredits } (again q)) ∧
    (p.training = true → ¬ Broken f → far ≠ p.view → Runs (.train k f) s fun t =>
      PortNow s t k { p with training := false, failed := true } [] ∧
      ∃ r, Reported t 0 r ∧ r.code = 0x28 ∧ r.tval = portVal k p.view far)) ∧
  (∀ (k : Fin 18) (s : State), let p := s.net.port[k]
    (p.training = true → p.trainAt + 65536 ≤ s.now → Runs (.linkTimeout k) s fun t =>
      PortNow s t k { p with training := false, failed := true } [] ∧
      ∃ r, Reported t 0 r ∧ r.code = 0x29 ∧ r.tval = portVal k p.view 0) ∧
    (p.training = false ∨ s.now < p.trainAt + 65536 → exec (.linkTimeout k) s = .next s) ∧
    (p.up = false → p.downAt + 65536 ≤ s.now → Runs (.replayBufferDrop k) s fun t =>
      PortNow s t k { p with replay := [], part := [] } []) ∧
    (p.up = true ∨ s.now < p.downAt + 65536 → exec (.replayBufferDrop k) s = .next s))) ∧
  ((∀ (p : Packet) (s : State),
    ((∀ e, ¬ Routes s (pkgOf p.dst) e) → Runs (.switchDieForward p) s fun t =>
      (∃ r, Reported t 0 r ∧ r.code = 0x32 ∧ r.tval = BitVec.ofNat 64 (pkgOf p.dst)) ∧ t.net.out = s.net.out ∧
      t.net.flits = s.net.flits ∧ t.net.port = s.net.port ∧ t.tiles = s.tiles ∧
      (p.kind.toNat ≤ 1 → InFabric t (mkPacket p.dst p.src 0x08 p.group p.xid 6 0 [])) ∧
      (p.kind.toNat = 2 → InFabric t { mkPacket p.dst p.src 0x08 p.group p.xid 6 0 [] with ext := 1 }) ∧
      (p.kind.toNat = 0x10 → ∃ q, InFabric t q ∧ q.dst = p.src ∧ q.kind = 0x11 ∧ q.xid = p.xid ∧
        ofBytes (q.payload.take 2) = 2 + 2 ^ 8 * 0x82)) ∧
    (∀ e, Routes s (pkgOf p.dst) e → e.getLsbD 21 = true → Runs (.switchDieForward p) s fun t =>
      ∃ k : Fin 8, t.net = { s.net with uet := s.net.uet.set k (s.net.uet[k] ++ [(pastCore s p, p)]) } ∧ t.tiles = s.tiles ∧
        (e.getLsbD 22 = true → k.val = pkgOf p.dst % 8)) ∧
    (∀ e k, Routes s (pkgOf p.dst) e → e.getLsbD 21 = false → ChosenPort s e k →
      let q := s.net.port[k]
      let c : Fin 3 := Fin.ofNat 3 p.cls.toNat
      Runs (.switchDieForward p) s fun t =>
        PortNow s t k { q with queue := q.queue.set c (q.queue[c] ++ [(pastCore s p, p)]) } [] ∧ t.net.out = s.net.out) ∧
    (∀ e, Routes s (pkgOf p.dst) e → e.getLsbD 21 = false → (∀ k, ¬ Listed s e k) → Runs (.switchDieForward p) s fun t =>
      ⟨s.now + 1024, 1022, .switchDieForward p⟩ ∈ t.agenda ∧ t.net = s.net ∧ t.tiles = s.tiles)) ∧
  (∀ k c ready p (s : State), OnlyQueue s k c [(ready, p)] →
    let q := s.net.port[k]
    let fs := packetFlits q p
    let may : Prop := q.up = true ∧ ready ≤ s.now ∧ q.replay.length + fs.length ≤ 512 ∧ fs.length ≤ q.credits[c]
    (may → PortNow s s.portCycle k { q with
        fseq := q.fseq + BitVec.ofNat 12 fs.length
        replay := q.replay ++ fs
        credits := q.credits.set c (q.credits[c] - fs.length)
        queue := q.queue.set c [] } fs ∧
      s.portCycle.net.out = s.net.out ++ [(k.val, p)]) ∧
    (¬ may → s.portCycle = s)) ∧
  (∀ (k : Fin 8) ready p (s : State), s.net.uet[k] = [(ready, p)] → (∀ j, j ≠ k → s.net.uet[j] = []) →
    (∀ (j : Fin 18) (c : Fin 3), (s.net.port[j]).queue[c] = []) →
    (s.now < ready → s.portCycle = s) ∧
    (ready ≤ s.now → s.portCycle = { s with
      freeCtr := s.freeCtr + 1
      net := if Config.uetHolds s.freeCtr then s.net
        else { s.net with uet := s.net.uet.set k [], out := s.net.out ++ [(18 + k.val, p)] } })) ∧
  (∀ a b p (s : State), a / 1024 = b / 1024 → onSwitch a = false → onSwitch b = false →
    wayCost (s.wayOf p a b) = 1 + 2 * s.legHops a b + 1 + (p.payload.length - 96 + 127) / 128) ∧
  (∀ l o now x, winner l o now = some x → x ∈ l ∧ x.path.head? = some o.port ∧
    ∀ y ∈ l, y.asks l o.port now = true → x.rank now ≤ y.rank now))

/-- R72, R73: packets of a pair are handled in sequence; acknowledgements, CLOSE and CLOSEACK; resends, the end of a pair, waiting for a
peer entry, and the registers (log 33). -/
def Obligations.PairsKeepOrder : Prop :=
  ((∀ i p (s : State), Sequenced i p →
    let q := pairUsed s p
    let d := (p.seq - q.expected).toNat
    let die := dieOf (keyOf p.dst)
    (HasRoom s p → d = 0 → q.held = [] → p.kind.toNat ≤ 8 → ∃ u j, pktEvent { p with sv := false } = some j ∧ exec i s = exec j u ∧
      PairNow s u { q with expected := q.expected + 1 } ∧ InFabric u (ackOf p (q.expected + 1))) ∧
    (HasRoom s p → 0 < d → d < 256 → (∀ x ∈ q.held, x.seq ≠ p.seq) → s.net.store[die] + (32 + p.payload.length) ≤ 0x200000 →
      Runs i s fun t => PairNow s t { q with held := q.held ++ [p] } ∧ InFabric t (ackOf p q.expected) ∧
        t.net.store = s.net.store.set die (s.net.store[die] + (32 + p.payload.length))) ∧
    (HasRoom s p → 0 < d → d < 256 → (∃ x ∈ q.held, x.seq = p.seq) → Runs i s fun t =>
      t.net.peers = s.net.peers ∧ t.tiles = s.tiles ∧ InFabric t (ackOf p q.expected)) ∧
    (HasRoom s p → 0 < d → d < 256 → (∀ x ∈ q.held, x.seq ≠ p.seq) → 0x200000 < s.net.store[die] + (32 + p.payload.length) →
      exec i s = .next s) ∧
    (HasRoom s p → 256 ≤ d → Runs i s fun t => PairNow s t q ∧ InFabric t (ackOf p q.expected) ∧
      (t.e2e (keyOf p.dst)).dup.toNat = min ((s.e2e (keyOf p.dst)).dup.toNat + 1) (2 ^ 32 - 1)) ∧
    (¬ HasRoom s p → (∀ x ∈ s.net.peers, x.dst = p.dst → x.rx = true → x.held ≠ [] ∨ x.rxClosing = true) →
      exec i s = .next s) ∧
    (¬ HasRoom s p → (∀ x ∈ s.net.peers, x.rxClosing = false) → (∃ x ∈ s.net.peers, x.dst = p.dst ∧ x.rx = true ∧ x.held = []) →
      Runs i s fun t => t.tiles = s.tiles ∧ ∃ x ∈ s.net.peers, x.dst = p.dst ∧ x.rx = true ∧ x.held = [] ∧
        (∀ y ∈ s.net.peers, y.dst = p.dst → y.rx = true → y.held = [] → x.rxUse ≤ y.rxUse) ∧
        InFabric t { mkPacket x.dst x.src 0x21 0 0 0 0 [] with seq := x.expected - 1, ext := 1 })) ∧
  (∀ p q (s : State), Plain p 0x20 → s.peer p.dst p.src = some q →
    let left := q.unacked.filter fun x => decide (2 ^ 31 ≤ (p.seq - x.seq).toNat)
    Runs (.e2eack p) s fun t => PairNow s t { q with
      unacked := left
      tries := if left.length < q.unacked.length then 0 else q.tries
      lastUse := if left.length < q.unacked.length then s.now else q.lastUse }) ∧
  (∀ p (s : State), Plain p 0x20 → s.peer p.dst p.src = none → exec (.e2eack p) s = .next s) ∧
  (∀ p q (s : State), Plain p 0x21 → s.peer p.src p.dst = some q → p.ext = 0 →
    let gone : Peer := { q with expected := 0, held := [], rx := false, rxClosing := false, lost := [] }
    ((if s.isLocal p.src then q.lost = [] else q.expected = p.seq + 1) → Runs (.close p) s fun t =>
      PairNow s t gone ∧ InFabric t (mkPacket p.dst p.src 0x22 0 0 0 0 [])) ∧
    (∀ u c, (if s.isLocal p.src then u.env.sxid ∈ q.lost else q.expected ≠ p.seq + 1) → isHostKey s.cur = false →
      (∀ v ∈ s.sched.saves, v.rank ≠ s.rankOf s.cur) → s.t.msg.pulls = [u] → u.env.src = p.src → InProgress s.t u.xid c →
      Runs (.close p) s fun t =>
        t.t.msg.pulls = [] ∧ t.t.cpl = s.t.cpl.set (slotIx u.xid) (ended c s.now 6 c.length 0) ∧
        t.peer q.src q.dst = some gone ∧ InFabric t (mkPacket p.dst p.src 0x22 0 0 0 0 []))) ∧
  (∀ p (s : State), Plain p 0x21 → p.ext = 0 → s.peer p.src p.dst = none → Runs (.close p) s fun t =>
    t.net.peers = s.net.peers ∧ t.tiles = s.tiles ∧ InFabric t (mkPacket p.dst p.src 0x22 0 0 0 0 [])) ∧
  (∀ p (s : State), Plain p 0x21 → p.ext ≠ 0 →
    (∀ q, s.peer p.dst p.src = some q → q.unacked = [] → q.closing = false → q.next = p.seq + 1 → Runs (.close p) s fun t =>
      PairNow s t { q with next := 0 } ∧ InFabric t { mkPacket p.dst p.src 0x22 0 0 0 0 [] with ext := 1 }) ∧
    ((∀ q, s.peer p.dst p.src = some q → q.unacked ≠ [] ∨ q.closing = true ∨ q.next ≠ p.seq + 1) →
      exec (.close p) s = .next s)) ∧
  (∀ p (s : State), Plain p 0x22 → p.ext = 0 → Runs (.closeack p) s fun t =>
    t.net.peers = s.net.peers.filter (fun q => !(q.src == p.dst && q.dst == p.src && q.closing)) ∧ t.tiles = s.tiles ∧
    ((∃ w ∈ s.net.waiting, w.2.src = p.dst) → ⟨s.now, keyOf p.dst, .e2ePeerEntryTake p.dst⟩ ∈ t.agenda)) ∧
  (∀ p (s : State), Plain p 0x22 → p.ext ≠ 0 →
    (∀ q, s.peer p.src p.dst = some q → q.rxClosing = true → Runs (.closeack p) s fun t =>
      PairNow s t { q with expected := 0, held := [], rx := false, rxClosing := false, lost := [] }) ∧
    ((∀ q, s.peer p.src p.dst = some q → q.rxClosing = false) → exec (.closeack p) s = .next s))) ∧
  ((∀ src dst q (s : State), s.peer src dst = some q →
    let e := s.e2e (keyOf src)
    let limit := e.ctl.toNat % 2 ^ 16 * 64
    let tries := e.ctl.toNat / 2 ^ 16 % 8
    let i : Instr := .e2eRetransmitTimeout src dst
    (q.unacked = [] → exec i s = .next s) ∧
    (q.unacked ≠ [] → s.now < q.lastUse + limit → Runs i s fun t => t.tiles = s.tiles ∧ t.net = s.net ∧
      ⟨q.lastUse + limit, keyOf src, i⟩ ∈ t.agenda) ∧
    (q.unacked ≠ [] → q.lastUse + limit ≤ s.now → q.tries < tries → Runs i s fun t =>
      PairNow s t { q with tries := q.tries + 1, lastUse := s.now } ∧
      (∀ x ∈ q.unacked, s.isLocal x.dst = false ∨ (pktEvent x).isSome = true → InFabric t x) ∧
      (t.e2e (keyOf src)).retx.toNat = min (e.retx.toNat + q.unacked.length) (2 ^ 32 - 1) ∧
      ⟨s.now + limit, keyOf src, i⟩ ∈ t.agenda) ∧
    (∀ x, q.unacked = [x] → q.lastUse + limit ≤ s.now → tries ≤ q.tries → Runs i s fun t =>
      t.peer src dst = some { q with
        next := 0
        unacked := []
        tries := 0
        lastUse := s.now
        lost := q.lost ++ if x.kind.toNat ≤ 3 ∧ x.kind.toNat ≠ 2 then [x.xid] else [] } ∧
      InFabric t { mkPacket src dst 0x21 0 0 0 0 [] with seq := q.next - 1 } ∧
      (∃ r, Reported t (dieOf (keyOf src)) r ∧ r.code = 0x2A ∧ r.rank = src ∧ r.tval = BitVec.ofNat 64 dst.toNat) ∧
      ∀ c, x.kind.toNat ≤ 1 → isHostKey (keyOf x.src) = false → InProgress (s.tile (keyOf x.src)) x.xid c →
        c.op = .send ∨ c.op = .ssend → c.x.peer = x.dst → (∀ v ∈ s.sched.saves, v.rank ≠ x.src) → (t.tile (keyOf x.src)).cpl[slotIx x.xid] = ended c s.now 6 c.length 0)) ∧
  (∀ src dst (s : State), s.peer src dst = none → exec (.e2eRetransmitTimeout src dst) s = .next s) ∧
  (∀ w src (s : State), s.net.waiting = [w] → w.2.src = src → s.peer src w.2.dst = none →
    ((s.net.peers.filter fun q => q.src == src).length < 1024 → s.isLocal w.2.dst = false ∨ (pktEvent w.2).isSome = true →
      Runs (.e2ePeerEntryTake src) s fun t => t.net.waiting = [] ∧ t.tiles = s.tiles ∧ OnItsWay t w.2 ∧
        ∃ q, t.peer src w.2.dst = some q ∧ q.next = 1 ∧ q.unacked = [{ w.2 with sv := true, seq := 0 }]) ∧
    (1024 ≤ (s.net.peers.filter fun q => q.src == src).length → (∀ q ∈ s.net.peers, q.src = src → q.closing = false) →
      (∃ q ∈ s.net.peers, q.src = src ∧ q.unacked = []) → Runs (.e2ePeerEntryTake src) s fun t =>
        t.net.waiting = s.net.waiting ∧ t.tiles = s.tiles ∧ ∃ q ∈ s.net.peers, q.src = src ∧ q.unacked = [] ∧
          (∀ x ∈ s.net.peers, x.src = src → x.unacked = [] → q.lastUse ≤ x.lastUse) ∧
          t.peer src q.dst = some { q with closing := true } ∧
          InFabric t { mkPacket src q.dst 0x21 0 0 0 0 [] with seq := q.next - 1 }) ∧
    (1024 ≤ (s.net.peers.filter fun q => q.src == src).length → (∀ q ∈ s.net.peers, q.src = src → q.unacked ≠ []) →
      exec (.e2ePeerEntryTake src) s = .next s)) ∧
  (∀ src (s : State), (∀ w ∈ s.net.waiting, w.2.src ≠ src) → exec (.e2ePeerEntryTake src) s = .next s) ∧
  (∀ p n (s : State), s.net.waiting = [(n, p)] → Runs (.e2eAbandon p) s fun t => t.net.waiting = [] ∧
    (∃ r, Reported t (dieOf (keyOf p.src)) r ∧ r.code = 0x2A ∧ r.rank = p.src ∧ r.tval = BitVec.ofNat 64 p.dst.toNat) ∧
    ∀ c, p.kind.toNat ≤ 1 → isHostKey (keyOf p.src) = false → InProgress (s.tile (keyOf p.src)) p.xid c →
      c.op = .send ∨ c.op = .ssend → c.x.peer = p.dst → (∀ v ∈ s.sched.saves, v.rank ≠ p.src) → (t.tile (keyOf p.src)).cpl[slotIx p.xid] = ended c s.now 6 c.length 0) ∧
  (∀ p (s : State), (∀ w ∈ s.net.waiting, w.2 ≠ p) → exec (.e2eAbandon p) s = .next s) ∧
  (∀ (r : Rank) (v : W32) (s : State), let e := s.e2e (keyOf r)
    exec (.e2ectlWrite r v) s = .next { s with net := { s.net with e2e := s.net.e2e.put (keyOf r) { e with
      ctl := BitVec.ofNat 32 ((if v.toNat % 2 ^ 16 = 0 then e.ctl.toNat % 2 ^ 16 else v.toNat % 2 ^ 16) +
        2 ^ 16 * (v.toNat / 2 ^ 16 % 8)) } } } ∧
    exec (.e2edupRead r) s = .next { s with
      net := { s.net with e2e := s.net.e2e.put (keyOf r) { e with dup := 0 } }
      mgmt := { s.mgmt with readback := s.mgmt.readback ++ [e.dup.setWidth 64] } } ∧
    exec (.e2eretxRead r) s = .next { s with
      net := { s.net with e2e := s.net.e2e.put (keyOf r) { e with retx := 0 } }
      mgmt := { s.mgmt with readback := s.mgmt.readback ++ [e.retx.setWidth 64] } }))

/-! ## Management -/

/-- R386-R389: power-on, the management commands, and the responder's answers with its transcript and signatures. What power-on keeps
(log 51) and the SPDM codes (log 52) are the model's. -/
def Obligations.ManagementCommands : Prop :=
  ((∀ (b : BootInput) r (s : State), ¬ GoodImage b.primary → ImageReason b.backup r →
    (∀ f, b.selfTest = some f → 3 ≤ f.stage.val) → Runs (.powerOn b) s fun t => SafeState t 3 r 4 0 0) ∧
  (∀ (b : BootInput) img f (s : State), b.selfTest = some f → BootsFrom b img ∨ f.stage.val < 3 → Runs (.powerOn b) s fun t =>
    SafeState t f.stage.val f.reason.toNat f.die.toNat f.unit.toNat f.detail.toNat) ∧
  (∀ (b : BootInput) img (s : State), BootsFrom b img → b.selfTest = none → bootId s b = 0xFFFFF → Runs (.powerOn b) s fun t =>
    SafeState t 5 Config.badPackageReason.toNat 4 0 0) ∧
  (∀ (b : BootInput) img (s : State), BootsFrom b img → b.selfTest = none → bootId s b ≠ 0xFFFFF → Runs (.powerOn b) s fun t =>
    t.mgmt.bootst = 6 ∧ t.mgmt.pkg = bootId s b ∧ t.mgmt.boot = some b ∧ t.agenda = [] ∧ t.turn = [] ∧ t.hbm = [] ∧ t.far = [] ∧
    (∀ d : Fin 4, (t.tile (d.val * 1024 + 306)).thr.st = .running ∧ (t.tile (d.val * 1024 + 306)).thr.pc = 0 ∧
      (t.tile (d.val * 1024 + 306)).csr.isapin = 3 ∧
      ∀ a, (t.tile (d.val * 1024 + 306)).imem.get a = (Config.supervisorCode img).getD a 0) ∧
    (∀ k, k ∉ [306, 1330, 2354, 3378] → t.tile k = Tile.reset) ∧
    (∀ d : Fin 4, ∀ n : Fin 8, (d, n) ∈ b.badSpares ↔ n.val ∈ (t.sched.spares[d]).bad) ∧
    t.net = State.reset.net ∧ t.sched.gangs = [] ∧ t.red = State.reset.red)) ∧
  ((∀ (s : State), exec .status s = .next (Replied s (.status s.mgmt.bootst s.mgmt.temp s.mgmt.watts s.mgmt.pwrctl))) ∧
  (∀ (p : BitVec 20) (s : State), exec (.setpkg p) s =
    .next (if s.mgmt.bootst.toNat % 128 < 5 ∧ p ≠ 0xFFFFF then
        Replied { s with mgmt := { s.mgmt with pkgSet := some p } } .ok
      else Replied s .refused)) ∧
  (∀ (b n : W64) (s : State), exec (.sethamp b n) s =
    .next (if 0x100000 ≤ n.toNat ∧ n.toNat ≤ 0x4000000 then
        Replied { s with host := { s.host with hampBase := b, hampSize := n } } .ok
      else Replied s .refused)) ∧
  (∀ (v : W32) (s : State), exec (.setpwr v) s =
    .next (if 1200 ≤ v.toNat % 2 ^ 12 ∧ v.toNat % 2 ^ 12 ≤ 3600 then
        Replied { s with mgmt := { s.mgmt with pwrctl := BitVec.ofNat 32 (v.toNat % 2 ^ 18) } } .ok
      else Replied s .refused)) ∧
  (∀ (r : Rank) (n : BitVec 4) (s : State), exec (.armspare r n) s =
    .next (if s.isLocal r = true ∧ isCompute (keyOf r) = true then
        let d := dieOf (keyOf r)
        Replied { s with sched := { s.sched with
          spares := s.sched.spares.set d { s.sched.spares[d] with armed := some (r, n) } } } .ok
      else Replied s .refused)) ∧
  (∀ (k : Fin 18) (s : State), exec (.retrain k) s =
    .next (Replied { s with mgmt := { s.mgmt with retrainAsks := s.mgmt.retrainAsks ++ [k] } } .ok)) ∧
  (∀ (k : Nat) (s : State), exec (.readctr k) s =
    .next (Replied s (.value ((counterAt s k).setWidth 64)))) ∧
  (∀ (m : Fin 64) (s : State),
    ((s.moon m.val).stopped = false → exec (.resetmoon m) s = .next (Replied s .refused)) ∧
    ((s.moon m.val).stopped = true → Runs (.resetmoon m) s fun t =>
      t.moon m.val = { s.moon m.val with restarted := true } ∧ (∀ j, j ≠ m.val → t.moon j = s.moon j) ∧
      t.mgmt.replies = s.mgmt.replies ++ [.ok] ∧ t.tiles = s.tiles ∧ t.hbm = s.hbm))) ∧
  (∀ (req : List Byte) (s : State),
    exec (.getVersion req) s = .next (Answer s 0x04 req (Config.spdmBody 0x04 req) [] false) ∧
    exec (.getCapabilities req) s =
      .next (Answer s 0x61 req (Config.spdmBody 0x61 req) s.mgmt.transcript s.mgmt.algo) ∧
    exec (.negotiateAlgorithms req) s =
      .next (Answer s 0x63 req (Config.spdmBody 0x63 req) s.mgmt.transcript (Config.offersAlgorithms req)) ∧
    exec (.getDigests req) s = .next (Answer s 0x01 req (Config.spdmBody 0x01 req) s.mgmt.transcript s.mgmt.algo) ∧
    (∀ slot, exec (.getCertificate slot req) s =
      .next (Answer s 0x02 req (Config.certChain slot) s.mgmt.transcript s.mgmt.algo)) ∧
    exec (.getMeasurements false req) s = .next (Answer s 0x60 req (measured s) s.mgmt.transcript s.mgmt.algo) ∧
    (s.mgmt.algo = true →
      exec (.challenge req) s = .next (SignedAnswer s 0x03 req (Config.spdmBody 0x03 req)) ∧
      exec (.getMeasurements true req) s = .next (SignedAnswer s 0x60 req (measured s))) ∧
    (s.mgmt.algo = false → exec (.challenge req) s = .next (Replied s .refused) ∧
      exec (.getMeasurements true req) s = .next (Replied s .refused)) ∧
    (∀ h, s.mgmt.lastSigned = some h → exec (.lmssig req) s = .next (Replied s (.lms (Config.lmsSign h)))) ∧
    (s.mgmt.lastSigned = none → exec (.lmssig req) s = .next (Replied s .refused)))

/-- R5, R6, R49, R75, R375, R380, R390-R392: power, the rails and the junction temperature; a trip stops every clock; and the registers
that no instruction of their own writes. The count after a POWER_OVER is the model's reading (log 53). -/
def Obligations.PowerIsControlled : Prop :=
  ((∀ (watts : Nat) (s : State), let limit := s.mgmt.pwrctl.toNat % 2 ^ 12
    let most := s.mgmt.pwrctl.toNat / 2 ^ 12 % 2 ^ 6
    ∃ n, Swallowed limit most watts n ∧ Runs (.powerWindow watts) s fun t =>
      t.mgmt.swallowed = n ∧ t.mgmt.watts = watts ∧ t.tiles = s.tiles ∧
      t.mgmt.overs = (if n = most ∧ limit < watts then s.mgmt.overs + 1 else 0) ∧
      (1024 ≤ t.mgmt.overs → ⟨s.now, 1022, .powerOver⟩ ∈ t.agenda) ∧ (t.mgmt.overs < 1024 → t.agenda = s.agenda)) ∧
  (∀ (s : State), (s.mgmt.overs < 1024 → exec .powerOver s = .next s) ∧
    (1024 ≤ s.mgmt.overs → Runs .powerOver s fun t => t.mgmt = { s.mgmt with overs := 0 } ∧ t.tiles = s.tiles ∧
      ∃ r, Reported t 0 r ∧ r.code = 0x42 ∧ r.tval = BitVec.ofNat 64 (s.mgmt.watts % 2 ^ 16))) ∧
  (∀ (c : Nat) (s : State), exec (.thermtrip c) s = .next { s with
    mgmt := { s.mgmt with
      temp := c
      trip := if 1100 ≤ c then some .temperature else s.mgmt.trip } }) ∧
  (∀ (mv ns : Nat) (s : State), exec (.railFault mv ns) s =
    .next (if (mv < 720 ∨ 780 < mv) ∧ 100 < ns then { s with mgmt := { s.mgmt with trip := some .rail } } else s)) ∧
  (∀ (s : State), s.mgmt.trip ≠ none →
    ((∀ e ∈ s.agenda, ∀ b, e.ev ≠ .powerOn b) → step s = .fault .clocksStopped) ∧
    (∀ e b, e.ev = .powerOn b → IsFirst s.agenda (fun e => ∃ b, e.ev = .powerOn b) e →
      step s = exec (.powerOn b) { s with agenda := s.agenda.erase e, cur := e.unit }))) ∧
  ((∀ (m : Fin 64) (a : Fin 256) (v : W64) (s : State), Runs (.registerWrite (.mastab m a) v) s fun t =>
    (t.moon m.val).asidEnt (BitVec.ofNat 8 a.val) = BitVec.ofNat 64 (v.toNat % 4 + 2 ^ 15 * (v.toNat / 2 ^ 15 % 2 ^ 25)) ∧
    (∀ b, b ≠ BitVec.ofNat 8 a.val → (t.moon m.val).asidEnt b = (s.moon m.val).asidEnt b) ∧ (∀ j, j ≠ m.val → t.moon j = s.moon j) ∧
    t.tiles = s.tiles ∧ t.hbm = s.hbm) ∧
  (∀ (n : Fin 4096) (v : W64) (s : State), exec (.registerWrite (.srt n) v) s = .next { s with
    net := { s.net with srt := s.net.srt.put n.val (BitVec.ofNat 64 (v.toNat % 2 ^ 41)) } }) ∧
  (∀ (d : Fin 4) (v : W64) (s : State), exec (.registerWrite (.savepool d) v) s = .next { s with
    sched := { s.sched with savepool := s.sched.savepool.set d (BitVec.ofNat 32 (v.toNat % 2 ^ 28)) } }) ∧
  (∀ (q : Fin 64) (v : W64) (s : State), let p := s.host.pair[q]
    (s.mgmt.bootst = 6 → p.en = false →
      exec (.registerWrite (.hqsub q) v) s =
        .next { s with host := { s.host with pair := s.host.pair.set q { p with sub := v } } } ∧
      exec (.registerWrite (.hqcpl q) v) s =
        .next { s with host := { s.host with pair := s.host.pair.set q { p with cpl := v } } }) ∧
    (s.mgmt.bootst ≠ 6 ∨ p.en = true →
      exec (.registerWrite (.hqsub q) v) s = .next s ∧ exec (.registerWrite (.hqcpl q) v) s = .next s) ∧
    (s.mgmt.bootst ≠ 6 → exec (.registerWrite (.hqcfg q) v) s = .next s) ∧
    (s.mgmt.bootst = 6 → Runs (.registerWrite (.hqcfg q) v) s fun t =>
      let en := v.getLsbD 4
      let fresh := en && !p.en
      ringsOf t = (s.host.mem, s.host.pair.set q { p with
        lsize := if p.en then p.lsize else v.setWidth 4
        en := en
        tail := (v >>> 32).setWidth 12
        head := if fresh then 0 else p.head
        cidx := if fresh then 0 else p.cidx
        phase := if fresh then false else p.phase }) ∧ t.tiles = s.tiles ∧ t.sched = s.sched)))

/-! ## The machine -/

/-- R171-R174, R179, R182, R189, R364 (log 3): an event that is due runs, then the thread whose turn it is, and a decoded op is executed.
What the step adds is the count of a pending `fmt` (R160) and the end of the bundle, or the trap or wait the op met. -/
def Obligations.StepRunsDecoded : Prop :=
  (∀ e r (s : State), s.mgmt.trip = none → s.agenda = e :: r → e.due ≤ s.now →
    step s = exec e.ev { s with agenda := r, cur := e.unit }) ∧
  (∀ k rest j hd tl o i (s : State), TurnOf s k rest → NotAborted s k → Quiet (s.tile k) s.now → Fetches (s.tile k) k j hd tl o i →
    (s.tile k).thr.base + 1 + (Tail.ofNat tl).pdist ≤ s.now →
    (∀ u, exec i (tried s k rest j i) = .next u → u.t.iss.verdict = .issued →
      step s = .next ((u.countFmt (writesFmt i) (s.tile k).thr.inHandler).modT fun t => t.endBundle (s.tile k) s.now)) ∧
    (∀ u c v, exec i (tried s k rest j i) = .next u → u.t.iss.verdict = .trapped c v → c ≠ .swTrap →
      step s = .next (({ s with turn := rest, cur := k } : State).takeTrap k c v)) ∧
    (∀ u c, exec i (tried s k rest j i) = .next u → u.t.iss.verdict = .waits c → tbarGm i = none →
      step s = .next ((({ s with turn := rest, cur := k } : State).stalled c).modT fun t => { t with iss := Iss.none }))) ∧
  (∀ k rest j hd tl o i (s : State), TurnOf s k rest → NotAborted s k → Quiet (s.tile k) s.now → Fetches (s.tile k) k j hd tl o i →
    s.now < (s.tile k).thr.base + 1 + (Tail.ofNat tl).pdist → step s = .next { s with turn := rest, cur := k }) ∧
  (∀ k rest (s : State), TurnOf s k rest → (s.tile k).boundary s.now = none → (s.tile k).thr.st ≠ .running →
    step s = .next { s with turn := rest, cur := k }) ∧
  (∀ k rest (s : State), TurnOf s k rest → (s.tile k).boundary s.now = none → ¬ NotAborted s k →
    step s = .next { s with turn := rest, cur := k }) ∧
  (∀ k rest i (s : State), TurnOf s k rest → (s.tile k).boundary s.now = some i → step s = exec i { s with cur := k }) ∧
  (∀ (s : State), s.mgmt.trip = none → (∀ e r, s.agenda = e :: r → s.now < e.due) → s.turn = [] → step s = .next s.tick)

/-- Every instruction answers a next state, in every state: no form ends in a fault or a refusal (R177, R189, R364: what an op cannot do
is a trap of its thread). -/
def Obligations.NoInstructionStops : Prop :=
  ∀ (i : Instr) (s : State), ∃ t, exec i s = .next t

/-- Decoding an encoded instruction gives it back, with every operand at every value that the encoding admits, and the head's end bit is
kept (R138, R174, R175, R187, R233, R258, R281, R282, R302, R307). -/
def Obligations.DecodeEncode : Prop :=
  ∀ (i : Instr) (e : Bool) (h t : Nat), i.wf = true → encode e i = some (h, t) →
    decodeOp 3 true h t = .ok i ∧ headE h = e

/-- The words of a few instructions, written out from their encodings (R138, R174, R175, R187, R233, R258, R282, R307). -/
def Obligations.DecodeWords : Prop :=
  decodeOp 3 true (headWord 0x20) (tailWord 385 386 387 0 0) = .ok (.add Attr.plain (.s 1) (.s 2) (.reg (.s 3))) ∧
  decodeOp 3 true (headWord 0x0F) 0 = .ok (.halt Attr.plain) ∧
  decodeOp 3 true (headWord 0x12) 1 = .ok (.fenceMoon Attr.plain) ∧
  decodeOp 3 true (headWord 0x77) (tailWord 9 384 395 0 7) = .ok (.vidx Attr.plain .i32 (.v 9) (.s 0) (.s 11)) ∧
  decodeOp 3 true (headWord 0xB0) (tailWord 466 467 468 0 0) = .ok (.mand Attr.plain (.m 2) (.m 3) (.m 4)) ∧
  decodeOp 3 true (headWord 0xE2) (tailWord 0 400 0 0 0) = .ok (.xfree Attr.plain (.s 16)) ∧
  decodeOp 3 true (headWord 0x10) (tailWord 388 0 0 0 3) = .ok (.csrr Attr.plain (.s 4) 3)

/-- R187-R189 (8a-8d, 8g): what the decoder refuses, each by its reason. -/
def Obligations.DecodeRefuses : Prop :=
  (∀ pin sup h t, Unassigned (headOpc h) → decodeOp pin sup h t = .error .opcode) ∧
  (∀ pin sup h t, (headOpc h ∈ chb2 ∧ pin < 2) ∨ (headOpc h ∈ chb3 ∧ pin < 3) → decodeOp pin sup h t = .error .pin) ∧
  (∀ pin h t, 1 ≤ pin → headOpc h ∈ [0x1D, 0x1E, 0x1F] → (∀ i, decodeOp pin false h t ≠ .ok i) ∧
    (2 ≤ pin → decodeOp pin false h t = .error .priv)) ∧
  (∀ pin sup h t, 5 < headLvl h ∨ (headIq h = 0 ∧ headLvl h ≠ 0) → ∀ i, decodeOp pin sup h t ≠ .ok i) ∧
  (∀ h t, headOpc h ∈ [0x22, 0xC0, 0xE2] → (Tail.ofNat t).mask ≠ 0 → ∀ i, decodeOp 3 true h t ≠ .ok i)

/-- The module after reset: the values that the manual states (R71, R73, R82, R140, R145, R380, R386, R391), and that its memories are in
canonical form. -/
def Obligations.ResetValues : Prop :=
  let s := State.reset
  memWf s = true ∧ s.now = 0 ∧ s.wclk = 0 ∧ s.mgmt.bootst = 0 ∧ s.mgmt.pwrctl.toNat % 2 ^ 12 = 3600 ∧
    s.mgmt.pwrctl.toNat / 2 ^ 12 % 2 ^ 6 = 48 ∧ s.red.rsto = 0x00100000 ∧ s.red.redlate = 0 ∧
    (∀ k : Fin 18, (s.net.port[k]).up = false) ∧
    (∀ q : Fin 64, let p := s.host.pair[q]
      p.sub = 0 ∧ p.cpl = 0 ∧ p.lsize = 0 ∧ p.en = false) ∧
    ∀ k, (s.e2e k).ctl = 0x00070400 ∧ (s.e2e k).dup = 0 ∧ (s.e2e k).retx = 0 ∧
      let x := s.tile k
      x.thr.st = .none ∧ (∀ n : Fin 64, x.regs.s[n] = 0) ∧ (∀ n : Fin 384, x.regs.v[n] = 0) ∧ x.regs.q0 = [] ∧
      x.regs.q1 = [] ∧ (∀ n : Fin 64, x.cpl[n].used = false) ∧ (∀ a, x.spmByte false a = 0) ∧
      x.csr.fmt = 0x022 ∧ x.csr.chk = false ∧ x.csr.eagerlim = 0x1000 ∧ x.csr.cbrto = 0x00100000 ∧ x.csr.ulivec = 0 ∧
      x.csr.rowprog = 0 ∧ x.csr.cause = 0 ∧ x.csr.epc = 0 ∧ x.csr.tval = 0 ∧ (∀ g : Fin 8, x.csr.gm[g] = 0)

/-- Every step keeps every memory of the module (HBM, far, host, scratchpads, swap regions, instruction memories, saved tiles) in its
canonical form, in every state: no byte is listed twice, and none that reads as an unlisted one (R116, R117, R122). -/
def Obligations.StepsKeepMemories : Prop :=
  ∀ (s t : State), memWf s = true → step s = .next t → memWf t = true
end

