-- ==== Sys2Proof/Laws/Encoding.lean ====
section
/-!
SUPPORT. Laws of the encoding: register codes, the fields of a tail, the fields of a head, opcode numbers.
-/

namespace Sys2Proof

theorem Reg.code_lt (r : Reg) : r.code < 512 := by
  cases r <;> simp only [Reg.code] <;> omega

/-- A register's code names it again (R138). -/
@[simp] theorem Reg.ofCode_code (r : Reg) : Reg.ofCode r.code = some r := by
  cases r with
  | v n =>
    have h := n.isLt
    change Reg.ofCode n.val = _
    unfold Reg.ofCode
    rw [dif_pos h]
  | s n =>
    have h := n.isLt
    change Reg.ofCode (384 + n.val) = _
    unfold Reg.ofCode
    rw [dif_neg (by omega), dif_pos (by omega)]
    exact congrArg (some ∘ Reg.s) (Fin.ext (by show 384 + n.val - 384 = n.val; omega))
  | q n =>
    have h := n.isLt
    change Reg.ofCode (448 + n.val) = _
    unfold Reg.ofCode
    rw [dif_neg (by omega), dif_neg (by omega), dif_pos (by omega)]
    exact congrArg (some ∘ Reg.q) (Fin.ext (by show 448 + n.val - 448 = n.val; omega))
  | m n =>
    have h := n.isLt
    change Reg.ofCode (464 + n.val) = _
    unfold Reg.ofCode
    rw [dif_neg (by omega), dif_neg (by omega), dif_neg (by omega), if_neg (by omega), dif_pos (by omega)]
    exact congrArg (some ∘ Reg.m) (Fin.ext (by show 464 + n.val - 464 = n.val; omega))
  | zero => rfl
  | lane => rfl
  | ownrank => rfl
  | cyccount => rfl

theorem Opc.ofNum_num (o : Opc) : Opc.ofNum o.num = some o := by cases o <;> rfl

theorem Opc.num_lt (o : Opc) : o.num < 256 := by cases o <;> decide

/-- A tail whose fields fit their widths is read back from its 64 bits (R175). -/
theorem Tail.ofNat_toNat (t : Tail) (h1 : t.dst < 512) (h2 : t.sa < 512) (h3 : t.sb < 512) (h4 : t.sc < 512)
    (h5 : t.sba < 16) (h6 : t.sbc < 16) (h7 : t.pdist < 8) (h8 : t.mask < 16) (h9 : t.fn < 4096) :
    Tail.ofNat t.toNat = t := by
  obtain ⟨dst, sa, sb, sc, sba, sbc, pdist, mask, mneg, fn⟩ := t
  simp only at h1 h2 h3 h4 h5 h6 h7 h8 h9
  simp only [Tail.ofNat, Tail.toNat, Tail.mk.injEq]
  cases mneg <;> simp only [if_true, if_false, Bool.false_eq_true, beq_iff_eq] <;>
    refine ⟨?_, ?_, ?_, ?_, ?_, ?_, ?_, ?_, ?_, ?_⟩ <;> first | omega | (simp only [beq_eq_false_iff_ne, ne_eq]; omega)

/-- The fields of a head built from its parts (R174). -/
theorem head_fields (e : Bool) (o iq lvl : Nat) (ho : o < 256) (hi : iq < 4) (hl : lvl < 8) :
    let h := 3 * 2 ^ 14 + (if e then 2 ^ 13 else 0) + o * 2 ^ 5 + iq * 2 ^ 3 + lvl
    headOpc h = o ∧ headIq h = iq ∧ headLvl h = lvl ∧ headTl h = 3 ∧ headE h = e := by
  intro h
  cases e <;> simp only [h, headOpc, headIq, headLvl, headTl, headE, if_true, if_false, Bool.false_eq_true] <;>
    refine ⟨by omega, by omega, by omega, by omega, ?_⟩ <;> simp <;> omega

@[simp] theorem Ety.ofCode_code (t : Ety) : Ety.ofCode t.code = some t := by cases t <;> rfl

theorem Ety.code_lt (t : Ety) : t.code < 15 := by cases t <;> decide

end Sys2Proof
end

