-- ==== Sys2Proof/Laws/Memory.lean ====
section
/-!
SUPPORT. Laws of the memories and of the stores by key: reading after a write, and the canonical form, which every memory
operation keeps.
-/

namespace Sys2Proof.Machine

/-! ### Canonical form -/

@[simp] theorem Mem.wf_nil : Mem.wf [] = true := rfl

/-- A memory canonical from an address up is canonical from any lower one. -/
theorem Mem.wfFrom_mono {m : Mem} {lo lo' : Nat} (h : lo' ≤ lo) (hm : Mem.wfFrom lo m = true) :
    Mem.wfFrom lo' m = true := by
  cases m with
  | nil => rfl
  | cons c r =>
    simp only [Mem.wfFrom, Bool.and_eq_true, decide_eq_true_eq] at hm ⊢
    exact ⟨⟨by omega, hm.1.2⟩, hm.2⟩

/-- Writing a byte at or above the bound keeps the canonical form. -/
theorem Mem.wfFrom_set {m : Mem} {lo a : Nat} {b : Byte} (ha : lo ≤ a) (hm : Mem.wfFrom lo m = true) :
    Mem.wfFrom lo (Mem.set m a b) = true := by
  induction m generalizing lo with
  | nil =>
    simp only [Mem.set]
    split
    · rfl
    · rename_i hb
      simp only [Mem.wfFrom, Bool.and_eq_true, decide_eq_true_eq, bne_iff_ne, ne_eq]
      exact ⟨⟨ha, hb⟩, trivial⟩
  | cons c r ih =>
    obtain ⟨x, y⟩ := c
    simp only [Mem.wfFrom, Bool.and_eq_true, decide_eq_true_eq, bne_iff_ne, ne_eq] at hm
    obtain ⟨⟨hx, hy⟩, hr⟩ := hm
    simp only [Mem.set]
    split
    · split
      · simp only [Mem.wfFrom, Bool.and_eq_true, decide_eq_true_eq, bne_iff_ne, ne_eq]
        exact ⟨⟨hx, hy⟩, hr⟩
      · rename_i hb
        simp only [Mem.wfFrom, Bool.and_eq_true, decide_eq_true_eq, bne_iff_ne, ne_eq]
        exact ⟨⟨ha, hb⟩, ⟨by omega, hy⟩, hr⟩
    · split
      · split
        · exact Mem.wfFrom_mono (by omega) hr
        · rename_i hb
          simp only [Mem.wfFrom, Bool.and_eq_true, decide_eq_true_eq, bne_iff_ne, ne_eq]
          exact ⟨⟨ha, hb⟩, by subst_vars; exact hr⟩
      · simp only [Mem.wfFrom, Bool.and_eq_true, decide_eq_true_eq, bne_iff_ne, ne_eq]
        exact ⟨⟨hx, hy⟩, ih (by omega) hr⟩

/-- A byte write keeps the canonical form. -/
@[simp] theorem Mem.wf_set {m : Mem} {a : Nat} {b : Byte} (hm : Mem.wf m = true) : Mem.wf (Mem.set m a b) = true :=
  Mem.wfFrom_set (Nat.zero_le a) hm

/-- A write of bytes keeps the canonical form. -/
@[simp] theorem Mem.wf_write {m : Mem} {a : Nat} {bs : List Byte} (hm : Mem.wf m = true) :
    Mem.wf (Mem.write m a bs) = true := by
  induction bs generalizing m a with
  | nil => exact hm
  | cons b r ih => exact ih (Mem.wf_set hm)

/-! ### Reading after a write -/

/-- Below the first address of a canonical memory everything reads 0. -/
theorem Mem.get_below {m : Mem} {lo a : Nat} (hm : Mem.wfFrom lo m = true) (ha : a < lo) : Mem.get m a = 0 := by
  cases m with
  | nil => rfl
  | cons c r =>
    simp only [Mem.wfFrom, Bool.and_eq_true, decide_eq_true_eq] at hm
    have h1 : a ≠ c.1 := by omega
    have h2 : a < c.1 := by omega
    simp [Mem.get, h1, h2]

/-- Reading a byte after a write: the byte written there, any other byte as before. -/
theorem Mem.get_set {m : Mem} {a x : Nat} {b : Byte} (hm : Mem.wf m = true) :
    Mem.get (Mem.set m a b) x = if x = a then b else Mem.get m x := by
  suffices H : ∀ lo, Mem.wfFrom lo m = true → Mem.get (Mem.set m a b) x = if x = a then b else Mem.get m x from H 0 hm
  clear hm
  induction m with
  | nil =>
    intro lo _
    by_cases hb : b = 0 <;> simp only [Mem.set, hb, if_true, if_false, Mem.get]
    · split <;> rfl
    · repeat' split
      all_goals rfl
  | cons c r ih =>
    intro lo hm
    obtain ⟨k, y⟩ := c
    simp only [Mem.wfFrom, Bool.and_eq_true, decide_eq_true_eq, bne_iff_ne, ne_eq] at hm
    obtain ⟨⟨hk, hy⟩, hr⟩ := hm
    simp only [Mem.set]
    split
    · split
      · rename_i hak hb
        by_cases hx : x = a
        · subst hx
          simp only [Mem.get, if_true]
          rw [if_neg (by omega), if_pos (by omega), hb]
        · simp [hx]
      · by_cases hx : x = a
        · simp [Mem.get, hx]
        · simp only [Mem.get, hx, if_false]
          by_cases hxk : x = k
          · rw [if_neg (by omega)]
          · by_cases hlt : x < a
            · rw [if_pos hlt, if_neg hxk, if_pos (by omega)]
            · rw [if_neg hlt]
    · split
      · rename_i hak
        split
        · rename_i hb
          by_cases hx : x = a
          · rw [if_pos hx, hx, hb]
            exact Mem.get_below hr (by omega)
          · rw [if_neg hx]
            simp only [Mem.get]
            rw [if_neg (by omega)]
            split
            · exact Mem.get_below hr (by omega)
            · rfl
        · by_cases hx : x = a
          · simp [Mem.get, hx]
          · simp only [Mem.get, hx, if_false]
            rw [if_neg (by omega : ¬x = k), hak]
      · rename_i h1 h2
        simp only [Mem.get]
        by_cases hx : x = a
        · rw [if_pos hx, if_neg (by omega), if_neg (by omega), ih _ hr, if_pos hx]
        · rw [if_neg hx]
          split
          · rfl
          · split
            · rfl
            · rw [ih _ hr, if_neg hx]

/-- Writing the byte that an address already reads leaves the memory as it is, as data. -/
theorem Mem.set_get {m : Mem} {a : Nat} (hm : Mem.wf m = true) : Mem.set m a (Mem.get m a) = m := by
  suffices H : ∀ lo, Mem.wfFrom lo m = true → Mem.set m a (Mem.get m a) = m from H 0 hm
  clear hm
  induction m with
  | nil => intro lo _; rfl
  | cons c r ih =>
    intro lo hm
    obtain ⟨k, y⟩ := c
    simp only [Mem.wfFrom, Bool.and_eq_true, decide_eq_true_eq, bne_iff_ne, ne_eq] at hm
    obtain ⟨⟨hk, hy⟩, hr⟩ := hm
    have hg : Mem.get ((k, y) :: r) a = if a = k then y else if a < k then 0 else Mem.get r a := rfl
    generalize hv : Mem.get ((k, y) :: r) a = v at hg ⊢
    simp only [Mem.set]
    by_cases h1 : a = k
    · rw [if_pos h1] at hg
      rw [if_neg (by omega), if_pos h1, if_neg (by rw [hg]; exact hy), h1, hg]
    · rw [if_neg h1] at hg
      by_cases h2 : a < k
      · rw [if_pos h2] at hg
        rw [if_pos h2, if_pos hg]
      · rw [if_neg h2] at hg
        rw [if_neg h2, if_neg h1, hg, ih _ hr]

/-- A byte outside a written range reads as before. -/
theorem Mem.get_write_out {m : Mem} {a x : Nat} {bs : List Byte} (hm : Mem.wf m = true)
    (hx : x < a ∨ a + bs.length ≤ x) : Mem.get (Mem.write m a bs) x = Mem.get m x := by
  induction bs generalizing m a with
  | nil => rfl
  | cons b r ih =>
    simp only [List.length_cons] at hx
    simp only [Mem.write]
    rw [ih (Mem.wf_set hm) (by omega), Mem.get_set hm, if_neg (by omega)]

/-- A byte inside a written range reads as written. -/
theorem Mem.get_write_in {m : Mem} {a i : Nat} {bs : List Byte} (hm : Mem.wf m = true) (hi : i < bs.length) :
    Mem.get (Mem.write m a bs) (a + i) = bs[i] := by
  induction bs generalizing m a i with
  | nil => simp at hi
  | cons b r ih =>
    cases i with
    | zero =>
      simp only [Mem.write, Nat.add_zero, List.getElem_cons_zero]
      rw [Mem.get_write_out (Mem.wf_set hm) (Or.inl (by omega)), Mem.get_set hm, if_pos rfl]
    | succ i =>
      simp only [Mem.write, List.getElem_cons_succ]
      simp only [List.length_cons] at hi
      rw [show a + (i + 1) = a + 1 + i by omega, ih (Mem.wf_set hm) (by omega)]

@[simp] theorem Mem.length_read (m : Mem) (a n : Nat) : (Mem.read m a n).length = n := by
  induction n generalizing a with
  | zero => rfl
  | succ n ih => simp [Mem.read, ih]

/-- Bytes read where they have just been written. -/
theorem Mem.read_write {m : Mem} {a : Nat} {bs : List Byte} (hm : Mem.wf m = true) :
    Mem.read (Mem.write m a bs) a bs.length = bs := by
  induction bs generalizing m a with
  | nil => rfl
  | cons b r ih =>
    simp only [List.length_cons, Mem.read, Mem.write]
    rw [ih (Mem.wf_set hm), Mem.get_write_out (Mem.wf_set hm) (Or.inl (by omega)), Mem.get_set hm, if_pos rfl]

/-! ### Little-endian numbers (R2) -/

@[simp] theorem length_bytesOf (x n : Nat) : (bytesOf x n).length = n := by
  induction n generalizing x with
  | zero => rfl
  | succ n ih => simp [bytesOf, ih]

/-- The number of the bytes of a number, modulo their count. -/
theorem ofBytes_bytesOf (x n : Nat) : ofBytes (bytesOf x n) = x % 2 ^ (8 * n) := by
  induction n generalizing x with
  | zero => simp [bytesOf, ofBytes, Nat.mod_one]
  | succ n ih =>
    have h8 : 2 ^ (8 * (n + 1)) = 256 * 2 ^ (8 * n) := by rw [Nat.mul_add, Nat.pow_add, Nat.mul_comm]
    have h1 : (BitVec.ofNat 8 (x % 256)).toNat = x % 256 := by simp [BitVec.toNat_ofNat]
    rw [bytesOf, ofBytes, ih, h1, h8, Nat.mod_mul]

/-! ### Stores by key -/

@[simp] theorem Assoc.find_nil {α : Type} (a : Nat) : Assoc.find ([] : Assoc α) a = none := rfl

/-- The entry just put is the one found. -/
@[simp] theorem Assoc.find_put_self {α : Type} (l : Assoc α) (k : Nat) (v : α) : (l.put k v).find k = some v := by
  induction l with
  | nil => simp [Assoc.put, Assoc.find]
  | cons c r ih =>
    obtain ⟨x, w⟩ := c
    simp only [Assoc.put]
    split
    · simp [Assoc.find]
    · split
      · simp [Assoc.find]
      · simp only [Assoc.find]
        rw [if_neg (by assumption), if_neg (by assumption), ih]

/-- Any other key finds what it found. -/
theorem Assoc.find_put_other {α : Type} (l : Assoc α) {k j : Nat} (v : α) (h : j ≠ k) : (l.put k v).find j = l.find j := by
  induction l with
  | nil =>
    simp only [Assoc.put, Assoc.find, h, if_false]
    split <;> rfl
  | cons c r ih =>
    obtain ⟨x, w⟩ := c
    simp only [Assoc.put]
    split
    · simp only [Assoc.find, h, if_false]
      by_cases hjx : j = x
      · rw [if_neg (by omega)]
      · by_cases hlt : j < k
        · rw [if_pos hlt, if_neg hjx, if_pos (by omega)]
        · rw [if_neg hlt]
    · split
      · rename_i hkx
        subst hkx
        simp only [Assoc.find, h, if_false]
      · simp only [Assoc.find]
        rw [ih]

end Sys2Proof.Machine
end

