-- ==== Sys2Proof/Laws/State.lean ====
section
/-!
SUPPORT. Laws of the state: what each update of it leaves alone, field by field, and what it makes of the part it changes.
No later proof unfolds a record update.
-/

namespace Sys2Proof.Machine

/-! ### `setTile` -/

@[simp] theorem State.setTile_now (s : State) (k : Nat) (t : Tile) : (s.setTile k t).now = s.now := rfl
@[simp] theorem State.setTile_wclk (s : State) (k : Nat) (t : Tile) : (s.setTile k t).wclk = s.wclk := rfl
@[simp] theorem State.setTile_delays (s : State) (k : Nat) (t : Tile) : (s.setTile k t).delays = s.delays := rfl
@[simp] theorem State.setTile_freeCtr (s : State) (k : Nat) (t : Tile) : (s.setTile k t).freeCtr = s.freeCtr := rfl
@[simp] theorem State.setTile_agenda (s : State) (k : Nat) (t : Tile) : (s.setTile k t).agenda = s.agenda := rfl
@[simp] theorem State.setTile_turn (s : State) (k : Nat) (t : Tile) : (s.setTile k t).turn = s.turn := rfl
@[simp] theorem State.setTile_cur (s : State) (k : Nat) (t : Tile) : (s.setTile k t).cur = s.cur := rfl
@[simp] theorem State.setTile_moons (s : State) (k : Nat) (t : Tile) : (s.setTile k t).moons = s.moons := rfl
@[simp] theorem State.setTile_hbm (s : State) (k : Nat) (t : Tile) : (s.setTile k t).hbm = s.hbm := rfl
@[simp] theorem State.setTile_hbmBad (s : State) (k : Nat) (t : Tile) : (s.setTile k t).hbmBad = s.hbmBad := rfl
@[simp] theorem State.setTile_far (s : State) (k : Nat) (t : Tile) : (s.setTile k t).far = s.far := rfl
@[simp] theorem State.setTile_farBad (s : State) (k : Nat) (t : Tile) : (s.setTile k t).farBad = s.farBad := rfl
@[simp] theorem State.setTile_jobs (s : State) (k : Nat) (t : Tile) : (s.setTile k t).jobs = s.jobs := rfl
@[simp] theorem State.setTile_nextJob (s : State) (k : Nat) (t : Tile) : (s.setTile k t).nextJob = s.nextJob := rfl
@[simp] theorem State.setTile_ert (s : State) (k : Nat) (t : Tile) : (s.setTile k t).ert = s.ert := rfl
@[simp] theorem State.setTile_net (s : State) (k : Nat) (t : Tile) : (s.setTile k t).net = s.net := rfl
@[simp] theorem State.setTile_red (s : State) (k : Nat) (t : Tile) : (s.setTile k t).red = s.red := rfl
@[simp] theorem State.setTile_sched (s : State) (k : Nat) (t : Tile) : (s.setTile k t).sched = s.sched := rfl
@[simp] theorem State.setTile_disp (s : State) (k : Nat) (t : Tile) : (s.setTile k t).disp = s.disp := rfl
@[simp] theorem State.setTile_rep (s : State) (k : Nat) (t : Tile) : (s.setTile k t).rep = s.rep := rfl
@[simp] theorem State.setTile_host (s : State) (k : Nat) (t : Tile) : (s.setTile k t).host = s.host := rfl
@[simp] theorem State.setTile_mgmt (s : State) (k : Nat) (t : Tile) : (s.setTile k t).mgmt = s.mgmt := rfl
@[simp] theorem State.setTile_frozen (s : State) (k : Nat) (t : Tile) : (s.setTile k t).frozen = s.frozen := rfl
@[simp] theorem State.setTile_inputs (s : State) (k : Nat) (t : Tile) : (s.setTile k t).inputs = s.inputs := rfl

/-! ### `modTile` -/

@[simp] theorem State.modTile_now (s : State) (k : Nat) (f : Tile → Tile) : (s.modTile k f).now = s.now := rfl
@[simp] theorem State.modTile_wclk (s : State) (k : Nat) (f : Tile → Tile) : (s.modTile k f).wclk = s.wclk := rfl
@[simp] theorem State.modTile_delays (s : State) (k : Nat) (f : Tile → Tile) : (s.modTile k f).delays = s.delays := rfl
@[simp] theorem State.modTile_freeCtr (s : State) (k : Nat) (f : Tile → Tile) : (s.modTile k f).freeCtr = s.freeCtr := rfl
@[simp] theorem State.modTile_agenda (s : State) (k : Nat) (f : Tile → Tile) : (s.modTile k f).agenda = s.agenda := rfl
@[simp] theorem State.modTile_turn (s : State) (k : Nat) (f : Tile → Tile) : (s.modTile k f).turn = s.turn := rfl
@[simp] theorem State.modTile_cur (s : State) (k : Nat) (f : Tile → Tile) : (s.modTile k f).cur = s.cur := rfl
@[simp] theorem State.modTile_moons (s : State) (k : Nat) (f : Tile → Tile) : (s.modTile k f).moons = s.moons := rfl
@[simp] theorem State.modTile_hbm (s : State) (k : Nat) (f : Tile → Tile) : (s.modTile k f).hbm = s.hbm := rfl
@[simp] theorem State.modTile_hbmBad (s : State) (k : Nat) (f : Tile → Tile) : (s.modTile k f).hbmBad = s.hbmBad := rfl
@[simp] theorem State.modTile_far (s : State) (k : Nat) (f : Tile → Tile) : (s.modTile k f).far = s.far := rfl
@[simp] theorem State.modTile_farBad (s : State) (k : Nat) (f : Tile → Tile) : (s.modTile k f).farBad = s.farBad := rfl
@[simp] theorem State.modTile_jobs (s : State) (k : Nat) (f : Tile → Tile) : (s.modTile k f).jobs = s.jobs := rfl
@[simp] theorem State.modTile_nextJob (s : State) (k : Nat) (f : Tile → Tile) : (s.modTile k f).nextJob = s.nextJob := rfl
@[simp] theorem State.modTile_ert (s : State) (k : Nat) (f : Tile → Tile) : (s.modTile k f).ert = s.ert := rfl
@[simp] theorem State.modTile_net (s : State) (k : Nat) (f : Tile → Tile) : (s.modTile k f).net = s.net := rfl
@[simp] theorem State.modTile_red (s : State) (k : Nat) (f : Tile → Tile) : (s.modTile k f).red = s.red := rfl
@[simp] theorem State.modTile_sched (s : State) (k : Nat) (f : Tile → Tile) : (s.modTile k f).sched = s.sched := rfl
@[simp] theorem State.modTile_disp (s : State) (k : Nat) (f : Tile → Tile) : (s.modTile k f).disp = s.disp := rfl
@[simp] theorem State.modTile_rep (s : State) (k : Nat) (f : Tile → Tile) : (s.modTile k f).rep = s.rep := rfl
@[simp] theorem State.modTile_host (s : State) (k : Nat) (f : Tile → Tile) : (s.modTile k f).host = s.host := rfl
@[simp] theorem State.modTile_mgmt (s : State) (k : Nat) (f : Tile → Tile) : (s.modTile k f).mgmt = s.mgmt := rfl
@[simp] theorem State.modTile_frozen (s : State) (k : Nat) (f : Tile → Tile) : (s.modTile k f).frozen = s.frozen := rfl
@[simp] theorem State.modTile_inputs (s : State) (k : Nat) (f : Tile → Tile) : (s.modTile k f).inputs = s.inputs := rfl

/-! ### `modT` -/

@[simp] theorem State.modT_now (s : State) (f : Tile → Tile) : (s.modT f).now = s.now := rfl
@[simp] theorem State.modT_wclk (s : State) (f : Tile → Tile) : (s.modT f).wclk = s.wclk := rfl
@[simp] theorem State.modT_delays (s : State) (f : Tile → Tile) : (s.modT f).delays = s.delays := rfl
@[simp] theorem State.modT_freeCtr (s : State) (f : Tile → Tile) : (s.modT f).freeCtr = s.freeCtr := rfl
@[simp] theorem State.modT_agenda (s : State) (f : Tile → Tile) : (s.modT f).agenda = s.agenda := rfl
@[simp] theorem State.modT_turn (s : State) (f : Tile → Tile) : (s.modT f).turn = s.turn := rfl
@[simp] theorem State.modT_cur (s : State) (f : Tile → Tile) : (s.modT f).cur = s.cur := rfl
@[simp] theorem State.modT_moons (s : State) (f : Tile → Tile) : (s.modT f).moons = s.moons := rfl
@[simp] theorem State.modT_hbm (s : State) (f : Tile → Tile) : (s.modT f).hbm = s.hbm := rfl
@[simp] theorem State.modT_hbmBad (s : State) (f : Tile → Tile) : (s.modT f).hbmBad = s.hbmBad := rfl
@[simp] theorem State.modT_far (s : State) (f : Tile → Tile) : (s.modT f).far = s.far := rfl
@[simp] theorem State.modT_farBad (s : State) (f : Tile → Tile) : (s.modT f).farBad = s.farBad := rfl
@[simp] theorem State.modT_jobs (s : State) (f : Tile → Tile) : (s.modT f).jobs = s.jobs := rfl
@[simp] theorem State.modT_nextJob (s : State) (f : Tile → Tile) : (s.modT f).nextJob = s.nextJob := rfl
@[simp] theorem State.modT_ert (s : State) (f : Tile → Tile) : (s.modT f).ert = s.ert := rfl
@[simp] theorem State.modT_net (s : State) (f : Tile → Tile) : (s.modT f).net = s.net := rfl
@[simp] theorem State.modT_red (s : State) (f : Tile → Tile) : (s.modT f).red = s.red := rfl
@[simp] theorem State.modT_sched (s : State) (f : Tile → Tile) : (s.modT f).sched = s.sched := rfl
@[simp] theorem State.modT_disp (s : State) (f : Tile → Tile) : (s.modT f).disp = s.disp := rfl
@[simp] theorem State.modT_rep (s : State) (f : Tile → Tile) : (s.modT f).rep = s.rep := rfl
@[simp] theorem State.modT_host (s : State) (f : Tile → Tile) : (s.modT f).host = s.host := rfl
@[simp] theorem State.modT_mgmt (s : State) (f : Tile → Tile) : (s.modT f).mgmt = s.mgmt := rfl
@[simp] theorem State.modT_frozen (s : State) (f : Tile → Tile) : (s.modT f).frozen = s.frozen := rfl
@[simp] theorem State.modT_inputs (s : State) (f : Tile → Tile) : (s.modT f).inputs = s.inputs := rfl

/-! ### `modMoon` -/

@[simp] theorem State.modMoon_now (s : State) (k : Nat) (f : Moon → Moon) : (s.modMoon k f).now = s.now := rfl
@[simp] theorem State.modMoon_wclk (s : State) (k : Nat) (f : Moon → Moon) : (s.modMoon k f).wclk = s.wclk := rfl
@[simp] theorem State.modMoon_delays (s : State) (k : Nat) (f : Moon → Moon) : (s.modMoon k f).delays = s.delays := rfl
@[simp] theorem State.modMoon_freeCtr (s : State) (k : Nat) (f : Moon → Moon) : (s.modMoon k f).freeCtr = s.freeCtr := rfl
@[simp] theorem State.modMoon_agenda (s : State) (k : Nat) (f : Moon → Moon) : (s.modMoon k f).agenda = s.agenda := rfl
@[simp] theorem State.modMoon_turn (s : State) (k : Nat) (f : Moon → Moon) : (s.modMoon k f).turn = s.turn := rfl
@[simp] theorem State.modMoon_cur (s : State) (k : Nat) (f : Moon → Moon) : (s.modMoon k f).cur = s.cur := rfl
@[simp] theorem State.modMoon_tiles (s : State) (k : Nat) (f : Moon → Moon) : (s.modMoon k f).tiles = s.tiles := rfl
@[simp] theorem State.modMoon_hbm (s : State) (k : Nat) (f : Moon → Moon) : (s.modMoon k f).hbm = s.hbm := rfl
@[simp] theorem State.modMoon_hbmBad (s : State) (k : Nat) (f : Moon → Moon) : (s.modMoon k f).hbmBad = s.hbmBad := rfl
@[simp] theorem State.modMoon_far (s : State) (k : Nat) (f : Moon → Moon) : (s.modMoon k f).far = s.far := rfl
@[simp] theorem State.modMoon_farBad (s : State) (k : Nat) (f : Moon → Moon) : (s.modMoon k f).farBad = s.farBad := rfl
@[simp] theorem State.modMoon_jobs (s : State) (k : Nat) (f : Moon → Moon) : (s.modMoon k f).jobs = s.jobs := rfl
@[simp] theorem State.modMoon_nextJob (s : State) (k : Nat) (f : Moon → Moon) : (s.modMoon k f).nextJob = s.nextJob := rfl
@[simp] theorem State.modMoon_ert (s : State) (k : Nat) (f : Moon → Moon) : (s.modMoon k f).ert = s.ert := rfl
@[simp] theorem State.modMoon_net (s : State) (k : Nat) (f : Moon → Moon) : (s.modMoon k f).net = s.net := rfl
@[simp] theorem State.modMoon_red (s : State) (k : Nat) (f : Moon → Moon) : (s.modMoon k f).red = s.red := rfl
@[simp] theorem State.modMoon_sched (s : State) (k : Nat) (f : Moon → Moon) : (s.modMoon k f).sched = s.sched := rfl
@[simp] theorem State.modMoon_disp (s : State) (k : Nat) (f : Moon → Moon) : (s.modMoon k f).disp = s.disp := rfl
@[simp] theorem State.modMoon_rep (s : State) (k : Nat) (f : Moon → Moon) : (s.modMoon k f).rep = s.rep := rfl
@[simp] theorem State.modMoon_host (s : State) (k : Nat) (f : Moon → Moon) : (s.modMoon k f).host = s.host := rfl
@[simp] theorem State.modMoon_mgmt (s : State) (k : Nat) (f : Moon → Moon) : (s.modMoon k f).mgmt = s.mgmt := rfl
@[simp] theorem State.modMoon_frozen (s : State) (k : Nat) (f : Moon → Moon) : (s.modMoon k f).frozen = s.frozen := rfl
@[simp] theorem State.modMoon_inputs (s : State) (k : Nat) (f : Moon → Moon) : (s.modMoon k f).inputs = s.inputs := rfl

/-! ### `schedule` -/

@[simp] theorem State.schedule_now (s : State) (due unit : Nat) (ev : Instr) : (s.schedule due unit ev).now = s.now := rfl
@[simp] theorem State.schedule_wclk (s : State) (due unit : Nat) (ev : Instr) : (s.schedule due unit ev).wclk = s.wclk := rfl
@[simp] theorem State.schedule_delays (s : State) (due unit : Nat) (ev : Instr) : (s.schedule due unit ev).delays = s.delays := rfl
@[simp] theorem State.schedule_freeCtr (s : State) (due unit : Nat) (ev : Instr) : (s.schedule due unit ev).freeCtr = s.freeCtr := rfl
@[simp] theorem State.schedule_turn (s : State) (due unit : Nat) (ev : Instr) : (s.schedule due unit ev).turn = s.turn := rfl
@[simp] theorem State.schedule_cur (s : State) (due unit : Nat) (ev : Instr) : (s.schedule due unit ev).cur = s.cur := rfl
@[simp] theorem State.schedule_tiles (s : State) (due unit : Nat) (ev : Instr) : (s.schedule due unit ev).tiles = s.tiles := rfl
@[simp] theorem State.schedule_moons (s : State) (due unit : Nat) (ev : Instr) : (s.schedule due unit ev).moons = s.moons := rfl
@[simp] theorem State.schedule_hbm (s : State) (due unit : Nat) (ev : Instr) : (s.schedule due unit ev).hbm = s.hbm := rfl
@[simp] theorem State.schedule_hbmBad (s : State) (due unit : Nat) (ev : Instr) : (s.schedule due unit ev).hbmBad = s.hbmBad := rfl
@[simp] theorem State.schedule_far (s : State) (due unit : Nat) (ev : Instr) : (s.schedule due unit ev).far = s.far := rfl
@[simp] theorem State.schedule_farBad (s : State) (due unit : Nat) (ev : Instr) : (s.schedule due unit ev).farBad = s.farBad := rfl
@[simp] theorem State.schedule_jobs (s : State) (due unit : Nat) (ev : Instr) : (s.schedule due unit ev).jobs = s.jobs := rfl
@[simp] theorem State.schedule_nextJob (s : State) (due unit : Nat) (ev : Instr) : (s.schedule due unit ev).nextJob = s.nextJob := rfl
@[simp] theorem State.schedule_ert (s : State) (due unit : Nat) (ev : Instr) : (s.schedule due unit ev).ert = s.ert := rfl
@[simp] theorem State.schedule_net (s : State) (due unit : Nat) (ev : Instr) : (s.schedule due unit ev).net = s.net := rfl
@[simp] theorem State.schedule_red (s : State) (due unit : Nat) (ev : Instr) : (s.schedule due unit ev).red = s.red := rfl
@[simp] theorem State.schedule_sched (s : State) (due unit : Nat) (ev : Instr) : (s.schedule due unit ev).sched = s.sched := rfl
@[simp] theorem State.schedule_disp (s : State) (due unit : Nat) (ev : Instr) : (s.schedule due unit ev).disp = s.disp := rfl
@[simp] theorem State.schedule_rep (s : State) (due unit : Nat) (ev : Instr) : (s.schedule due unit ev).rep = s.rep := rfl
@[simp] theorem State.schedule_host (s : State) (due unit : Nat) (ev : Instr) : (s.schedule due unit ev).host = s.host := rfl
@[simp] theorem State.schedule_mgmt (s : State) (due unit : Nat) (ev : Instr) : (s.schedule due unit ev).mgmt = s.mgmt := rfl
@[simp] theorem State.schedule_frozen (s : State) (due unit : Nat) (ev : Instr) : (s.schedule due unit ev).frozen = s.frozen := rfl
@[simp] theorem State.schedule_inputs (s : State) (due unit : Nat) (ev : Instr) : (s.schedule due unit ev).inputs = s.inputs := rfl

/-! ### `setVerdict` -/

@[simp] theorem State.setVerdict_now (s : State) (v : Verdict) : (s.setVerdict v).now = s.now := rfl
@[simp] theorem State.setVerdict_wclk (s : State) (v : Verdict) : (s.setVerdict v).wclk = s.wclk := rfl
@[simp] theorem State.setVerdict_delays (s : State) (v : Verdict) : (s.setVerdict v).delays = s.delays := rfl
@[simp] theorem State.setVerdict_freeCtr (s : State) (v : Verdict) : (s.setVerdict v).freeCtr = s.freeCtr := rfl
@[simp] theorem State.setVerdict_agenda (s : State) (v : Verdict) : (s.setVerdict v).agenda = s.agenda := rfl
@[simp] theorem State.setVerdict_turn (s : State) (v : Verdict) : (s.setVerdict v).turn = s.turn := rfl
@[simp] theorem State.setVerdict_cur (s : State) (v : Verdict) : (s.setVerdict v).cur = s.cur := rfl
@[simp] theorem State.setVerdict_moons (s : State) (v : Verdict) : (s.setVerdict v).moons = s.moons := rfl
@[simp] theorem State.setVerdict_hbm (s : State) (v : Verdict) : (s.setVerdict v).hbm = s.hbm := rfl
@[simp] theorem State.setVerdict_hbmBad (s : State) (v : Verdict) : (s.setVerdict v).hbmBad = s.hbmBad := rfl
@[simp] theorem State.setVerdict_far (s : State) (v : Verdict) : (s.setVerdict v).far = s.far := rfl
@[simp] theorem State.setVerdict_farBad (s : State) (v : Verdict) : (s.setVerdict v).farBad = s.farBad := rfl
@[simp] theorem State.setVerdict_jobs (s : State) (v : Verdict) : (s.setVerdict v).jobs = s.jobs := rfl
@[simp] theorem State.setVerdict_nextJob (s : State) (v : Verdict) : (s.setVerdict v).nextJob = s.nextJob := rfl
@[simp] theorem State.setVerdict_ert (s : State) (v : Verdict) : (s.setVerdict v).ert = s.ert := rfl
@[simp] theorem State.setVerdict_net (s : State) (v : Verdict) : (s.setVerdict v).net = s.net := rfl
@[simp] theorem State.setVerdict_red (s : State) (v : Verdict) : (s.setVerdict v).red = s.red := rfl
@[simp] theorem State.setVerdict_sched (s : State) (v : Verdict) : (s.setVerdict v).sched = s.sched := rfl
@[simp] theorem State.setVerdict_disp (s : State) (v : Verdict) : (s.setVerdict v).disp = s.disp := rfl
@[simp] theorem State.setVerdict_rep (s : State) (v : Verdict) : (s.setVerdict v).rep = s.rep := rfl
@[simp] theorem State.setVerdict_host (s : State) (v : Verdict) : (s.setVerdict v).host = s.host := rfl
@[simp] theorem State.setVerdict_mgmt (s : State) (v : Verdict) : (s.setVerdict v).mgmt = s.mgmt := rfl
@[simp] theorem State.setVerdict_frozen (s : State) (v : Verdict) : (s.setVerdict v).frozen = s.frozen := rfl
@[simp] theorem State.setVerdict_inputs (s : State) (v : Verdict) : (s.setVerdict v).inputs = s.inputs := rfl

/-! ### `flyAt` -/

@[simp] theorem State.flyAt_now (s : State) (due : Nat) (w : RegWrite) : (s.flyAt due w).now = s.now := rfl
@[simp] theorem State.flyAt_wclk (s : State) (due : Nat) (w : RegWrite) : (s.flyAt due w).wclk = s.wclk := rfl
@[simp] theorem State.flyAt_delays (s : State) (due : Nat) (w : RegWrite) : (s.flyAt due w).delays = s.delays := rfl
@[simp] theorem State.flyAt_freeCtr (s : State) (due : Nat) (w : RegWrite) : (s.flyAt due w).freeCtr = s.freeCtr := rfl
@[simp] theorem State.flyAt_turn (s : State) (due : Nat) (w : RegWrite) : (s.flyAt due w).turn = s.turn := rfl
@[simp] theorem State.flyAt_cur (s : State) (due : Nat) (w : RegWrite) : (s.flyAt due w).cur = s.cur := rfl
@[simp] theorem State.flyAt_moons (s : State) (due : Nat) (w : RegWrite) : (s.flyAt due w).moons = s.moons := rfl
@[simp] theorem State.flyAt_hbm (s : State) (due : Nat) (w : RegWrite) : (s.flyAt due w).hbm = s.hbm := rfl
@[simp] theorem State.flyAt_hbmBad (s : State) (due : Nat) (w : RegWrite) : (s.flyAt due w).hbmBad = s.hbmBad := rfl
@[simp] theorem State.flyAt_far (s : State) (due : Nat) (w : RegWrite) : (s.flyAt due w).far = s.far := rfl
@[simp] theorem State.flyAt_farBad (s : State) (due : Nat) (w : RegWrite) : (s.flyAt due w).farBad = s.farBad := rfl
@[simp] theorem State.flyAt_jobs (s : State) (due : Nat) (w : RegWrite) : (s.flyAt due w).jobs = s.jobs := rfl
@[simp] theorem State.flyAt_nextJob (s : State) (due : Nat) (w : RegWrite) : (s.flyAt due w).nextJob = s.nextJob := rfl
@[simp] theorem State.flyAt_ert (s : State) (due : Nat) (w : RegWrite) : (s.flyAt due w).ert = s.ert := rfl
@[simp] theorem State.flyAt_net (s : State) (due : Nat) (w : RegWrite) : (s.flyAt due w).net = s.net := rfl
@[simp] theorem State.flyAt_red (s : State) (due : Nat) (w : RegWrite) : (s.flyAt due w).red = s.red := rfl
@[simp] theorem State.flyAt_sched (s : State) (due : Nat) (w : RegWrite) : (s.flyAt due w).sched = s.sched := rfl
@[simp] theorem State.flyAt_disp (s : State) (due : Nat) (w : RegWrite) : (s.flyAt due w).disp = s.disp := rfl
@[simp] theorem State.flyAt_rep (s : State) (due : Nat) (w : RegWrite) : (s.flyAt due w).rep = s.rep := rfl
@[simp] theorem State.flyAt_host (s : State) (due : Nat) (w : RegWrite) : (s.flyAt due w).host = s.host := rfl
@[simp] theorem State.flyAt_mgmt (s : State) (due : Nat) (w : RegWrite) : (s.flyAt due w).mgmt = s.mgmt := rfl
@[simp] theorem State.flyAt_frozen (s : State) (due : Nat) (w : RegWrite) : (s.flyAt due w).frozen = s.frozen := rfl
@[simp] theorem State.flyAt_inputs (s : State) (due : Nat) (w : RegWrite) : (s.flyAt due w).inputs = s.inputs := rfl

/-! ### Tiles -/

@[simp] theorem State.tile_setTile (s : State) (k : Nat) (t : Tile) : (s.setTile k t).tile k = t := by
  simp [State.tile, State.setTile]

theorem State.tile_setTile_other (s : State) {k j : Nat} (t : Tile) (h : j ≠ k) : (s.setTile k t).tile j = s.tile j := by
  simp [State.tile, State.setTile, Assoc.find_put_other _ _ h]

@[simp] theorem State.tile_modTile (s : State) (k : Nat) (f : Tile → Tile) : (s.modTile k f).tile k = f (s.tile k) := by
  simp [State.modTile]

theorem State.tile_modTile_other (s : State) {k j : Nat} (f : Tile → Tile) (h : j ≠ k) :
    (s.modTile k f).tile j = s.tile j := State.tile_setTile_other s _ h

/-- The current tile after a change of it. -/
@[simp] theorem State.t_modT (s : State) (f : Tile → Tile) : (s.modT f).t = f s.t := by
  simp [State.t, State.modT]

@[simp] theorem State.tile_schedule (s : State) (due unit : Nat) (ev : Instr) (k : Nat) :
    (s.schedule due unit ev).tile k = s.tile k := rfl

@[simp] theorem State.t_schedule (s : State) (due unit : Nat) (ev : Instr) : (s.schedule due unit ev).t = s.t := rfl

/-- Any tile but the current one is as it was. -/
theorem State.tile_modT_other (s : State) {k : Nat} (f : Tile → Tile) (h : k ≠ s.cur) : (s.modT f).tile k = s.tile k :=
  State.tile_modTile_other s f h

@[simp] theorem State.t_setVerdict (s : State) (v : Verdict) :
    (s.setVerdict v).t = { s.t with iss := { s.t.iss with verdict := v } } := by
  simp [State.setVerdict]

/-- The current tile after a register write was put in flight. -/
@[simp] theorem State.t_flyAt (s : State) (due : Nat) (w : RegWrite) :
    (s.flyAt due w).t = { s.t with regs := { s.t.regs with flight := insertDue { w with due := due } s.t.regs.flight } } := by
  simp [State.flyAt]

@[simp] theorem State.moon_modMoon (s : State) (k : Nat) (f : Moon → Moon) : (s.modMoon k f).moon k = f (s.moon k) := by
  simp [State.moon, State.modMoon]

/-! ### Fields of a tile under the setter of the verdict -/

@[simp] theorem State.setVerdict_t_thr (s : State) (v : Verdict) : (s.setVerdict v).t.thr = s.t.thr := by simp
@[simp] theorem State.setVerdict_t_regs (s : State) (v : Verdict) : (s.setVerdict v).t.regs = s.t.regs := by simp
@[simp] theorem State.setVerdict_t_csr (s : State) (v : Verdict) : (s.setVerdict v).t.csr = s.t.csr := by simp
@[simp] theorem State.setVerdict_t_loops (s : State) (v : Verdict) : (s.setVerdict v).t.loops = s.t.loops := by simp
@[simp] theorem State.setVerdict_t_spec (s : State) (v : Verdict) : (s.setVerdict v).t.spec = s.t.spec := by simp
@[simp] theorem State.setVerdict_t_imem (s : State) (v : Verdict) : (s.setVerdict v).t.imem = s.t.imem := by simp
@[simp] theorem State.setVerdict_t_spm (s : State) (v : Verdict) : (s.setVerdict v).t.spm = s.t.spm := by simp
@[simp] theorem State.setVerdict_t_swap (s : State) (v : Verdict) : (s.setVerdict v).t.swap = s.t.swap := by simp
@[simp] theorem State.setVerdict_t_cpl (s : State) (v : Verdict) : (s.setVerdict v).t.cpl = s.t.cpl := by simp
@[simp] theorem State.setVerdict_t_copy (s : State) (v : Verdict) : (s.setVerdict v).t.copy = s.t.copy := by simp
@[simp] theorem State.setVerdict_t_msg (s : State) (v : Verdict) : (s.setVerdict v).t.msg = s.t.msg := by simp
@[simp] theorem State.setVerdict_t_mat (s : State) (v : Verdict) : (s.setVerdict v).t.mat = s.t.mat := by simp

/-! ### The memories at reset -/

theorem State.reset_hbm : State.reset.hbm = [] := rfl
theorem State.reset_far : State.reset.far = [] := rfl
theorem State.reset_host_mem : State.reset.host.mem = [] := rfl
theorem State.reset_tiles : State.reset.tiles = [] := rfl

end Sys2Proof.Machine
end

