-- ==== Sys2Proof/Tests/Tools.lean ====
section
/-!
SUPPORT. What the tests share: small states, and lemmas that turn the quantifiers of a hypothesis into finite ones, so that the
kernel can evaluate it.
-/

namespace Sys2Proof.Tests

open Machine

def thr : Thread := { Thread.reset with st := .running, pc := 64, base := 990 }
def tile : Tile := { Tile.reset with thr := thr, csr := { Csr.reset with isapin := 3 }, imem := (Mem.write [] 64 [0x00, 0x08, 0xE0, 0xE1] : Mem) }
def on (k : Nat) (t : Tile) : State :=
  { State.reset with now := 1000, cur := k, tiles := [(k, t)], mgmt := { Mgmt.reset with bootst := 6 } }
def st (t : Tile) : State := on 5 t
/-- Scalars s1, s2, ... from a list. -/
def regs (l : List W64) : Regs := { Regs.reset with s := (l.zipIdx 1).foldl (fun v p => v.set! p.2 p.1) Regs.reset.s }
def withS (l : List W64) (t : Tile) : Tile := { t with regs := { t.regs with s := (regs l).s } }
def spec0 : Spec := ⟨1, 7, false, true, 128, 192, 64, 500, false, none, false, 0, Vector.replicate 64 9, Vector.replicate 16 3, Loops.reset, [], [], [], [], none⟩
def specT : Tile := { tile with spec := some spec0, csr := { tile.csr with gm := tile.csr.gm.set 1 0x1000A } }
def waitT : Tile := { tile with spec := some { spec0 with wait := true, left := 0 } }
def p : Attr := Attr.plain
/-- A line with `n` one-op bundles of head `hd` and tail-less ops. -/
def line1 (hd tl : Nat) : List Byte := bytesOf (0x0800 + 2^16*hd + 2 ^ (8 * (64 - 8)) * tl) 64
def slot (op : SlotOp) (seq : BitVec 10) : Slot := { Slot.free with used := true, op := op, seq := seq }
def env0 (src : Rank) (tag : W32) (len : Nat) : Env := ⟨src, tag, 0xA, 5, false, false, false, len, 5, 0x81⟩

/-- The value of an answer that is one. -/
def okList {ε α : Type} : Except ε α → List α
  | .ok a => [a]
  | .error _ => []
def errList {ε α : Type} : Except ε α → List ε
  | .ok _ => []
  | .error e => [e]
def nextList : Host.Outcome State Fault Refusal → List State
  | .next t => [t]
  | _ => []
variable {α ε : Type}
theorem list_all {l : List α} {p : α → Prop} : (∀ a ∈ l, p a) ↔ ∀ i : Fin l.length, p (l.get i) := by
  refine ⟨fun h i => h _ (List.get_mem l i), fun h a ha => ?_⟩
  obtain ⟨i, rfl⟩ := List.get_of_mem ha
  exact h i
theorem list_ex {l : List α} {p : α → Prop} : (∃ a ∈ l, p a) ↔ ∃ i : Fin l.length, p (l.get i) := by
  refine ⟨?_, fun ⟨i, h⟩ => ⟨_, List.get_mem l i, h⟩⟩
  rintro ⟨a, ha, h⟩
  obtain ⟨i, rfl⟩ := List.get_of_mem ha
  exact ⟨i, h⟩
theorem list_all_bv {n : Nat} {l : List (BitVec n)} {p : BitVec n → Prop} :
    (∀ a ∈ l, p a) ↔ ∀ i : Fin l.length, p (l.get i) := list_all
theorem list_ex_bv {n : Nat} {l : List (BitVec n)} {p : BitVec n → Prop} :
    (∃ a ∈ l, p a) ↔ ∃ i : Fin l.length, p (l.get i) := list_ex
theorem list_all_bv2 {n m : Nat} {l : List (BitVec n × BitVec m)} {p : BitVec n × BitVec m → Prop} :
    (∀ a ∈ l, p a) ↔ ∀ i : Fin l.length, p (l.get i) := list_all
theorem list_all_fin {n m : Nat} {l : List (Fin n × BitVec m)} {p : Fin n × BitVec m → Prop} :
    (∀ a ∈ l, p a) ↔ ∀ i : Fin l.length, p (l.get i) := list_all
theorem opt_all {x : Option α} {p : α → Prop} : (∀ a, x = some a → p a) ↔ ∀ i : Fin x.toList.length, p (x.toList.get i) := by
  cases x <;> simp
theorem opt_all2 {β : Type} {x : Option α} {y : α → Option β} {p : α → β → Prop} :
    (∀ a b, x = some a → y a = some b → p a b) ↔ ∀ i : Fin x.toList.length, ∀ j : Fin (y (x.toList.get i)).toList.length,
      p (x.toList.get i) ((y (x.toList.get i)).toList.get j) := by
  simp only [← list_all (p := fun a => ∀ j : Fin (y a).toList.length, p a ((y a).toList.get j)), Option.mem_toList]
  refine ⟨fun h a ha => list_all.1 fun b hb => h a b ha (by simpa using hb), fun h a b ha hb => ?_⟩
  exact list_all.2 (h a ha) b (by simpa using hb)
theorem opt_ex {x : Option α} {p : α → Prop} : (∃ a, x = some a ∧ p a) ↔ ∃ i : Fin x.toList.length, p (x.toList.get i) := by
  cases x <;> simp
theorem opt_is {x : Option α} : (∃ a, x = some a) ↔ x.isSome = true := by
  cases x <;> simp
theorem ok_ex {x : Except ε α} {p : α → Prop} : (∃ a, x = .ok a ∧ p a) ↔ ∃ i : Fin (okList x).length, p ((okList x).get i) := by
  cases x <;> simp [okList]
theorem ok_is {x : Except ε α} : (∃ a, x = .ok a) ↔ (okList x).isEmpty = false := by
  cases x <;> simp [okList]
theorem ok_iff {x : Except ε α} {a : α} : x = .ok a ↔ okList x = [a] := by
  cases x <;> simp [okList]
theorem err_iff {x : Except ε α} {e : ε} : x = .error e ↔ errList x = [e] := by
  cases x <;> simp [errList]
theorem next_iff {x : Host.Outcome State Fault Refusal} {t : State} : x = .next t ↔ nextList x = [t] := by
  cases x <;> simp [nextList]
theorem cons_all {l : List α} {p : α → List α → Prop} :
    (∀ a r, l = a :: r → p a r) ↔ ∀ i : Fin l.head?.toList.length, p (l.head?.toList.get i) l.tail := by
  cases l <;> simp
theorem cons_ex {l : List α} {p : α → List α → Prop} :
    (∃ a r, l = a :: r ∧ p a r) ↔ ∃ i : Fin l.head?.toList.length, p (l.head?.toList.get i) l.tail := by
  cases l <;> simp [and_assoc]
theorem cons_is {l : List α} : (∃ a r, l = a :: r) ↔ l ≠ [] := by
  cases l <;> simp
theorem first_iff {l : List α} {p : α → Prop} {x : α} :
    IsFirst l p x ↔ ∃ i < l.length, l[i]? = some x ∧ p x ∧ ∀ y ∈ l.take i, ¬ p y := by
  constructor
  · rintro ⟨u, v, rfl, hx, hu⟩
    exact ⟨u.length, by simp, by simp, hx, by simpa using hu⟩
  · rintro ⟨i, hi, h, hx, hu⟩
    refine ⟨l.take i, l.drop (i + 1), ?_, hx, hu⟩
    rw [List.getElem?_eq_getElem hi, Option.some.injEq] at h
    rw [← h, List.getElem_cons_drop, List.take_append_drop]
theorem first_ex {l : List α} {p : α → Prop} {q : α → Prop} :
    (∃ x, IsFirst l p x ∧ q x) ↔ ∃ i < l.length, ∃ x ∈ l[i]?.toList, p x ∧ (∀ y ∈ l.take i, ¬ p y) ∧ q x := by
  simp only [first_iff, Option.mem_toList]
  constructor
  · rintro ⟨x, ⟨i, hi, h, hx, hu⟩, hq⟩; exact ⟨i, hi, x, h, hx, hu, hq⟩
  · rintro ⟨i, hi, x, h, hx, hu, hq⟩; exact ⟨x, ⟨i, hi, h, hx, hu⟩, hq⟩
theorem first_is {l : List α} {p : α → Prop} : (∃ x, IsFirst l p x) ↔ ∃ x ∈ l, p x := by
  constructor
  · rintro ⟨x, u, v, rfl, hx, -⟩
    exact ⟨x, by simp, hx⟩
  · rintro ⟨x, hx, hp⟩
    induction l with
    | nil => cases hx
    | cons a l ih =>
      by_cases ha : p a
      · exact ⟨a, [], l, rfl, ha, by simp⟩
      · obtain ⟨y, u, v, rfl, hy, hu⟩ := ih (by
          rcases List.mem_cons.1 hx with rfl | hx
          · exact absurd hp ha
          · exact hx)
        refine ⟨y, a :: u, v, rfl, hy, fun z hz => ?_⟩
        rcases List.mem_cons.1 hz with rfl | hz
        · exact ha
        · exact hu z hz
theorem mem_ok {x : Except ε α} {a : α} : a ∈ okList x ↔ x = .ok a := by
  cases x <;> simp [okList, eq_comm]
theorem pair_ex {β : Type} {x : Option (α × β)} {p : α → β → Prop} :
    (∃ a b, x = some (a, b) ∧ p a b) ↔ ∃ i : Fin x.toList.length, p (x.toList.get i).1 (x.toList.get i).2 := by
  cases x with
  | none => simp
  | some y => obtain ⟨a, b⟩ := y; simp [and_assoc]
theorem others_all {l : List α} {k : Nat} {p : α → Prop} :
    (∀ j r, j ≠ k → l[j]? = some r → p r) ↔ ∀ j : Fin l.length, j.val ≠ k → p (l.get j) := by
  constructor
  · intro h j hj
    exact h j.val _ hj (by simp)
  · intro h j r hj hr
    obtain ⟨hl, rfl⟩ := List.getElem?_eq_some_iff.1 hr
    exact h ⟨j, hl⟩ hj
theorem others_ex {l : List α} {k : Nat} {p : α → Prop} :
    (∃ j r, j ≠ k ∧ l[j]? = some r ∧ p r) ↔ ∃ j : Fin l.length, j.val ≠ k ∧ p (l.get j) := by
  constructor
  · rintro ⟨j, r, hj, hr, hp⟩
    obtain ⟨hl, rfl⟩ := List.getElem?_eq_some_iff.1 hr
    exact ⟨⟨j, hl⟩, hj, hp⟩
  · rintro ⟨j, hj, hp⟩
    exact ⟨j.val, _, hj, by simp, hp⟩
theorem opt_not {x : Option α} {p : α → Prop} :
    (∀ a, ¬ (x = some a ∧ p a)) ↔ ∀ i : Fin x.toList.length, ¬ p (x.toList.get i) := by
  cases x <;> simp
theorem noRoute_of {s : State} {pkg : Nat}
    (h : (s.net.srt.find (pkg % 4096)).all (fun e => !(e.getLsbD 20 && decide (e.toNat % 2 ^ 20 = pkg))) = true) (e : W64) :
    ¬ Routes s pkg e := by
  rintro ⟨he, h1, h2, -⟩
  rw [he, Option.all_some, h1, decide_eq_true h2] at h
  cases h
theorem between_all {a b : Nat} {p : Nat → Prop} : (∀ x, a ≤ x → x < b → p x) ↔ ∀ x < b, a ≤ x → p x :=
  ⟨fun h x hb ha => h x ha hb, fun h x ha hb => h x hb ha⟩
theorem records_iff {s : State} {op : Nat} {a b : Shape} : Records s op a b ↔
    (a.rsv = false ∧ b.rsv = false ∧ s.t.shapeTrap a = none ∧ s.t.shapeTrap b = none) ∧ copyFits op a b = true ∧
      (op = 1 ∨ spansMeet a b = false) :=
  ⟨fun h => ⟨h.legal, h.fits, h.apart⟩, fun h => ⟨h.1, h.2.1, h.2.2⟩⟩
/-- The packet of an envelope's arrival, and whether it is a rendezvous. -/
def arrived : Instr → Option (Bool × Packet)
  | .eager p => some (false, p)
  | .rts p => some (true, p)
  | _ => none
theorem arriving_of {s : State} {i : Instr} {e : Env} {data : List Byte} (p : Packet)
    (h : arrived i = some (e.rdv, p)) (hp : Plain p (if e.rdv then 1 else 0)) (he : Env.of p.payload = some e)
    (hd : p.payload.drop 32 = data) (hk : isHostKey s.cur = false) : Arriving s i e data := by
  refine ⟨p, ?_, he, hd, hk⟩
  cases i <;> simp only [arrived, reduceCtorEq, Option.some.injEq, Prod.mk.injEq] at h <;> obtain ⟨h1, rfl⟩ := h <;>
    rw [← h1] at hp <;> simp_all
theorem entryForm_of {bs : List Byte} {kind : Nat} {used : List (Nat × Nat)} (h : bytesAt bs 0 1 = kind)
    (hu : (bs.zipIdx.all fun x => x.1 == 0 || x.2 == 0 || x.2 == 2 || x.2 == 3 ||
      used.any fun u => decide (u.1 ≤ x.2) && decide (x.2 < u.1 + u.2)) = true) : EntryForm bs kind used := by
  refine ⟨h, fun k _ hz => ?_⟩
  have hk : k < bs.length := by
    rcases Nat.lt_or_ge k bs.length with hk | hk
    · exact hk
    · exact absurd (by simp [List.getD, List.getElem?_eq_none hk]) hz
  have := List.all_eq_true.1 hu (bs[k], k) (List.mk_mem_zipIdx_iff_getElem?.2 (by simp [hk]))
  rw [List.getD, List.getElem?_eq_getElem hk, Option.getD_some] at hz
  simp only [Bool.or_eq_true, beq_iff_eq, List.any_eq_true, Bool.and_eq_true, decide_eq_true_eq] at this
  rcases this with (((h | h) | h) | h) | ⟨u, hu, h⟩
  · exact absurd h hz
  · exact .inl h
  · exact .inr (.inl h)
  · exact .inr (.inr (.inl h))
  · exact .inr (.inr (.inr ⟨u, hu, h⟩))
/-- Whether a pair has an entry. -/
def pairReady (s : State) (q : Fin 64) : Bool :=
  let p := s.host.pair[q]
  p.en && decide (4 ≤ p.lsize.toNat) && decide (p.lsize.toNat ≤ 12) && p.head != p.tail.toNat % 2 ^ p.lsize.toNat
theorem takes_of {i : Instr} {s : State} {q : Fin 64} (kind : Nat) (used : List (Nat × Nat))
    (hk : hostKind i = some (kind, used)) (hc : s.cur = q.val) (hp : pairReady s q = true)
    (hf : Config.ringFull s.freeCtr = false) (hb : EntryForm (entryOf s q) kind used) : TakesEntry i s q := by
  simp only [pairReady, Bool.and_eq_true, decide_eq_true_eq, bne_iff_ne] at hp
  obtain ⟨⟨⟨h1, h2⟩, h3⟩, h4⟩ := hp
  exact ⟨hc, ⟨h1, h2, h3, h4⟩, hf, kind, used, hk, hb⟩
/-- Whether a bundle reads a queue. -/
def Reg.isQ : Reg → Bool
  | .q _ => true
  | _ => false
theorem fetches_of {x : Tile} {k j hd tl : Nat} {o : Opc} {i : Instr}
    (h1 : ∃ ops ∈ okList (parseLine (x.line (x.thr.pc.toNat / 64))), bundleAt ops (x.thr.pc.toNat % 64) = [(j, hd, tl)])
    (h2 : Opc.ofNum (headOpc hd) = some o) (h3 : okList (decodeOp x.csr.isapin.toNat (isSupervisor k) hd tl) = [i])
    (h4 : i.wf = true) (h5 : (insAttr i).iq = 0)
    (h6 : ((BOp.mk j o (Tail.ofNat tl) i).sources.all fun y => !Reg.isQ y.2) = true) : Fetches x k j hd tl o i := by
  obtain ⟨ops, ho, hb⟩ := h1
  refine ⟨⟨ops, mem_ok.1 ho, hb⟩, h2, ok_iff.2 h3, h4, h5, fun c r hr q hq => ?_⟩
  have := List.all_eq_true.1 h6 _ hr
  subst hq
  simp [Reg.isQ] at this

end Sys2Proof.Tests
end

