-- ==== Sys2Proof/Tests/MetControl.lean ====
section
/-!
SUPPORT. States that meet the hypotheses of the statements about loops, branches, control registers, fences, threads, traps and collective branches: `met_<Obligation>_<path>` meets those of the
clause at that place of the statement (1: the left side of a conjunction, 2: the right side).
-/

set_option linter.unusedVariables false
set_option linter.unusedSimpArgs false

namespace Sys2Proof.Tests

set_option Elab.async false

open Machine

namespace Loops

def lv (a : Bool) (start len left pos : Nat) : Level := ⟨a, BitVec.ofNat 26 start, len, BitVec.ofNat 32 left, true, pos, false, []⟩

def lps (l : List Level) : Loops := ⟨(l.zipIdx).foldl (fun v p => v.set! p.2 p.1) Loops.reset.lv, l.length⟩
def line5 : Nat → List Byte := fun base => bytesOf (0x2800 + 2^16*0x2000 + 2^32*0x2000 + 2^48*0x2000+2^64*0x2000+2^80*0x2000) 64

def bT (d : Nat) (r : List W64) : Tile := { withS r tile with imem := (Mem.write (Mem.write (Mem.write [] 0 (line5 0)) 64 (line5 64)) 128 (line5 128)), loops := lps ((List.range d).map fun i => lv true (64+i) (40-5*i) 3 1), regs := { (withS r tile).regs with m := tile.regs.m.set 2 0xFFFF, q1 := [3,0] } }
def z1 : State := (st (bT 0 [128,0]))

def z2 : State := (st (bT 2 [128,0]))
def z3 : State := (st (bT 6 [128,0]))

theorem met_BranchesTransfer_11 :
    ∃ (x : State → Option Nat), branchOp (Instr.br p 128) = some x ∧ ∃ (a : Nat), x z1 = some a ∧ z1.t.loops.depth = 0 :=
  by simp -failIfUnchanged only [↓opt_ex, ↓opt_is] <;> decide +kernel

theorem met_BranchesTransfer_121 :
    ∃ (x : State → Option Nat), branchOp (Instr.bz p (Reg.s 1) 128) = some x ∧ x z1 = none :=
  by simp -failIfUnchanged only [↓opt_ex, ↓opt_is] <;> decide +kernel

theorem met_BranchesTransfer_122 :
    ∃ (x : State → Option Nat), branchOp (Instr.br p 128) = some x ∧ ∃ (a : Nat), x z2 = some a ∧ z2.t.loops.depth ≠ 0 :=
  by simp -failIfUnchanged only [↓opt_ex, ↓opt_is] <;> decide +kernel

theorem met_BranchesTransfer_2 :
    ∃ (x : State), z1.wrS p 1 (Reg.s 9) (BitVec.ofNat 64 (z1.t.nextAddr (BitVec.toNat z1.t.thr.pc))) = Except.ok x ∧
    z1.t.loops.depth = 0 :=
  by simp -failIfUnchanged only [↓ok_ex, ↓ok_is, ok_iff] <;> decide +kernel

theorem met_LoopsBreak_1 :
    2 = z2.t.loops.depth ∧ z2.t.loops.lv[(2 : Fin 6)].strides.length < 8 :=
  by decide +kernel

theorem met_LoopsBreak_211 :
    0 < z2.t.loops.depth ∧ z2.t.loops.depth ≤ 6 ∧
    (z2.t.loops.depth = 1 ∨ ∃ (k : Fin 6), ↑k = z2.t.loops.depth - 2 ∧ z2.t.loops.lv[k].act = true ∧ z2.t.loops.lv[k].pos + (z2.t.loops.top.len - z2.t.loops.top.pos) < z2.t.loops.lv[k].len) :=
  by decide +kernel

theorem met_LoopsBreak_2121 :
    0 < z2.t.loops.depth ∧ z2.t.loops.depth ≤ 6 ∧
    (z2.t.loops.depth = 1 ∨ ∃ (k : Fin 6), ↑k = z2.t.loops.depth - 2 ∧ z2.t.loops.lv[k].act = true ∧ z2.t.loops.lv[k].pos + (z2.t.loops.top.len - z2.t.loops.top.pos) < z2.t.loops.lv[k].len) ∧
    z2.rdS (Reg.s 2) = 0 :=
  by decide +kernel

theorem met_LoopsBreak_21221 :
    0 < z2.t.loops.depth ∧ z2.t.loops.depth ≤ 6 ∧ z2.rdS (Reg.s 1) ≠ 0 :=
  by decide +kernel

theorem met_LoopsBreak_212221 :
    0 < z2.t.loops.depth ∧ z2.t.loops.depth ≤ 6 ∧
    (z2.t.loops.depth = 1 ∨ ∃ (k : Fin 6), ↑k = z2.t.loops.depth - 2 ∧ z2.t.loops.lv[k].act = true ∧ z2.t.loops.lv[k].pos + (z2.t.loops.top.len - z2.t.loops.top.pos) < z2.t.loops.lv[k].len) ∧
    z2.rdS (Reg.s 1) ≠ 0 :=
  by decide +kernel

theorem met_LoopsBreak_212222 :
    0 < z2.t.loops.depth ∧ z2.t.loops.depth ≤ 6 ∧ z2.rdS (Reg.s 2) = 0 :=
  by decide +kernel

theorem met_LoopsBreak_221 :
    loopOp (Instr.loop p 3 5) = some (BitVec.toNat (3 : BitVec 12), fun (s : State) => Except.ok (s, BitVec.setWidth 32 (5 : BitVec 24))) ∧
    (z3.t.loops.depth = 6 ∨ z3.t.thr.inHandler = true ∨ 0 < z3.t.loops.depth ∧ z3.t.loops.depth ≤ 6 ∧ z3.t.loops.top.len < z3.t.loops.top.pos + 1 + BitVec.toNat (3 : BitVec 12)) :=
  ⟨rfl, by decide +kernel⟩

theorem met_LoopsBreak_2221 :
    (z3.t.loops.depth = 6 ∨ ∃ (k : Fin 6), ↑k = z3.t.loops.depth ∧ (8 : Nat) ≤ z3.t.loops.lv[k].strides.length) :=
  by decide +kernel

theorem met_LoopsBreak_2222 :
    z1.t.loops.depth = 0 :=
  by decide +kernel

theorem met_LoopsOpen_1 :
    loopOp (.loop p 3 5) = some (3, fun s => .ok (s, 5)) ∧ (st tile).t.thr.inHandler = false ∧ (st tile).t.loops.depth = 0 ∧
      5 ≠ 0 :=
  ⟨rfl, by decide +kernel, by decide +kernel, by decide⟩

theorem met_LoopsOpen_2 :
    loopOp (.loop p 3 0) = some (3, fun s => .ok (s, 0)) ∧ (st tile).t.thr.inHandler = false ∧ (st tile).t.loops.depth = 0 :=
  ⟨rfl, by decide +kernel, by decide +kernel⟩

end Loops

namespace Csrs

def engT : Tile := { tile with cpl := (tile.cpl.set 3 { Slot.free with used := true, op := .send }).set 4 { Slot.free with used := true, op := .mget } }

def z1 : State := (st specT)
def z2 : State := (st (withS [3] specT))

def z3 : State := (st (withS [3] tile))
def z4 : State := (st (withS [0x722] specT))

def z5 : State := (st { tile with thr := { tile.thr with inHandler := true }})
def z6 : State := (st (withS [0x822] tile))

def z7 : State := (st (withS [0x722] tile))
def z8 : State := (st { tile with csr := { tile.csr with fmtPend := some (0x123,0) }})

def z9 : State := (st tile)
def z10 : State := (st engT)

theorem met_ControlRegisters_1 :
    ∃ (s1 : State), z1.wrS p 1 (Reg.s 3) (csrValue z1 (BitVec.toNat (13 : BitVec 12))) = Except.ok s1 :=
  by simp -failIfUnchanged only [↓ok_is, ok_iff] <;> decide +kernel

theorem met_ControlRegisters_211 :
    csrwOp (Instr.csrw p 5 (Reg.s 1)) = some (BitVec.toNat (5 : BitVec 12), Reg.s 1) ∧ z2.t.isSpec = true ∧
    (BitVec.toNat (5 : BitVec 12) = 5 ∨ BitVec.toNat (5 : BitVec 12) = 7 ∨ BitVec.toNat (5 : BitVec 12) = 11 ∨ BitVec.toNat (5 : BitVec 12) = 12) :=
  by decide +kernel

theorem met_ControlRegisters_212 :
    csrwOp (Instr.csrw p 5 (Reg.s 1)) = some (BitVec.toNat (5 : BitVec 12), Reg.s 1) ∧
    (z3.t.isSpec = false ∨ ¬(BitVec.toNat (5 : BitVec 12) = 5 ∨ BitVec.toNat (5 : BitVec 12) = 7 ∨ BitVec.toNat (5 : BitVec 12) = 11 ∨ BitVec.toNat (5 : BitVec 12) = 12)) :=
  by decide +kernel

theorem met_ControlRegisters_22111 :
    fmtOp (Instr.fmt p (Reg.s 1)) = some (12, true, fun (s : State) => s.rdS (Reg.s 1)) ∧ z4.t.isSpec = true :=
  ⟨rfl, by decide +kernel⟩

theorem met_ControlRegisters_221121 :
    fmtOp (Instr.fmtImm p 2003) = some (12, true, fun (x : State) => BitVec.setWidth 64 (2003 : BitVec 11)) ∧
    z5.t.isSpec = false ∧ z5.t.thr.inHandler = true :=
  ⟨rfl, by decide +kernel, by decide +kernel⟩

theorem met_ControlRegisters_2211221 :
    fmtOp (Instr.fmt p (Reg.s 1)) = some (12, true, fun (s : State) => s.rdS (Reg.s 1)) ∧ z6.t.isSpec = false ∧
    z6.t.thr.inHandler = false ∧
    (¬fmtListed (z6.rdS (Reg.s 1)) ∨ true = true ∧ 2 ^ (11 : Nat) ≤ BitVec.toNat (z6.rdS (Reg.s 1))) :=
  ⟨rfl, by decide +kernel, by decide +kernel, by simp -failIfUnchanged only [fmtListed] <;> decide +kernel⟩

theorem met_ControlRegisters_2211222 :
    fmtOp (Instr.fmt p (Reg.s 1)) = some (12, true, fun (s : State) => s.rdS (Reg.s 1)) ∧ z7.t.isSpec = false ∧
    z7.t.thr.inHandler = false ∧ fmtListed (z7.rdS (Reg.s 1)) ∧ (true = true → BitVec.toNat (z7.rdS (Reg.s 1)) < 2 ^ 11) :=
  ⟨rfl, by decide +kernel, by decide +kernel, by simp -failIfUnchanged only [fmtListed] <;> decide +kernel, by decide +kernel⟩

theorem met_ControlRegisters_2212 :
    z8.t.csr.fmtPend = some (291, 0) :=
  by decide +kernel

theorem met_ControlRegisters_222 :
    ∃ (sp : Spec), z1.t.spec = some sp ∧ sp.stall = 0 :=
  by simp -failIfUnchanged only [↓opt_ex, ↓opt_is] <;> decide +kernel

theorem met_FencesWait_121 :
    EngDone z9.t :=
  by simp -failIfUnchanged only [EngDone, Outstanding, ↓opt_all, ↓list_all_bv, ↓list_all_bv2] <;> decide +kernel

theorem met_FencesWait_1221 :
    MoonDone z9.t :=
  by simp -failIfUnchanged only [MoonDone, Outstanding, ↓opt_all, ↓list_all_bv, ↓list_all_bv2] <;> decide +kernel

theorem met_FencesWait_12221 :
    AllDone z9.t :=
  by simp -failIfUnchanged only [AllDone, EngDone, MoonDone, Outstanding, ↓opt_all, ↓list_all_bv, ↓list_all_bv2] <;> decide +kernel

theorem met_FencesWait_122221 :
    z10.t.iss.clear = false ∧ (¬EngDone z10.t) :=
  ⟨by decide +kernel, by simp -failIfUnchanged only [EngDone, Outstanding, ↓opt_all, ↓list_all_bv, ↓list_all_bv2] <;> decide +kernel⟩

theorem met_FencesWait_1222221 :
    z10.t.iss.clear = false ∧ (¬MoonDone z10.t) :=
  ⟨by decide +kernel, by simp -failIfUnchanged only [MoonDone, Outstanding, ↓opt_all, ↓list_all_bv, ↓list_all_bv2] <;> decide +kernel⟩

theorem met_FencesWait_1222222 :
    z10.t.iss.clear = false ∧ (¬AllDone z10.t) :=
  ⟨by decide +kernel,
   by simp -failIfUnchanged only [AllDone, EngDone, MoonDone, Outstanding, ↓opt_all, ↓list_all_bv, ↓list_all_bv2] <;> decide +kernel⟩

end Csrs

namespace Threads

def nopS (pd : Nat) (now : Nat) (o : Nat := 0) : State := { st { tile with imem := Mem.write [] 64 (line1 (0xE000 + 32*o) (pd * 2^21)) } with now := now, turn := [5, 6] }

def hT : Tile := { tile with msg := { tile.msg with posted := [⟨3,4,5,0xA,64,10,0x43⟩], hamper := [⟨.eager, env0 7 3 64, none, 0,1,64,some 0x43,0⟩,⟨.rts, env0 7 3 64, none, 0,0,0,none,0⟩], ingress := [env0 9 3 64] }, cpl := (tile.cpl.set 3 { slot .send 1 with state := 1 }).set 4 { slot .gbar 5 with state := 0 } }
def hT2 : Tile := { hT with cpl := hT.cpl.set 5 (slot .send 1) }

def gmT (g : W64) (go : Option Nat) : Tile := { tile with csr := { tile.csr with gm := tile.csr.gm.set 2 g }, thr := { tile.thr with tbarGo := go } }
def tb : State := { st (gmT 0x5000A none) with tiles := [(5, gmT 0x5000A none),(6, let t := gmT 0x5000A none; { t with thr := { t.thr with tbar := some 2} })], red := { Red.reset with groups := [⟨0,0xA,0,2,[],[5,6],[],true,0⟩] } }

def flT : Tile := { hT with regs := { hT.regs with flight := [⟨1003,.s 5,77,0,0,false⟩,⟨1004,.v 5,77,0,0,false⟩,⟨1005,.s 50,99,0,0,false⟩] }, thr := { hT.thr with deferred := [⟨.engineFault, 0x43,false⟩,⟨.align,3,false⟩] } }
def uliT (v : W64) : Tile := { flT with csr := { flT.csr with ulivec := v }, cpl := (flT.cpl.set 3 { slot .recv 9 with state := 1, length := 55, src := 7, uli := true, uliAt := some 998 }).set 9 { slot .recv 9 with state := 1, uli := true, uliAt := some 998 } }

def nopP (pd : Nat) (now : Nat) : State := { st { tile with imem := Mem.write [] 64 (line1 0xE000 (pd * 2^17)) } with now := now, turn := [5, 6] }
def zNop : State := nopP 7 990

def zRnd : State := st { flT with
  thr := { flT.thr with inHandler := true, uliRet := 192 }
  mat := { flT.mat with wide := [⟨.lrnd 0x100 false true (some 5), 0, 0, 1000, some 1001, 1010, false⟩] } }

def z1 : State := (nopS 0 990)
def z2 : State := (nopS 0 1000)

def z3 : State := (st specT)
def z4 : State := (st hT2)

def z5 : State := (st hT)
def z6 : State := (st { gmT 0x5000A none with spec := some spec0 })

def z7 : State := (st (gmT 0xA none))
def z8 : State := (st (gmT 0x1000A none))

def z9 : State := (st (gmT 0x5000A none))
def z10 : State := (st (gmT 0x5000A (some 990)))

def z11 : State := (st flT)
def z12 : State := (st { flT with spec := some spec0 })

def z13 : State := (st { flT with thr := { flT.thr with inHandler := true, uliRet := 192 }, regs := { flT.regs with shadow := flT.regs.shadow.set 2 55 } })
def z14 : State := (on 306 (withS [64] { flT with thr := { flT.thr with svHandler := true } }))

def z15 : State := (st { uliT 0x41 with cpl := (uliT 0x41).cpl.set 3 { (uliT 0x41).cpl[3] with nanMis := true } })
def z16 : State := (st (uliT 0x41))

theorem met_FencesWait_21 :
    TurnOf z1 5 [6] ∧ NotAborted z1 5 ∧ Quiet (z1.tile 5) z1.now ∧ Fetches (z1.tile 5) 5 0 57344 0 Opc.nop (Instr.nop p) ∧
    z1.now < (z1.tile 5).thr.base + 1 + (Tail.ofNat 0).pdist :=
  ⟨by simp -failIfUnchanged only [TurnOf, ↓cons_all] <;> decide +kernel,
   by simp -failIfUnchanged only [NotAborted, ↓opt_all, ↓opt_all2] <;> decide +kernel, by constructor <;> decide +kernel,
   by apply fetches_of <;> decide +kernel, by decide +kernel⟩

theorem met_FencesWait_222 :
    TurnOf z2 5 [6] ∧ NotAborted z2 5 ∧ Quiet (z2.tile 5) z2.now ∧
    Fetches (z2.tile 5) 5 0 57344 (0 * 2 ^ 21) Opc.nop (Instr.nop p) ∧
    (z2.tile 5).thr.base + 1 + (Tail.ofNat (0 * 2 ^ 21)).pdist ≤ z2.now :=
  ⟨by simp -failIfUnchanged only [TurnOf, ↓cons_all] <;> decide +kernel,
   by simp -failIfUnchanged only [NotAborted, ↓opt_all, ↓opt_all2] <;> decide +kernel, by constructor <;> decide +kernel,
   by apply fetches_of <;> decide +kernel, by decide +kernel⟩

theorem met_ThreadsEnd_111 :
    z3.t.isSpec = true :=
  by decide +kernel

theorem met_ThreadsEnd_1121 :
    z4.t.isSpec = false ∧ z4.t.iss.clear = false ∧ (¬AllDone z4.t) :=
  ⟨by decide +kernel, by decide +kernel,
   by simp -failIfUnchanged only [AllDone, EngDone, MoonDone, Outstanding, ↓opt_all, ↓list_all_bv, ↓list_all_bv2] <;> decide +kernel⟩

theorem met_ThreadsEnd_1122 :
    z5.t.isSpec = false ∧ AllDone z5.t :=
  ⟨by decide +kernel,
   by simp -failIfUnchanged only [AllDone, EngDone, MoonDone, Outstanding, ↓opt_all, ↓list_all_bv, ↓list_all_bv2] <;> decide +kernel⟩

theorem met_ThreadsEnd_121 :
    z3.t.isSpec = true :=
  by decide +kernel

theorem met_ThreadsEnd_122 :
    z5.t.isSpec = false :=
  by decide +kernel

theorem met_ThreadsEnd_211 :
    z6.t.isSpec = true :=
  by decide +kernel

theorem met_ThreadsEnd_2121 :
    z7.t.isSpec = false ∧ gmJoined z7.t.csr.gm[(2 : Fin 8)] = false :=
  by decide +kernel

theorem met_ThreadsEnd_21221 :
    z8.t.isSpec = false ∧ gmJoined z8.t.csr.gm[(2 : Fin 8)] = true ∧ BitVec.getLsbD z8.t.csr.gm[(2 : Fin 8)] 18 = false :=
  by decide +kernel

theorem met_ThreadsEnd_212221 :
    z9.t.isSpec = false ∧ gmJoined z9.t.csr.gm[(2 : Fin 8)] = true ∧ BitVec.getLsbD z9.t.csr.gm[(2 : Fin 8)] 18 = true ∧
    z9.t.thr.tbarGo = none :=
  by decide +kernel

theorem met_ThreadsEnd_212222 :
    z10.t.isSpec = false ∧ gmJoined z10.t.csr.gm[(2 : Fin 8)] = true ∧ BitVec.getLsbD z10.t.csr.gm[(2 : Fin 8)] 18 = true ∧
    ∃ (c : Nat), z10.t.thr.tbarGo = some c ∧ c ≤ z10.now ∧ z10.t.thr.tbar = none :=
  ⟨by decide +kernel, by decide +kernel, by decide +kernel, by simp -failIfUnchanged only [↓opt_ex, ↓opt_is] <;> decide +kernel⟩

theorem met_ThreadsEnd_2212 :
    tb.groupAt (gmGroup tb.t.csr.gm[(2 : Fin 8)]) (tb.rankOf tb.cur) = some { ix := 0, grp := 10, home := 0, count := 2, joiners := [], members := [(5 : Rank), 6], left := [], formed := true, due := 0 : Group } ∧
    { ix := 0, grp := 10, home := 0, count := 2, joiners := [], members := [(5 : Rank), 6], left := [], formed := true, due := 0 : Group }.grp = gmGroup tb.t.csr.gm[(2 : Fin 8)] ∧
    (∀ (r : Rank), r ∈ { ix := 0, grp := 10, home := 0, count := 2, joiners := [], members := [(5 : Rank), 6], left := [], formed := true, due := 0 : Group }.live → tb.isLocal r = true) ∧
    (∃ (r : Rank), r ∈ { ix := 0, grp := 10, home := 0, count := 2, joiners := [], members := [(5 : Rank), 6], left := [], formed := true, due := 0 : Group }.live ∧ keyOf r = tb.cur) ∧
    tb.t.thr.st = ThreadSt.running ∧ tb.t.thr.tbarGo = none ∧
    (∀ (r : Rank), r ∈ { ix := 0, grp := 10, home := 0, count := 2, joiners := [], members := [(5 : Rank), 6], left := [], formed := true, due := 0 : Group }.live → keyOf r = tb.cur ∨ (tb.tile (keyOf r)).atTbar (gmGroup tb.t.csr.gm[(2 : Fin 8)]) = true) :=
  ⟨by decide +kernel, by decide +kernel, by simp -failIfUnchanged only [↓list_all_bv, ↓list_all_bv2] <;> decide +kernel,
   by simp -failIfUnchanged only [↓list_ex_bv] <;> decide +kernel, by decide +kernel, by decide +kernel,
   by simp -failIfUnchanged only [↓list_all_bv, ↓list_all_bv2] <;> decide +kernel⟩

theorem met_TrapsAreTaken_1 :
    Cause.align ≠ Cause.fmtMismatch ∧ (∀ (sp : Spec), (z11.tile 5).spec = some sp → sp.wait = true) :=
  ⟨by decide +kernel, by simp -failIfUnchanged only [↓opt_all] <;> decide +kernel⟩

theorem met_TrapsAreTaken_211 :
    ∃ (sp : Spec), (z12.tile 5).spec = some sp ∧ sp.wait = false :=
  by simp -failIfUnchanged only [↓opt_ex, ↓opt_is] <;> decide +kernel

theorem met_TrapsAreTaken_2121 :
    ∃ (sp : Spec), (z12.tile 5).spec = some sp ∧ sp.wait = false ∧ 0 ≠ 5 :=
  by simp -failIfUnchanged only [↓opt_ex, ↓opt_is] <;> decide +kernel

theorem met_TrapsAreTaken_2122 :
    ∃ (sp : Spec), (z12.tile 5).spec = some sp ∧ sp.wait = false :=
  by simp -failIfUnchanged only [↓opt_ex, ↓opt_is] <;> decide +kernel

theorem met_TrapsAreTaken_221 :
    ∃ (d : TrapRec) (r : List TrapRec), z11.t.thr.deferred = d :: r ∧ d.cause ≠ Cause.fmtMismatch ∧ z11.t.spec = none :=
  by simp -failIfUnchanged only [↓cons_ex, ↓cons_is] <;> decide +kernel

theorem met_TrapsAreTaken_222 :
    5 < 4096 ∧ (z11.tile 5).thr.st = ThreadSt.running ∧ (z11.tile 5).spec = none ∧ Cause.eccUncorr ≠ Cause.fmtMismatch :=
  by decide +kernel

theorem met_TrapsAndReturns_111 :
    z11.t.isSpec = false :=
  by decide +kernel

theorem met_TrapsAndReturns_112 :
    z3.t.isSpec = true :=
  by decide +kernel

theorem met_TrapsAndReturns_1211 :
    z11.t.thr.inHandler = false :=
  by decide +kernel

theorem met_TrapsAndReturns_12122 :
    z13.t.thr.inHandler = true ∧ z13.t.rounds = false :=
  by decide +kernel

theorem met_TrapsAndReturns_1221 :
    z3.t.isSpec = true :=
  by decide +kernel

theorem met_TrapsAndReturns_12221 :
    z11.t.isSpec = false ∧ (isSupervisor z11.cur = false ∨ z11.t.thr.svHandler = false) :=
  by decide +kernel

theorem met_TrapsAndReturns_12222 :
    z14.t.isSpec = false ∧ isSupervisor z14.cur = true ∧ z14.t.thr.svHandler = true :=
  by decide +kernel

theorem met_TrapsAndReturns_21 :
    BitVec.getLsbD z15.t.csr.ulivec 0 = true ∧ z15.t.thr.inHandler = false ∧ z15.t.spec = none ∧
    ∃ (c : Nat), z15.t.cpl[(3 : Fin 64)].uliAt = some c ∧ c + (2 : Nat) ≤ z15.now ∧
    (∀ (j : Fin 64) (d : Nat), z15.t.cpl[j].uliAt = some d → c ≤ d ∧ (c = d → 3 ≤ j)) ∧ z15.t.cpl[(3 : Fin 64)].nanMis = true :=
  ⟨by decide +kernel, by decide +kernel, by decide +kernel,
   by simp -failIfUnchanged only [↓opt_all, ↓opt_ex, ↓opt_is] <;> decide +kernel⟩

theorem met_TrapsAndReturns_22 :
    BitVec.getLsbD z16.t.csr.ulivec 0 = true ∧ z16.t.thr.inHandler = false ∧ z16.t.spec = none ∧
    ∃ (c : Nat), z16.t.cpl[(3 : Fin 64)].uliAt = some c ∧ c + (2 : Nat) ≤ z16.now ∧
    (∀ (j : Fin 64) (d : Nat), z16.t.cpl[j].uliAt = some d → c ≤ d ∧ (c = d → 3 ≤ j)) ∧ z16.t.cpl[(3 : Fin 64)].nanMis = false :=
  ⟨by decide +kernel, by decide +kernel, by decide +kernel,
   by simp -failIfUnchanged only [↓opt_all, ↓opt_ex, ↓opt_is] <;> decide +kernel⟩

theorem met_FencesWait_221 :
    TurnOf zNop 5 [6] ∧ NotAborted zNop 5 ∧ Quiet (zNop.tile 5) zNop.now ∧
      Fetches (zNop.tile 5) 5 0 57344 917504 Opc.nop (Instr.nop { p with pdist := 7 }) ∧ (Tail.ofNat 917504).pdist = 7 ∧
      zNop.now < (zNop.tile 5).thr.base + 8 :=
  ⟨by simp only [TurnOf, ↓cons_all] <;> decide +kernel, by simp only [NotAborted, ↓opt_all2] <;> decide +kernel,
    by constructor <;> decide +kernel, by apply fetches_of <;> decide +kernel, by decide +kernel, by decide +kernel⟩

theorem met_TrapsAndReturns_12121 : zRnd.t.thr.inHandler = true ∧ zRnd.t.rounds = true := by decide +kernel

end Threads

namespace Cbr

def bT : Tile := { withS [0,1] tile with csr := { tile.csr with gm := (tile.csr.gm.set 1 0x1000A), cbseq := tile.csr.cbseq.set 1 7 }, imem := Mem.write tile.imem 192 [0,8,0,0xE0], regs := { (withS [0,1] tile).regs with m := tile.regs.m.set 3 0x10000 }, spm := [(5,6),(0x10001,7)], swap := ⟨[(3,9)],[0],[]⟩ , spmBad := [16] }

def rT (r : Option (Option Bool)) : Tile := { bT with spec := some { spec0 with result := r, vcopies := [(3,77),(4,78)], pop1 := [5,6] }, swap := ⟨[(3,9)],[0],[0]⟩, regs := { bT.regs with q1 := [7], flight := [⟨1003,.s 5,77,0,0,true⟩] } }
def brp (st : Nat) (out : Byte) : Packet := { mkPacket (1022) 5 0x1B 0xA 0 out.toNat 0 (bytesOf (st + 2^16*7) 16) with sv := false }

def z1 : State := (st { bT with thr := { bT.thr with inHandler := true } })
def z2 : State := (st { bT with loops := { bT.loops with depth := 2 } })

def z3 : State := (st bT)
def z4 : State := (st { bT with spec := some spec0 })

def z5 : State := (st (rT (some (some true))))
def z6 : State := (st (rT (some (some false))))

def z7 : State := (st (rT (some none)))
def z8 : State := (st (rT none))

def z9 : State := (st { rT none with thr := { (rT none).thr with st := .stopped } })

theorem met_BranchesSpeculate_11 :
    cbrOp (Instr.cbrAll p 1 (Pred.scalar (Reg.s 1)) true 193) = some (true, 1, Pred.scalar (Reg.s 1), true, 193) ∧
    z1.t.thr.inHandler = true :=
  by decide +kernel

theorem met_BranchesSpeculate_121 :
    cbrOp (Instr.cbrAll p 1 (Pred.scalar (Reg.s 1)) true 193) = some (true, 1, Pred.scalar (Reg.s 1), true, 193) ∧
    z2.t.thr.inHandler = false ∧ z2.t.loops.depth ≠ 0 :=
  by decide +kernel

theorem met_BranchesSpeculate_1221 :
    cbrOp (Instr.cbrAll p 2 (Pred.scalar (Reg.s 1)) true 193) = some (true, 2, Pred.scalar (Reg.s 1), true, 193) ∧
    z3.t.thr.inHandler = false ∧ z3.t.loops.depth = 0 ∧ gmJoined z3.t.csr.gm[(2 : Fin 8)] = false :=
  by decide +kernel

theorem met_BranchesSpeculate_12221 :
    cbrOp (Instr.cbrAll p 1 (Pred.scalar (Reg.s 1)) true 193) = some (true, 1, Pred.scalar (Reg.s 1), true, 193) ∧
    z4.t.thr.inHandler = false ∧ z4.t.loops.depth = 0 ∧ gmJoined z4.t.csr.gm[(1 : Fin 8)] = true ∧ z4.t.isSpec = true :=
  by decide +kernel

theorem met_BranchesSpeculate_12222 :
    cbrOp (Instr.cbrAny p 1 (Pred.mask 3 MWid.w32) false 192) = some (false, 1, Pred.mask 3 MWid.w32, false, 192) ∧
    z3.t.thr.inHandler = false ∧ z3.t.loops.depth = 0 ∧ gmJoined z3.t.csr.gm[(1 : Fin 8)] = true ∧ z3.t.isSpec = false :=
  by decide +kernel

theorem met_BranchesSpeculate_21 :
    ∃ (x : Spec), z5.t.spec = some x ∧ x.wait = false ∧ x.result = some (some x.hint) ∧ x.trap = none ∧ x.sends = [] :=
  by simp -failIfUnchanged only [↓opt_ex, ↓opt_is] <;> decide +kernel

theorem met_BranchesSpeculate_221 :
    ∃ (x : Spec), z6.t.spec = some x ∧ x.wait = false ∧ x.result = some (some !x.hint) :=
  by simp -failIfUnchanged only [↓opt_ex, ↓opt_is] <;> decide +kernel

theorem met_BranchesSpeculate_2221 :
    ∃ (x : Spec), z7.t.spec = some x ∧ isSupervisor z7.cur = false ∧
    (Instr.cbrResolve = Instr.cbrResolve ∧ x.result = some none ∨ Instr.cbrResolve = Instr.cbrtoExpire) :=
  by simp -failIfUnchanged only [↓opt_ex, ↓opt_is] <;> decide +kernel

theorem met_BranchesSpeculate_22221 :
    Plain (brp 1 1) 27 ∧ z8.filtered (brp 1 1) = false ∧ ∃ (x : Spec), z8.t.spec = some x ∧
    BitVec.toNat x.seq = ofBytes (List.take 16 (brp 1 1).payload) / 2 ^ 16 % 2 ^ 16 ∧
    gmGroup z8.t.csr.gm[x.gm] = (brp 1 1).group ∧ z8.t.thr.st ≠ ThreadSt.stopped :=
  ⟨by simp -failIfUnchanged only [Plain] <;> decide +kernel, by decide +kernel,
   by simp -failIfUnchanged only [↓opt_ex, ↓opt_is] <;> decide +kernel⟩

theorem met_BranchesSpeculate_22222 :
    Plain (brp 6 1) 27 ∧ z9.filtered (brp 6 1) = false ∧ ∃ (x : Spec), z9.t.spec = some x ∧
    BitVec.toNat x.seq = ofBytes (List.take 16 (brp 6 1).payload) / 2 ^ 16 % 2 ^ 16 ∧
    gmGroup z9.t.csr.gm[x.gm] = (brp 6 1).group ∧ z9.t.thr.st = ThreadSt.stopped :=
  ⟨by simp -failIfUnchanged only [Plain] <;> decide +kernel, by decide +kernel,
   by simp -failIfUnchanged only [↓opt_ex, ↓opt_is] <;> decide +kernel⟩

end Cbr

end Sys2Proof.Tests
end

