-- ==== Sys2Proof/Tests/MetDispatch.lean ====
section
/-!
SUPPORT. States that meet the hypotheses of the statements about launches, gangs and dispatch: `met_<Obligation>_<path>` meets those of the
clause at that place of the statement (1: the left side of a conjunction, 2: the right side).
-/

set_option linter.unusedVariables false
set_option linter.unusedSimpArgs false

namespace Sys2Proof.Tests

set_option Elab.async false

open Machine

namespace Gangs

def klr (l : List (Nat × Nat)) : List Byte := bytesOf ((l.map fun x => 2^(64*x.1) * x.2).sum) 128

def kl (form := false) (n := 2) (deps : List Nat := []) (w7 := 0) (w11 := 0) : List Byte :=
  klr ([(0, 0x10000), (1, 0x120 + 2^32*2 + 2^44*3 + 2^46*2 + 2^49 + 2^52*9), (2, if form then 1 + 2^23*1+2^28*2 + 2^14*1 else 2*n), (7, 2^16*1 + 2^24*60 + w7), (9, 0x20400 + 2^32*32), (10, 0x20000), (11, 0x120 + w11)] ++ deps.zipIdx.map fun d => (3 + d.2, d.1))

def laT (b : List Byte) : Tile := let t := withS [0x100] tile; { t with spm := Mem.write [] 0x100 b }
def qd (h : W32) (b : List Byte) (prio := 0) (resume := false) : Queued := ⟨h, { Klr.of b with prio := prio }, 0, [], 900, resume, 5⟩

def qS (l : List Queued) : State := { st tile with sched := { Sched.reset with handle := 300, q := Sched.reset.q.set 4 l }, tiles := [(5,tile)] }
def gng (b : List Byte) : Gang := ⟨4, Klr.of b, 0, [5, 7], false, false,false, 900,[], []⟩

def img : List Byte := (List.range 128).map fun i => BitVec.ofNat 8 (i*3+1)
def args : List Byte := (List.range 32).map fun i => BitVec.ofNat 8 (i*5+1)

def m9 : Moon := { Moon.reset with asid := [(9, 1 + 2^15 * 2)], tlb := [⟨9, 0x10000, false, 0x400000, false, false⟩, ⟨9, 0x20000, false, 0x500000, false, false⟩] }
def gS (b : List Byte) (m : Moon := m9) : State := { st tile with cur := 1022, tiles := [5,7].map fun k => (k, { tile with thr := { Thread.reset with st := .running, gang := some 4, starting := true } }), moons := [(0, m)], hbm := Mem.write (Mem.write [] 0x400000 img) 0x500000 args, sched := { Sched.reset with gangs := [gng b] } }

def hS (b : List Byte) : State := { gS b with tiles := [5,7].map fun k => (k, { tile with thr := { Thread.reset with st := .halted, gang := some 4 } }), sched := { Sched.reset with gangs := [gng b], dctr := [(7, 3)] } }
def ps (g : Gang) (c : Byte) : List Piece := (imagePieces g).map fun p => { p with sent := true, reply := some c }

def pa (g : Gang) (c : Byte) : List Piece := (cutPieces g.klr.argmoon g.klr.argva g.klr.arglen 0 cutFuel).map fun p => { p with sent := true, reply := some c }
def jobs (g : Gang) (c : Byte) : List Job := g.ranks.flatMap fun r => [⟨r, 3, 1022, .gangPlace 4, 0, ps g c, [img], false⟩, ⟨r, 4, 1022, .gangPlace 4, 1, pa g 0, [args], false⟩]

def gJ (b : List Byte) (c : Byte) : State := { gS b with jobs := jobs (gng b) c }
def sv : Saved := ⟨0, 2, 5, { tile with thr := { tile.thr with gang := some 4, pc := 77, st := .running, preempt := .saved }, regs := { tile.regs with q1 := [4] }, spm := [(5,5)] }⟩

def g1 (b : List Byte) : Gang := { gng b with ranks := [5] }
def simg (_ : List Byte) : List Byte := [7]

def rS (b : List Byte) : State := let g := g1 b; { gS b with tiles := [(5, { tile with thr := { Thread.reset with st := .suspended, gang := some 4 } })], sched := { Sched.reset with gangs := [g], saves := [⟨0,1,7,tile⟩, sv] } }
def rJ (b : List Byte) : State := let s := rS b; { s with jobs := [⟨5, 3, 1022, .gangResume 4, 0, ps (g1 b) 0, [img], false⟩, ⟨5, 4, 1022, .gangResume 4, 1, (s.savePieces 0 2 false).map fun p => { p with sent := true, reply := some 0 }, [simg b], false⟩] }

def z1 : State := (st (laT kl))
def z2 : State := { st (laT kl) with sched := { Sched.reset with handle := 300, q := Sched.reset.q.set 4 ((List.range 256).map fun i => qd (BitVec.ofNat 32 i) kl) } }

def z3 : State := (gS kl)
def z4 : State := (gJ kl 0)

def z5 : State := (gJ kl 5)
def z6 : State := (hS (kl false 2 [] (7 + 2^12)))

def z7 : State := (rJ kl)

theorem met_LaunchesQueue_11 :
    ∃ (x : EngOp), engOp z1 (Instr.launch p true (Reg.s 9) (Reg.s 1)) = some x ∧ z1.t.isSpec = false ∧ LowestFree z1.t 0 ∧
    CanTake z1 p (Reg.s 9) ∧ x.reason = none ∧
    z1.sched.q[if (Klr.of (z1.t.spmRead false (BitVec.toNat (z1.rdS (Reg.s 1)) % 2 ^ 20) 128)).form = true then Fin.ofNat 5 ↑(Klr.of (z1.t.spmRead false (BitVec.toNat (z1.rdS (Reg.s 1)) % 2 ^ 20) 128)).die else 4].length < 256 :=
  ⟨_, rfl, by decide +kernel, by simp -failIfUnchanged only [LowestFree] <;> decide +kernel, ⟨_, rfl⟩, by decide +kernel,
   by decide +kernel⟩

theorem met_LaunchesQueue_12 :
    ∃ (x : EngOp), engOp z2 (Instr.launch p true (Reg.s 9) (Reg.s 1)) = some x ∧ z2.t.isSpec = false ∧ LowestFree z2.t 0 ∧
    CanTake z2 p (Reg.s 9) ∧ x.reason = none ∧
    (256 : Nat) ≤ z2.sched.q[if (Klr.of (z2.t.spmRead false (BitVec.toNat (z2.rdS (Reg.s 1)) % 2 ^ 20) 128)).form = true then Fin.ofNat 5 ↑(Klr.of (z2.t.spmRead false (BitVec.toNat (z2.rdS (Reg.s 1)) % 2 ^ 20) 128)).die else 4].length :=
  ⟨_, rfl, by decide +kernel, by simp -failIfUnchanged only [LowestFree] <;> decide +kernel, ⟨_, rfl⟩, by decide +kernel,
   by decide +kernel⟩

theorem met_LaunchesQueue_221 :
    (qS [qd 3 (kl false 2 [7 + 2 ^ 12 + 2 ^ 32 * 5])]).pick 4 = none :=
  by decide +kernel

theorem met_LaunchesQueue_222 :
    (qS [qd 3 kl, qd 4 kl 3]).pick 4 = some (qd 4 kl 3, 3) ∧ (qd 4 kl 3).resume = false ∧
    (((qd 4 kl 3).klr.form = true ∧ [0, 1] = (qd 4 kl 3).klr.rect ∧ ∀ (n : Nat), n ∈ [0, 1] → (qS [qd 3 kl, qd 4 kl 3]).freeTile n = true) ∨ (qd 4 kl 3).klr.form = false ∧ (qd 4 kl 3).klr.tdom = false ∧ [0, 1] = List.take (qd 4 kl 3).klr.ntiles (List.filter (qS [qd 3 kl, qd 4 kl 3]).freeTile exposed) ∧ [0, 1].length = (qd 4 kl 3).klr.ntiles) :=
  by decide +kernel

theorem met_GangsRun_1 :
    z3.gang 4 = some (gng kl) ∧ (∀ (j : Job), j ∈ z3.jobs → j.isOf 1022 (Instr.gangPlace 4) = false) ∧ (gng kl).ranks.Nodup :=
  by decide +kernel

theorem met_GangsRun_21 :
    z4.gang 4 = some (gng kl) ∧ StepAnswered z4 1022 (Instr.gangPlace 4) ∧ (List.map keyOf (gng kl).ranks).Nodup ∧
    (∀ (r : Rank), r ∈ (gng kl).ranks → ReadBack z4 (Instr.gangPlace 4) r 0 (imagePieces (gng kl)) img ∧ ReadBack z4 (Instr.gangPlace 4) r 1 (cutPieces (gng kl).klr.argmoon (gng kl).klr.argva (gng kl).klr.arglen 0 cutFuel) args) ∧
    (∀ (w : W64), (gng kl).klr.grp = some w → z4.homeReached w = true) :=
  ⟨by decide +kernel, by simp -failIfUnchanged only [StepAnswered, ↓list_all_bv, ↓list_all_bv2] <;> decide +kernel, by decide +kernel,
   by simp -failIfUnchanged only [ReadBack, first_iff, ↓first_ex, ↓first_is, ↓list_all_bv, ↓list_all_bv2] <;> decide +kernel,
   by simp -failIfUnchanged only [↓opt_all] <;> decide +kernel⟩

set_option synthInstance.maxSize 2000 in

theorem met_GangsRun_221 :
    z5.gang 4 = some (gng kl) ∧ StepFaulted z5 (Instr.gangPlace 4) 5 :=
  ⟨by decide +kernel, by simp only [StepFaulted, ↓exists_and_left, first_ex, ↓first_ex, ↓opt_ex] <;> decide +kernel⟩

theorem met_GangsRun_2221 :
    z6.gang 4 = some (gng (kl false 2 [] (7 + 2 ^ 12))) ∧
    (∀ (r : Rank), r ∈ (gng (kl false 2 [] (7 + 2 ^ 12))).ranks → (z6.tile (keyOf r)).thr.st = ThreadSt.halted ∧ (z6.tile (keyOf r)).thr.gang = some 4) ∧
    (∀ (c : Nat), (gng (kl false 2 [] (7 + 2 ^ 12))).klr.donectr = some c → z6.isFrozen 3 c = false) :=
  ⟨by decide +kernel, by simp -failIfUnchanged only [↓list_all_bv, ↓list_all_bv2] <;> decide +kernel,
   by simp -failIfUnchanged only [↓opt_all] <;> decide +kernel⟩

theorem met_GangsRun_2222 :
    z7.gang 4 = some (g1 kl) ∧ (g1 kl).ranks = [(5 : Rank)] ∧ memWf z7 = true ∧
    IsFirst z7.sched.saves (fun (w : Saved) => w.rank = 5 ∧ w.tile.thr.gang = some 4) sv ∧
    StepAnswered z7 1022 (Instr.gangResume 4) ∧ ReadBack z7 (Instr.gangResume 4) 5 0 (imagePieces (g1 kl)) img ∧
    ReadBack z7 (Instr.gangResume 4) 5 1 (z7.savePieces sv.die sv.slot (g1 kl).klr.spill) (simg kl) :=
  ⟨by decide +kernel, by decide +kernel, by decide +kernel, by simp -failIfUnchanged only [first_iff] <;> decide +kernel,
   by simp -failIfUnchanged only [StepAnswered, ↓list_all_bv, ↓list_all_bv2] <;> decide +kernel,
   by simp -failIfUnchanged only [ReadBack, first_iff, ↓first_ex, ↓first_is, ↓list_all_bv, ↓list_all_bv2] <;> decide +kernel,
   by simp -failIfUnchanged only [ReadBack, first_iff, ↓first_ex, ↓first_is, ↓list_all_bv, ↓list_all_bv2] <;> decide +kernel⟩

end Gangs

namespace Rounds

def buf (a l : Nat) : W64 := BitVec.ofNat 64 (a + 2^20*l)

def rr (tok ex ch : Nat) (score : Nat := 0x3F800000) (none := false) : RouteRec := ⟨BitVec.ofNat 32 tok, BitVec.ofNat 16 ex, BitVec.ofNat 8 ch, false, false, false, none, 0, BitVec.ofNat 32 score⟩
def klr0 : Klr := { Klr.of [] with km1 := 1, cap := 2, rwv := true, queue := 2, ring := 0x8000, thresh := 0, splitmask := 0, outmoon := 0x120, outva := 0x40000, asid := 9 }

def gng : Gang := ⟨4, klr0, 0, [5, 7], false, false,false, 900,[], []⟩
def rl : List RouteRec := [rr 1 7 0, rr 1 8 1, rr 1 9 2, rr 2 7 0 0x40000000, rr 2 9 1, rr 3 7 0 0x3F000000, rr 3 9 1, rr 3 8 2, rr 4 0xFFFF 0, rr 5 3 0 0 true]

def rT : Tile := let t := withS [0,buf 0x100 160,3] tile; { t with spm := Mem.write [] 0x100 (rl.flatMap RouteRec.bytes), cpl := ((t.cpl.set 3 { slot .recq 1 with uli := true }).set 4 { slot .rclose 1 with uli := true }) }
def dS (t : Tile) (q : DispQ) : State := { st t with sched := { Sched.reset with gangs := [gng] }, disp := (st t).disp.set 0 (((st t).disp[0]).set 2 { q with bound := some 4 }) }

def ps (at_ round : Nat) (l : List RouteRec) (x : W16 := 0x43) : Push := ⟨5, none, x, at_, round, l⟩
def cS (t0 : List (Nat × Tile) := []) : State := { (dS rT { DispQ.reset with round := 1, recs := rl, members := [⟨5,[],false,[],[]⟩,⟨7,[],false,[],[]⟩], closes := [ps 1000 1 [] 0x44] }) with tiles := [(5,rT)] ++ t0, ert := { Ert.reset with ent := [(7, { ErtEnt.reset with state := 2, asid := 9 })] } }

def clg (looked := false) : Closing := ⟨1, 990, [rr 1 7 0, rr 2 7 0, rr 1 8 1], 5, none, 0x44, looked, false, false⟩
def lS (fr : List (Nat × Nat)) : State := { (dS rT { DispQ.reset with round := 2, members := [⟨5,[],false,[],[]⟩,⟨7,[],false,[],[]⟩], closing := [clg] }) with frozen := fr, ert := { Ert.reset with ent := [(7, { ErtEnt.reset with state := 2, asid := 9 })] } }

def z1 : State := (dS rT DispQ.reset)
def z2 : State := (dS rT { DispQ.reset with pushes := [ps 1000 0 rl] })

def z3 : State := (dS rT { DispQ.reset with round := 1, recs := List.replicate 16383 (rr 1 1 1), pushes := [ps 1000 0 rl, ps 1001 0 rl] })
def z4 : State := (dS rT { DispQ.reset with round := 1, recs := rl, closes := [ps 1000 0 [] 0x44] })

def z5 : State := (lS [])
def z6 : State := (lS [(0,8)])

theorem met_RoundsFillAndClose_1 :
    ∃ (x : EngOp), engOp z1 (Instr.recq p 2 true (Reg.s 9) (Reg.s 2)) = some x ∧ z1.t.isSpec = false ∧ LowestFree z1.t 0 ∧
    CanTake z1 p (Reg.s 9) ∧ x.reason = none :=
  ⟨_, rfl, by decide +kernel, by simp -failIfUnchanged only [LowestFree] <;> decide +kernel, ⟨_, rfl⟩, by decide +kernel⟩

theorem met_RoundsFillAndClose_21 :
    ∃ (x : EngOp), engOp z1 (Instr.rclose p 2 true (Reg.s 9)) = some x ∧ z1.t.isSpec = false ∧ LowestFree z1.t 0 ∧
    CanTake z1 p (Reg.s 9) ∧ x.reason = none :=
  ⟨_, rfl, by decide +kernel, by simp -failIfUnchanged only [LowestFree] <;> decide +kernel, ⟨_, rfl⟩, by decide +kernel⟩

theorem met_RoundsFillAndClose_2211 :
    (z2.dq 0 2).pushes = [ps 1000 0 rl] ∧ (ps 1000 0 rl).at_ ≤ z2.now ∧ (∀ (x : Push), [].head? = some x → z2.now < x.at_) ∧
    (z2.dq 0 2).recs.length + (ps 1000 0 rl).recs.length ≤ 16384 ∧
    BusyAt z2 (ps 1000 0 rl).rank (ps 1000 0 rl).gang (ps 1000 0 rl).xid :=
  ⟨by decide +kernel, by decide +kernel, by simp -failIfUnchanged only [↓opt_all] <;> decide +kernel, by decide +kernel,
   by simp -failIfUnchanged only [BusyAt, InProgress, ↓list_all_bv, ↓list_all_bv2, exists_eq_left'] <;> decide +kernel⟩

theorem met_RoundsFillAndClose_2212 :
    (z3.dq 0 2).pushes = [ps 1000 0 rl, ps 1001 0 rl] ∧ (ps 1000 0 rl).at_ ≤ z3.now ∧
    (∀ (x : Push), [ps 1001 0 rl].head? = some x → z3.now < x.at_) ∧
    16384 < (z3.dq 0 2).recs.length + (ps 1000 0 rl).recs.length :=
  ⟨by decide +kernel, by decide +kernel, by simp -failIfUnchanged only [↓opt_all] <;> decide +kernel, by decide +kernel⟩

theorem met_RoundsFillAndClose_22211 :
    (z4.dq 0 2).closes = [ps 1000 0 [] 68] ∧ (z4.dq 0 2).bound = some gng.handle ∧ z4.gang gng.handle = some gng ∧
    (ps 1000 0 [] 68).at_ ≤ z4.now ∧
    (∀ (d : Fin 4) (j : Fin 8) (c : Closing), c ∈ (z4.dq d j).closing → c.looked = true ∨ z4.now ≤ c.at_) ∧
    (ps 1000 0 [] 68).round < (z4.dq 0 2).round ∧ BusyAt z4 (ps 1000 0 [] 68).rank (ps 1000 0 [] 68).gang (ps 1000 0 [] 68).xid :=
  ⟨by decide +kernel, by decide +kernel, by decide +kernel, by decide +kernel, by decide +kernel, by decide +kernel,
   by simp -failIfUnchanged only [BusyAt, InProgress, ↓list_all_bv, ↓list_all_bv2, exists_eq_left'] <;> decide +kernel⟩

theorem met_RoundsFillAndClose_22212 :
    (cS.dq 0 2).closes = [ps 1000 1 [] 68] ∧ (cS.dq 0 2).bound = some gng.handle ∧ cS.gang gng.handle = some gng ∧
    (ps 1000 1 [] 68).at_ ≤ cS.now ∧
    (∀ (d : Fin 4) (j : Fin 8) (c : Closing), c ∈ (cS.dq d j).closing → c.looked = true ∨ cS.now ≤ c.at_) ∧
    (cS.dq 0 2).round ≤ (ps 1000 1 [] 68).round :=
  by decide +kernel

theorem met_RoundsFillAndClose_22221 :
    (z5.dq 0 2).closes = [] ∧ (z5.dq 0 2).bound = some gng.handle ∧ z5.gang gng.handle = some gng ∧
    IsFirst (z5.dq 0 2).closing (fun (c : Closing) => c.looked = false) clg ∧ clg.at_ < z5.now ∧
    (∀ (d : Fin 4) (j : Fin 8), (d, j) ≠ (0, 2) → ∀ (c : Closing), c ∈ (z5.dq d j).closing → c.looked = true ∨ z5.now ≤ c.at_) ∧
    (∀ (r : RouteRec), r ∈ clg.rows → z5.isFrozen 0 (BitVec.toNat r.expert) = false) :=
  ⟨by decide +kernel, by decide +kernel, by decide +kernel, by simp -failIfUnchanged only [first_iff] <;> decide +kernel,
   by decide +kernel, by decide +kernel, by decide +kernel⟩

theorem met_RoundsFillAndClose_22222 :
    (z6.dq 0 2).closes = [] ∧ (z6.dq 0 2).bound = some gng.handle ∧ z6.gang gng.handle = some gng ∧
    IsFirst (z6.dq 0 2).closing (fun (c : Closing) => c.looked = false) clg ∧ clg.at_ < z6.now ∧
    (∀ (d : Fin 4) (j : Fin 8), (d, j) ≠ (0, 2) → ∀ (c : Closing), c ∈ (z6.dq d j).closing → c.looked = true ∨ z6.now ≤ c.at_) ∧
    (∃ (r : RouteRec), r ∈ clg.rows ∧ z6.isFrozen 0 (BitVec.toNat r.expert) = true) :=
  ⟨by decide +kernel, by decide +kernel, by decide +kernel, by simp -failIfUnchanged only [first_iff] <;> decide +kernel,
   by decide +kernel, by decide +kernel, by decide +kernel⟩

end Rounds

namespace Rows

def buf (a l : Nat) : W64 := BitVec.ofNat 64 (a + 2^20*l)

def rr (tok ex ch : Nat) (score : Nat := 0x3F800000) (none := false) : RouteRec := ⟨BitVec.ofNat 32 tok, BitVec.ofNat 16 ex, BitVec.ofNat 8 ch, false, false, false, none, 0, BitVec.ofNat 32 score⟩
def klr0 : Klr := { Klr.of [] with km1 := 1, cap := 2, rwv := true, queue := 2, ring := 0x8000, thresh := 0, splitmask := 0, outmoon := 0x120, outva := 0x40000, asid := 9 }

def gng : Gang := ⟨4, klr0, 0, [5, 7], false, false,false, 900,[], []⟩
def rl : List RouteRec := [rr 1 7 0, rr 1 8 1, rr 1 9 2, rr 2 7 0 0x40000000, rr 2 9 1, rr 3 7 0 0x3F000000, rr 3 9 1, rr 3 8 2, rr 4 0xFFFF 0, rr 5 3 0 0 true]

def rT : Tile := let t := withS [0,buf 0x100 160,3] tile; { t with spm := Mem.write [] 0x100 (rl.flatMap RouteRec.bytes), cpl := ((t.cpl.set 3 { slot .recq 1 with uli := true }).set 4 { slot .rclose 1 with uli := true }) }
def dS (t : Tile) (q : DispQ) : State := { st t with sched := { Sched.reset with gangs := [gng] }, disp := (st t).disp.set 0 (((st t).disp[0]).set 2 { q with bound := some 4 }) }

def cl (rows : List RouteRec) : Closing := ⟨1, 990, rows, 5, none, 0x44, true, false, false⟩
def coming (opened : Bool) (owed : Nat) (b : List (List Dealt)) (pt : List Dealt := []) : Coming := ⟨1, opened, owed, b, b.length, pt, []⟩

def dl (e : Nat) (m : Rank := 5) (die : Fin 4 := 0) : Dealt := ⟨⟨BitVec.ofNat 16 e, 0, 3, 9, 1, false, false, 0, false⟩, die, 4, 0, 2, m, 1, false⟩
def mb (r : Rank) (l : List Coming) (half := false) : Member := ⟨r, l, half, [], []⟩

def m9 : Moon := { Moon.reset with asid := [(9, 1 + 2^15 * 2)], tlb := [⟨9, 0x80000, false, 0x400000, true, false⟩] }
def wS (c : Closing) (ms : List Member := [mb 5 [coming false 0 []], mb 7 [coming false 1 []]]) (g : Gang := gng) : State := { dS rT { DispQ.reset with closing := [c], members := ms } with moons := [(0, m9)], sched := { Sched.reset with gangs := [g] } }

def R2 := [rr 1 7 0, rr 2 7 0]
def jb (a b : Option Byte) : Job := ⟨0x133, 3, 0, .rowAreaWrite 0 2, 1, [⟨0,16,0x120,0x80000,true,a⟩,⟨16,16,0x120,0x80010,true,b⟩], [], false⟩

def wJ (a b : Option Byte) (rdy : Bool) (c : Closing := cl R2) : State := { wS c [mb 5 [coming false 0 (if rdy then [[dl 7]] else [])], mb 7 [coming false 1 []]] with jobs := [jb a b] }
def er (chain : Chain) (readers : W16) (st : BitVec 3 := 2) : ErtEnt := { ErtEnt.reset with state := st, asid := 9, readers := readers, wq := (Vector.replicate 4 none).set 0 chain, size := 1 }

def relS (ch : Chain) (rd : W16) (w : WqEnt) (bind := true) : State := { dS rT { DispQ.reset with members := [mb 5 [coming true 1 []]], bound := some 4 } with cur := 0, ert := { Ert.reset with ent := [(7, er ch rd)], rel := Ert.reset.rel.set 0 [(7, true)], wq := Ert.reset.wq.set 0 [(3, w), (9, ⟨dl 7, none⟩)] }, disp := (dS rT { DispQ.reset with members := [mb 5 [coming true 1 []]] }).disp.set 0 (Vector.replicate 8 { DispQ.reset with members := [mb 5 [coming true 1 []]], bound := if bind then some 4 else none }) }
def refS (ch : Chain) : State := { relS none 0 ⟨dl 8, none⟩ with ert := { Ert.reset with ent := [(7, er ch 0 1)], blocked := Ert.reset.blocked.set 0 [dl 7, dl 8], wq := Ert.reset.wq.set 0 [(0, ⟨dl 7, none⟩), (9, ⟨dl 7, none⟩)] } }

def limS (rd : W16) : State := { relS none 0 ⟨dl 8, none⟩ with ert := { Ert.reset with ent := [(7, er none rd 2)], limit := Ert.reset.limit.set 0 [dl 7, dl 8] } }
def zTerm (o : Bool) : State := wS (cl []) [mb 5 [coming o 0 []]]

def z1 : State := (wS (cl []) [mb 5 [coming true 0 [[dl 7, dl 8],[dl 9]]]])
def z2 : State := (relS (some (3, 9)) 5 ⟨dl 7, some 9⟩)

def z3 : State := (refS none)
def z4 : State := (limS 0xFFFF)

def z5 : State := (limS 4)

theorem met_RowsReachMembers_11 :
    ((wS (cl [])).dq 0 2).bound = some gng.handle ∧ (wS (cl [])).gang gng.handle = some gng ∧
    ((wS (cl [])).dq 0 2).closing = [cl []] ∧ (cl []).looked = true ∧ (cl []).stalled = false ∧ (cl []).written = false ∧
    (cl []).rows = [] ∧ (cl []).round < 2 ∧
    (∀ (j : Job), j ∈ (wS (cl [])).jobs → j.isOf (0) (Instr.rowAreaWrite 0 2) = false) ∧
    (¬∃ (m : Member), m ∈ ((wS (cl [])).dq 0 2).members ∧ ∃ (y : Coming), y ∈ m.pend ∧ y.round = (cl []).round ∧ y.ready ≠ 0) ∧
    BusyAt (wS (cl [])) (cl []).rank (cl []).gang (cl []).xid :=
  ⟨by decide +kernel, by decide +kernel, by decide +kernel, by decide +kernel, by decide +kernel, by decide +kernel,
   by decide +kernel, by decide +kernel, by decide +kernel, by decide +kernel,
   by simp -failIfUnchanged only [BusyAt, InProgress, ↓list_all_bv, ↓list_all_bv2, exists_eq_left'] <;> decide +kernel⟩

theorem met_RowsReachMembers_121 :
    ((wS (cl R2)).dq 0 2).bound = some gng.handle ∧ (wS (cl R2)).gang gng.handle = some gng ∧
    ((wS (cl R2)).dq 0 2).closing = [cl R2] ∧ (cl R2).looked = true ∧ (cl R2).stalled = false ∧ (cl R2).written = false ∧
    (cl R2).rows ≠ [] ∧ (cl R2).round < 2 ∧ (∀ (j : Job), j ∈ (wS (cl R2)).jobs → j.isOf (0) (Instr.rowAreaWrite 0 2) = false) :=
  by decide +kernel

theorem met_RowsReachMembers_1221 :
    ((wJ (some 0) (some 0) true).dq 0 2).bound = some gng.handle ∧ (wJ (some 0) (some 0) true).gang gng.handle = some gng ∧
    ((wJ (some 0) (some 0) true).dq 0 2).closing = [cl R2] ∧ (cl R2).looked = true ∧ (cl R2).stalled = false ∧
    (cl R2).written = false ∧
    (fun (j : Job) => IsFirst (wJ (some 0) (some 0) true).jobs (fun (j : Job) => j.isOf (0) (Instr.rowAreaWrite 0 2) = true) j ∧ j.tag = (cl R2).round) (jb (some 0) (some 0)) ∧
    (∀ (p : Piece), p ∈ (jb (some 0) (some 0)).pieces → p.reply = some 0) ∧
    (∃ (m : Member), m ∈ ((wJ (some 0) (some 0) true).dq 0 2).members ∧ ∃ (y : Coming), y ∈ m.pend ∧ y.round = (cl R2).round ∧ y.ready ≠ 0) :=
  ⟨by decide +kernel, by decide +kernel, by decide +kernel, by decide +kernel, by decide +kernel, by decide +kernel,
   by simp -failIfUnchanged only [first_iff] <;> decide +kernel, by decide +kernel, by decide +kernel⟩

theorem met_RowsReachMembers_12221 :
    ((wJ (some 0) (some 0) false).dq 0 2).bound = some gng.handle ∧ (wJ (some 0) (some 0) false).gang gng.handle = some gng ∧
    ((wJ (some 0) (some 0) false).dq 0 2).closing = [cl R2] ∧ (cl R2).looked = true ∧ (cl R2).stalled = false ∧
    (cl R2).written = false ∧
    (fun (j : Job) => IsFirst (wJ (some 0) (some 0) false).jobs (fun (j : Job) => j.isOf (0) (Instr.rowAreaWrite 0 2) = true) j ∧ j.tag = (cl R2).round) (jb (some 0) (some 0)) ∧
    (∀ (p : Piece), p ∈ (jb (some 0) (some 0)).pieces → p.reply = some 0) ∧
    (¬∃ (m : Member), m ∈ ((wJ (some 0) (some 0) false).dq 0 2).members ∧ ∃ (y : Coming), y ∈ m.pend ∧ y.round = (cl R2).round ∧ y.ready ≠ 0) ∧
    BusyAt (wJ (some 0) (some 0) false) (cl R2).rank (cl R2).gang (cl R2).xid :=
  ⟨by decide +kernel, by decide +kernel, by decide +kernel, by decide +kernel, by decide +kernel, by decide +kernel,
   by simp -failIfUnchanged only [first_iff] <;> decide +kernel, by decide +kernel, by decide +kernel,
   by simp -failIfUnchanged only [BusyAt, InProgress, ↓list_all_bv, ↓list_all_bv2, exists_eq_left'] <;> decide +kernel⟩

theorem met_RowsReachMembers_12222 :
    ((wJ (some 0) (some 7) false).dq 0 2).bound = some gng.handle ∧ (wJ (some 0) (some 7) false).gang gng.handle = some gng ∧
    ((wJ (some 0) (some 7) false).dq 0 2).closing = [cl R2] ∧ (cl R2).looked = true ∧ (cl R2).stalled = false ∧
    (cl R2).written = false ∧
    (fun (j : Job) => IsFirst (wJ (some 0) (some 7) false).jobs (fun (j : Job) => j.isOf (0) (Instr.rowAreaWrite 0 2) = true) j ∧ j.tag = (cl R2).round) (jb (some 0) (some 7)) ∧
    (∀ (p : Piece), p ∈ (jb (some 0) (some 7)).pieces → p.reply ≠ none) ∧
    IsFirst (jb (some 0) (some 7)).pieces (fun (p : Piece) => ∃ (b : Byte), p.reply = some b ∧ b ≠ 0) { off := 16, len := 16, moon := 288, addr := 524304, sent := true, reply := some 7 : Piece } ∧
    { off := 16, len := 16, moon := 288, addr := 524304, sent := true, reply := some 7 : Piece }.reply = some 7 :=
  ⟨by decide +kernel, by decide +kernel, by decide +kernel, by decide +kernel, by decide +kernel, by decide +kernel,
   by simp -failIfUnchanged only [first_iff] <;> decide +kernel, by decide +kernel,
   by simp -failIfUnchanged only [↓opt_ex, ↓opt_is, first_iff] <;> decide +kernel, by decide +kernel⟩

theorem met_RowsReachMembers_211 :
    IsFirst (z1.dq 0 2).members (fun (m : Member) => m.rank = 5) (mb 5 [coming true 0 [[dl 7, dl 8], [dl 9]]]) ∧
    (z1.dq 0 2).bound = some gng.handle ∧ z1.gang gng.handle = some gng ∧ gng.suspended = false ∧ gng.suspending = false ∧
    List.Pairwise (fun (a b : Member) => a.rank ≠ b.rank) (z1.dq 0 2).members ∧
    ∃ (c : Coming) (rest : List Coming), (mb 5 [coming true 0 [[dl 7, dl 8], [dl 9]]]).pend = c :: rest ∧ c.opened = true ∧
    ∃ (b : List Dealt) (bs : List (List Dealt)), c.batches = b :: bs ∧ (z1.tile (keyOf 5)).q1Full = false ∧
    (mb 5 [coming true 0 [[dl 7, dl 8], [dl 9]]]).halfFree (z1.tile (keyOf 5)) = true :=
  ⟨by simp -failIfUnchanged only [first_iff] <;> decide +kernel, by decide +kernel, by decide +kernel, by decide +kernel,
   by decide +kernel, by decide +kernel, by simp -failIfUnchanged only [↓cons_ex, ↓cons_is] <;> decide +kernel⟩

theorem met_RowsReachMembers_221 :
    z2.cur = 0 ∧ z2.ert.rel[(0 : Fin 4)] = [(7, true)] ∧ (z2.ertEnt 7).wq[(0 : Fin 4)] = some (3, 9) ∧
    z2.ert.wq[(0 : Fin 4)].find (BitVec.toNat (3 : BitVec 13)) = some { dealt := dl 7, link := some 9 : WqEnt } ∧
    z2.isFrozen 0 (BitVec.toNat (7 : W16)) = false ∧ z2.isFrozen 1 (0 * 8192 + BitVec.toNat (3 : BitVec 13)) = false ∧
    z2.ert.blocked[(0 : Fin 4)] = [] ∧ { dealt := dl 7, link := some 9 : WqEnt }.dealt.tr.expert = 7 :=
  by decide +kernel

theorem met_RowsReachMembers_2221 :
    z3.cur = 0 ∧ ∃ (x : Dealt) (x1 : List Dealt), z3.ert.blocked[(0 : Fin 4)] = x :: x1 ∧ ∃ (x2 : Nat), z3.freeWq 0 = some x2 ∧
    x.die = 0 ∧ (z3.ertEnt x.tr.expert).present = false ∧
    (∀ (c : BitVec 13 × BitVec 13), (z3.ertEnt x.tr.expert).wq[(0 : Fin 4)] = some c → (z3.ert.wq[(0 : Fin 4)].find c.snd.toNat).isSome = true) :=
  ⟨by decide +kernel, by simp -failIfUnchanged only [↓opt_all, ↓opt_ex, ↓opt_is, ↓cons_ex, ↓cons_is] <;> decide +kernel⟩

theorem met_RowsReachMembers_22221 :
    ∃ (x : Dealt) (x1 : List Dealt), z4.ert.limit[(0 : Fin 4)] = x :: x1 ∧ x.tr.expert = 7 ∧
    (∀ (y : Dealt), y ∈ x1 → y.tr.expert ≠ 7) ∧ (z4.ertEnt 7).readers = 65535 :=
  by simp -failIfUnchanged only [↓cons_ex, ↓cons_is] <;> decide +kernel

theorem met_RowsReachMembers_22222 :
    ∃ (x : Dealt) (x1 : List Dealt), z5.ert.limit[(0 : Fin 4)] = x :: x1 ∧ x.tr.expert = 7 ∧
    (∀ (y : Dealt), y ∈ x1 → y.tr.expert ≠ 7) ∧ (z5.ertEnt 7).readers ≠ 65535 :=
  by simp -failIfUnchanged only [↓cons_ex, ↓cons_is] <;> decide +kernel

theorem met_RowsReachMembers_2121 :
    IsFirst ((zTerm true).dq 0 2).members (fun m => m.rank = 5) (mb 5 [coming true 0 []]) ∧
      ((zTerm true).dq 0 2).bound = some gng.handle ∧ (zTerm true).gang gng.handle = some gng ∧ gng.suspended = false ∧
      gng.suspending = false ∧ ((zTerm true).dq 0 2).members.Pairwise (fun a b => a.rank ≠ b.rank) ∧
      (mb 5 [coming true 0 []]).pend = coming true 0 [] :: [] ∧ (coming true 0 []).opened = true ∧
      (coming true 0 []).batches = [] ∧ (coming true 0 []).owed = 0 ∧ (coming true 0 []).part = [] ∧
      (coming true 0 []).late = [] ∧ ((zTerm true).tile (keyOf 5)).q1Full = false :=
  ⟨by simp only [first_iff] <;> decide +kernel, by decide +kernel⟩

theorem met_RowsReachMembers_2122 :
    IsFirst ((zTerm false).dq 0 2).members (fun m => m.rank = 5) (mb 5 [coming false 0 []]) ∧
      ((zTerm false).dq 0 2).bound = some gng.handle ∧ (zTerm false).gang gng.handle = some gng ∧
      ((zTerm false).dq 0 2).members.Pairwise (fun a b => a.rank ≠ b.rank) ∧
      (mb 5 [coming false 0 []]).pend = coming false 0 [] :: [] ∧ (coming false 0 []).opened = false :=
  ⟨by simp only [first_iff] <;> decide +kernel, by decide +kernel⟩

end Rows

end Sys2Proof.Tests
end

