-- ==== Sys2Proof/Tests/MetExperts.lean ====
section
/-!
SUPPORT. States that meet the hypotheses of the statements about expert residency: `met_<Obligation>_<path>` meets those of the
clause at that place of the statement (1: the left side of a conjunction, 2: the right side).
-/

set_option linter.unusedVariables false
set_option linter.unusedSimpArgs false

namespace Sys2Proof.Tests

set_option Elab.async false

open Machine

namespace Lookups

def buf (a l : Nat) : W64 := BitVec.ofNat 64 (a + 2^20*l)

def ent (st : BitVec 3) : ErtEnt := { ErtEnt.reset with state := st, asid := 9, moon := 3, pdie := 1, base := 77, size := 6, wq := (Vector.replicate 4 none).set 2 (some (3,4)) }
def eS (x : ErtEnt) (s1 : W64 := 4) (s2 : W64 := buf 0x100 0) : State := { st (withS [s1, s2] tile) with tiles := [(306, withS [s1,s2] tile)], cur := 306, ert := { Ert.reset with ent := [(4, x)], clock := 55 } }

def z1 : State := (eS (ent 2) 0xFFFF)
def z2 : State := (eS (ent 1))

def z3 : State := (eS (ent 2) 0x10004)

theorem met_ErtCommands_111 :
    ertOp (Instr.pagein p (Reg.s 9) (Reg.s 1) (Reg.s 2)) = some (p, Reg.s 9, Reg.s 1, Reg.s 2) ∧ z1.t.isSpec = false ∧
    CanTake z1 p (Reg.s 9) ∧ z1.isFrozen 0 (BitVec.setWidth 16 (z1.rdS (Reg.s 1))).toNat = false ∧
    CommandOk z1 (Reg.s 1) (Reg.s 2) ∧ BitVec.setWidth 16 (z1.rdS (Reg.s 1)) = 65535 :=
  ⟨by decide +kernel, by decide +kernel, ⟨_, rfl⟩, by decide +kernel,
   by simp -failIfUnchanged only [CommandOk] <;> decide +kernel, by decide +kernel⟩

theorem met_ErtCommands_1122 :
    ertOp (Instr.pagein p (Reg.s 9) (Reg.s 1) (Reg.s 2)) = some (p, Reg.s 9, Reg.s 1, Reg.s 2) ∧ z2.t.isSpec = false ∧
    CanTake z2 p (Reg.s 9) ∧ z2.isFrozen 0 (BitVec.setWidth 16 (z2.rdS (Reg.s 1))).toNat = false ∧
    CommandOk z2 (Reg.s 1) (Reg.s 2) ∧ BitVec.setWidth 16 (z2.rdS (Reg.s 1)) ≠ 65535 ∧
    (Instr.pagein p (Reg.s 9) (Reg.s 1) (Reg.s 2) = Instr.pin p (Reg.s 9) (Reg.s 1) (Reg.s 2) ∧ ¬((z2.ertEnt (BitVec.setWidth 16 (z2.rdS (Reg.s 1)))).state = 2 ∨ (z2.ertEnt (BitVec.setWidth 16 (z2.rdS (Reg.s 1)))).state = 4) ∨ Instr.pagein p (Reg.s 9) (Reg.s 1) (Reg.s 2) = Instr.unpin p (Reg.s 9) (Reg.s 1) (Reg.s 2) ∧ (z2.ertEnt (BitVec.setWidth 16 (z2.rdS (Reg.s 1)))).state ≠ 3 ∨ Instr.pagein p (Reg.s 9) (Reg.s 1) (Reg.s 2) = Instr.evict p (Reg.s 9) (Reg.s 1) (Reg.s 2) ∧ ¬(((z2.ertEnt (BitVec.setWidth 16 (z2.rdS (Reg.s 1)))).state = 2 ∨ (z2.ertEnt (BitVec.setWidth 16 (z2.rdS (Reg.s 1)))).state = 4) ∧ (z2.ertEnt (BitVec.setWidth 16 (z2.rdS (Reg.s 1)))).readers = 0) ∨ Instr.pagein p (Reg.s 9) (Reg.s 1) (Reg.s 2) = Instr.pagein p (Reg.s 9) (Reg.s 1) (Reg.s 2) ∧ ¬((z2.ertEnt (BitVec.setWidth 16 (z2.rdS (Reg.s 1)))).state = 0 ∧ (z2.ertEnt (BitVec.setWidth 16 (z2.rdS (Reg.s 1)))).size ≠ 0) ∨ Instr.pagein p (Reg.s 9) (Reg.s 1) (Reg.s 2) = Instr.discard p (Reg.s 9) (Reg.s 1) (Reg.s 2) ∧ (z2.ertEnt (BitVec.setWidth 16 (z2.rdS (Reg.s 1)))).state ≠ 0) :=
  ⟨by decide +kernel, by decide +kernel, ⟨_, rfl⟩, by decide +kernel,
   by simp -failIfUnchanged only [CommandOk] <;> decide +kernel, by decide +kernel, by decide +kernel⟩

theorem met_ErtCommands_121 :
    (ertOp (Instr.read p (Reg.s 9) (Reg.s 1) (Reg.s 2)) = some (p, Reg.s 9, Reg.s 1, Reg.s 2) ∨ Instr.read p (Reg.s 9) (Reg.s 1) (Reg.s 2) = Instr.read p (Reg.s 9) (Reg.s 1) (Reg.s 2) ∨ Instr.read p (Reg.s 9) (Reg.s 1) (Reg.s 2) = Instr.config p (Reg.s 9) (Reg.s 1) (Reg.s 2)) ∧
    z3.t.isSpec = false ∧ CanTake z3 p (Reg.s 9) ∧ z3.isFrozen 0 (BitVec.toNat (z3.rdS (Reg.s 1)) % 2 ^ 16) = false ∧
    2 ^ (16 : Nat) ≤ BitVec.toNat (z3.rdS (Reg.s 1)) :=
  ⟨by decide +kernel, by decide +kernel, ⟨_, rfl⟩, by decide +kernel, by decide +kernel⟩

end Lookups

namespace Residency

def buf (a l : Nat) : W64 := BitVec.ofNat 64 (a + 2^20*l)

def ent (st : BitVec 3) : ErtEnt := { ErtEnt.reset with state := st, asid := 9, moon := 3, pdie := 1, base := 77, size := 6, wq := (Vector.replicate 4 none).set 2 (some (3,4)) }
def eS (x : ErtEnt) (s1 : W64 := 4) (s2 : W64 := buf 0x100 0) : State := { st (withS [s1, s2] tile) with tiles := [(306, withS [s1,s2] tile)], cur := 306, ert := { Ert.reset with ent := [(4, x)], clock := 55 } }

def rC (x : ErtEnt) (v : Nat) (s1 : W64 := 4) : State := let t := { withS [s1, buf 0x100 32] tile with spm := Mem.write [] 0x100 (bytesOf v 32) }; { eS x with tiles := [(306, t)], ert := { Ert.reset with ent := [(4, x)], clock := 55, pool := Ert.reset.pool.set 1 { Pool.reset with size := 8 } } }
def cv : Nat := 2^8*9+2^40*6+2^58*2+2^64*7

def job (sl : Option Nat) (w := false) : PageIn := ⟨4, 2, true, sl, [1], w, 500⟩
def jS (js : List PageIn) (x : ErtEnt := ent 1) (pol : BitVec 2 := 0) : State := { rC x 0 with ert := { (rC x 0).ert with pageq := js, pool := Ert.reset.pool.set 1 { Pool.reset with size := 8, moon := Pool.reset.moon.set 3 (16, 2), policy := pol } } }

def full (js : List PageIn) : State := let s := jS js; { s with ert := { s.ert with pool := Ert.reset.pool } }
def late (j : PageIn) (n : Nat) : State := { full [j] with now := n }

def eng (x : ErtEnt) (m : Nat) (bad : List Nat := []) : State := let s := jS [] x; { s with farBad := bad, far := [(5,6), (7*65536+ 3, 9), ((7+5)*65536 + 65535, 7)], ert := { s.ert with eng := s.ert.eng.set 1 (some ⟨job (some 16), m⟩) } }
def pj (b : Option Byte) (x : ErtEnt) (m : Nat) : State := { eng x m with jobs := [⟨0x1130 + 0x20, 3, 0, .pageinComplete 1, 5, [⟨0,4096,0x1123,0,true,some 0⟩, ⟨4096,4096,0x1123,4096,true,b⟩], [], false⟩] }

def z1 : State := (rC (ent 0) cv)
def z2 : State := (rC (ent 0) (cv + 2^62))

def z3 : State := (rC (ent 2) (cv))
def z4 : State := (rC (ent 2) (cv) 0xFFFF)

def z5 : State := (jS [job none])
def z6 : State := (jS [job none true])

def z7 : State := (full [job none])
def z8 : State := (late (job none true) 66036)

def z9 : State := (late (job none true) 66037)
def z10 : State := (let s := jS [job none, job (some 16)]; { s with ert := { s.ert with eng := s.ert.eng.set 0 (some ⟨job (some 3), 5⟩) } })

def z11 : State := (eng { ent 1 with far := 7 } 5 [12])
def z12 : State := (eng { ent 1 with far := 7 } 5)

def z13 : State := (eng { ent 1 with far := 7 } 6)
def z14 : State := (jS [] (ent 0))

def z15 : State := (jS [] (ent 2))

theorem met_ErtCommands_1121 :
    ertOp (Instr.pin p (Reg.s 9) (Reg.s 1) (Reg.s 2)) = some (p, Reg.s 9, Reg.s 1, Reg.s 2) ∧ (eS (ent 2)).t.isSpec = false ∧
    CanTake (eS (ent 2)) p (Reg.s 9) ∧
    (eS (ent 2)).isFrozen 0 (BitVec.setWidth 16 ((eS (ent 2)).rdS (Reg.s 1))).toNat = false ∧
    CommandOk (eS (ent 2)) (Reg.s 1) (Reg.s 2) ∧ BitVec.setWidth 16 ((eS (ent 2)).rdS (Reg.s 1)) ≠ 65535 ∧
    (Instr.pin p (Reg.s 9) (Reg.s 1) (Reg.s 2) = Instr.pin p (Reg.s 9) (Reg.s 1) (Reg.s 2) ∧ (((eS (ent 2)).ertEnt (BitVec.setWidth 16 ((eS (ent 2)).rdS (Reg.s 1)))).state = 2 ∨ ((eS (ent 2)).ertEnt (BitVec.setWidth 16 ((eS (ent 2)).rdS (Reg.s 1)))).state = 4) ∧ (let __src := ent 2; { state := 3, err := __src.err, pdie := __src.pdie, asid := __src.asid, moon := __src.moon, base := __src.base, size := __src.size, splitm1 := __src.splitm1, diemask := __src.diemask, far := __src.far, readers := __src.readers, age := __src.age, wq := __src.wq : ErtEnt }) = { state := 3, err := ((eS (ent 2)).ertEnt (BitVec.setWidth 16 ((eS (ent 2)).rdS (Reg.s 1)))).err, pdie := ((eS (ent 2)).ertEnt (BitVec.setWidth 16 ((eS (ent 2)).rdS (Reg.s 1)))).pdie, asid := ((eS (ent 2)).ertEnt (BitVec.setWidth 16 ((eS (ent 2)).rdS (Reg.s 1)))).asid, moon := ((eS (ent 2)).ertEnt (BitVec.setWidth 16 ((eS (ent 2)).rdS (Reg.s 1)))).moon, base := ((eS (ent 2)).ertEnt (BitVec.setWidth 16 ((eS (ent 2)).rdS (Reg.s 1)))).base, size := ((eS (ent 2)).ertEnt (BitVec.setWidth 16 ((eS (ent 2)).rdS (Reg.s 1)))).size, splitm1 := ((eS (ent 2)).ertEnt (BitVec.setWidth 16 ((eS (ent 2)).rdS (Reg.s 1)))).splitm1, diemask := ((eS (ent 2)).ertEnt (BitVec.setWidth 16 ((eS (ent 2)).rdS (Reg.s 1)))).diemask, far := ((eS (ent 2)).ertEnt (BitVec.setWidth 16 ((eS (ent 2)).rdS (Reg.s 1)))).far, readers := ((eS (ent 2)).ertEnt (BitVec.setWidth 16 ((eS (ent 2)).rdS (Reg.s 1)))).readers, age := ((eS (ent 2)).ertEnt (BitVec.setWidth 16 ((eS (ent 2)).rdS (Reg.s 1)))).age, wq := ((eS (ent 2)).ertEnt (BitVec.setWidth 16 ((eS (ent 2)).rdS (Reg.s 1)))).wq : ErtEnt } ∨ Instr.pin p (Reg.s 9) (Reg.s 1) (Reg.s 2) = Instr.unpin p (Reg.s 9) (Reg.s 1) (Reg.s 2) ∧ ((eS (ent 2)).ertEnt (BitVec.setWidth 16 ((eS (ent 2)).rdS (Reg.s 1)))).state = 3 ∧ (let __src := ent 2; { state := 3, err := __src.err, pdie := __src.pdie, asid := __src.asid, moon := __src.moon, base := __src.base, size := __src.size, splitm1 := __src.splitm1, diemask := __src.diemask, far := __src.far, readers := __src.readers, age := __src.age, wq := __src.wq : ErtEnt }) = { state := if ((eS (ent 2)).ertEnt (BitVec.setWidth 16 ((eS (ent 2)).rdS (Reg.s 1)))).splitm1 = 0 then 2 else 4, err := ((eS (ent 2)).ertEnt (BitVec.setWidth 16 ((eS (ent 2)).rdS (Reg.s 1)))).err, pdie := ((eS (ent 2)).ertEnt (BitVec.setWidth 16 ((eS (ent 2)).rdS (Reg.s 1)))).pdie, asid := ((eS (ent 2)).ertEnt (BitVec.setWidth 16 ((eS (ent 2)).rdS (Reg.s 1)))).asid, moon := ((eS (ent 2)).ertEnt (BitVec.setWidth 16 ((eS (ent 2)).rdS (Reg.s 1)))).moon, base := ((eS (ent 2)).ertEnt (BitVec.setWidth 16 ((eS (ent 2)).rdS (Reg.s 1)))).base, size := ((eS (ent 2)).ertEnt (BitVec.setWidth 16 ((eS (ent 2)).rdS (Reg.s 1)))).size, splitm1 := ((eS (ent 2)).ertEnt (BitVec.setWidth 16 ((eS (ent 2)).rdS (Reg.s 1)))).splitm1, diemask := ((eS (ent 2)).ertEnt (BitVec.setWidth 16 ((eS (ent 2)).rdS (Reg.s 1)))).diemask, far := ((eS (ent 2)).ertEnt (BitVec.setWidth 16 ((eS (ent 2)).rdS (Reg.s 1)))).far, readers := ((eS (ent 2)).ertEnt (BitVec.setWidth 16 ((eS (ent 2)).rdS (Reg.s 1)))).readers, age := ((eS (ent 2)).ertEnt (BitVec.setWidth 16 ((eS (ent 2)).rdS (Reg.s 1)))).age, wq := ((eS (ent 2)).ertEnt (BitVec.setWidth 16 ((eS (ent 2)).rdS (Reg.s 1)))).wq : ErtEnt } ∨ Instr.pin p (Reg.s 9) (Reg.s 1) (Reg.s 2) = Instr.evict p (Reg.s 9) (Reg.s 1) (Reg.s 2) ∧ (((eS (ent 2)).ertEnt (BitVec.setWidth 16 ((eS (ent 2)).rdS (Reg.s 1)))).state = 2 ∨ ((eS (ent 2)).ertEnt (BitVec.setWidth 16 ((eS (ent 2)).rdS (Reg.s 1)))).state = 4) ∧ ((eS (ent 2)).ertEnt (BitVec.setWidth 16 ((eS (ent 2)).rdS (Reg.s 1)))).readers = 0 ∧ (let __src := ent 2; { state := 3, err := __src.err, pdie := __src.pdie, asid := __src.asid, moon := __src.moon, base := __src.base, size := __src.size, splitm1 := __src.splitm1, diemask := __src.diemask, far := __src.far, readers := __src.readers, age := __src.age, wq := __src.wq : ErtEnt }) = { state := 0, err := ((eS (ent 2)).ertEnt (BitVec.setWidth 16 ((eS (ent 2)).rdS (Reg.s 1)))).err, pdie := ((eS (ent 2)).ertEnt (BitVec.setWidth 16 ((eS (ent 2)).rdS (Reg.s 1)))).pdie, asid := ((eS (ent 2)).ertEnt (BitVec.setWidth 16 ((eS (ent 2)).rdS (Reg.s 1)))).asid, moon := ((eS (ent 2)).ertEnt (BitVec.setWidth 16 ((eS (ent 2)).rdS (Reg.s 1)))).moon, base := ((eS (ent 2)).ertEnt (BitVec.setWidth 16 ((eS (ent 2)).rdS (Reg.s 1)))).base, size := ((eS (ent 2)).ertEnt (BitVec.setWidth 16 ((eS (ent 2)).rdS (Reg.s 1)))).size, splitm1 := ((eS (ent 2)).ertEnt (BitVec.setWidth 16 ((eS (ent 2)).rdS (Reg.s 1)))).splitm1, diemask := ((eS (ent 2)).ertEnt (BitVec.setWidth 16 ((eS (ent 2)).rdS (Reg.s 1)))).diemask, far := ((eS (ent 2)).ertEnt (BitVec.setWidth 16 ((eS (ent 2)).rdS (Reg.s 1)))).far, readers := ((eS (ent 2)).ertEnt (BitVec.setWidth 16 ((eS (ent 2)).rdS (Reg.s 1)))).readers, age := ((eS (ent 2)).ertEnt (BitVec.setWidth 16 ((eS (ent 2)).rdS (Reg.s 1)))).age, wq := ((eS (ent 2)).ertEnt (BitVec.setWidth 16 ((eS (ent 2)).rdS (Reg.s 1)))).wq : ErtEnt } ∨ Instr.pin p (Reg.s 9) (Reg.s 1) (Reg.s 2) = Instr.pagein p (Reg.s 9) (Reg.s 1) (Reg.s 2) ∧ ((eS (ent 2)).ertEnt (BitVec.setWidth 16 ((eS (ent 2)).rdS (Reg.s 1)))).state = 0 ∧ ((eS (ent 2)).ertEnt (BitVec.setWidth 16 ((eS (ent 2)).rdS (Reg.s 1)))).size ≠ 0 ∧ (let __src := ent 2; { state := 3, err := __src.err, pdie := __src.pdie, asid := __src.asid, moon := __src.moon, base := __src.base, size := __src.size, splitm1 := __src.splitm1, diemask := __src.diemask, far := __src.far, readers := __src.readers, age := __src.age, wq := __src.wq : ErtEnt }) = { state := 1, err := ((eS (ent 2)).ertEnt (BitVec.setWidth 16 ((eS (ent 2)).rdS (Reg.s 1)))).err, pdie := ((eS (ent 2)).ertEnt (BitVec.setWidth 16 ((eS (ent 2)).rdS (Reg.s 1)))).pdie, asid := ((eS (ent 2)).ertEnt (BitVec.setWidth 16 ((eS (ent 2)).rdS (Reg.s 1)))).asid, moon := ((eS (ent 2)).ertEnt (BitVec.setWidth 16 ((eS (ent 2)).rdS (Reg.s 1)))).moon, base := ((eS (ent 2)).ertEnt (BitVec.setWidth 16 ((eS (ent 2)).rdS (Reg.s 1)))).base, size := ((eS (ent 2)).ertEnt (BitVec.setWidth 16 ((eS (ent 2)).rdS (Reg.s 1)))).size, splitm1 := ((eS (ent 2)).ertEnt (BitVec.setWidth 16 ((eS (ent 2)).rdS (Reg.s 1)))).splitm1, diemask := ((eS (ent 2)).ertEnt (BitVec.setWidth 16 ((eS (ent 2)).rdS (Reg.s 1)))).diemask, far := ((eS (ent 2)).ertEnt (BitVec.setWidth 16 ((eS (ent 2)).rdS (Reg.s 1)))).far, readers := ((eS (ent 2)).ertEnt (BitVec.setWidth 16 ((eS (ent 2)).rdS (Reg.s 1)))).readers, age := ((eS (ent 2)).ertEnt (BitVec.setWidth 16 ((eS (ent 2)).rdS (Reg.s 1)))).age, wq := ((eS (ent 2)).ertEnt (BitVec.setWidth 16 ((eS (ent 2)).rdS (Reg.s 1)))).wq : ErtEnt } ∨ Instr.pin p (Reg.s 9) (Reg.s 1) (Reg.s 2) = Instr.discard p (Reg.s 9) (Reg.s 1) (Reg.s 2) ∧ ((eS (ent 2)).ertEnt (BitVec.setWidth 16 ((eS (ent 2)).rdS (Reg.s 1)))).state = 0 ∧ (let __src := ent 2; { state := 3, err := __src.err, pdie := __src.pdie, asid := __src.asid, moon := __src.moon, base := __src.base, size := __src.size, splitm1 := __src.splitm1, diemask := __src.diemask, far := __src.far, readers := __src.readers, age := __src.age, wq := __src.wq : ErtEnt }) = (eS (ent 2)).ertEnt (BitVec.setWidth 16 ((eS (ent 2)).rdS (Reg.s 1)))) :=
  ⟨by decide +kernel, by decide +kernel, ⟨_, rfl⟩, by decide +kernel,
   by simp -failIfUnchanged only [CommandOk] <;> decide +kernel, by decide +kernel, by decide +kernel⟩

theorem met_ErtCommands_1221 :
    z1.t.isSpec = false ∧ CanTake z1 p (Reg.s 9) ∧ BitVec.toNat (z1.rdS (Reg.s 1)) < 2 ^ 16 ∧
    BitVec.toNat (z1.rdS (Reg.s 2)) < 2 ^ 41 ∧ bufLen (z1.rdS (Reg.s 2)) = 32 ∧ bufAddr (z1.rdS (Reg.s 2)) % 16 = 0 ∧
    bufAddr (z1.rdS (Reg.s 2)) + (32 : Nat) ≤ 1048576 ∧ z1.t.hitsHamper ↑(bufAddr (z1.rdS (Reg.s 2))) (32 : Int) = false :=
  ⟨by decide +kernel, ⟨_, rfl⟩, by decide +kernel, by decide +kernel, by decide +kernel, by decide +kernel, by decide +kernel,
   by decide +kernel⟩

theorem met_ErtCommands_12221 :
    z1.t.isSpec = false ∧ CanTake z1 p (Reg.s 9) ∧ BitVec.toNat (z1.rdS (Reg.s 1)) < 2 ^ 16 ∧
    BitVec.toNat (z1.rdS (Reg.s 2)) < 2 ^ 41 ∧ bufLen (z1.rdS (Reg.s 2)) = 32 ∧ bufAddr (z1.rdS (Reg.s 2)) % 16 = 0 ∧
    bufAddr (z1.rdS (Reg.s 2)) + (32 : Nat) ≤ 1048576 ∧ z1.t.hitsHamper ↑(bufAddr (z1.rdS (Reg.s 2))) (32 : Int) = false ∧
    BitVec.setWidth 16 (z1.rdS (Reg.s 1)) ≠ 65535 ∧ (z1.ertEnt (BitVec.setWidth 16 (z1.rdS (Reg.s 1)))).state = 0 ∧
    (¬((5 : Nat) ≤ z1.t.spmNat false (bufAddr (z1.rdS (Reg.s 2))) 32 % 8 ∨ z1.t.spmNat false (bufAddr (z1.rdS (Reg.s 2))) 32 / 2 ^ 6 % 4 ≠ 0 ∨ z1.t.spmNat false (bufAddr (z1.rdS (Reg.s 2))) 32 / 2 ^ 62 % 4 ≠ 0 ∨ z1.t.spmNat false (bufAddr (z1.rdS (Reg.s 2))) 32 / 2 ^ 252 ≠ 0 ∨ z1.configOk { state := (z1.ertEnt (BitVec.setWidth 16 (z1.rdS (Reg.s 1)))).state, err := (z1.ertEnt (BitVec.setWidth 16 (z1.rdS (Reg.s 1)))).err, pdie := (z1.ertEnt (BitVec.setWidth 16 (z1.rdS (Reg.s 1)))).pdie, asid := BitVec.ofNat 8 (z1.t.spmNat false (bufAddr (z1.rdS (Reg.s 2))) 32 / 2 ^ 8), moon := (z1.ertEnt (BitVec.setWidth 16 (z1.rdS (Reg.s 1)))).moon, base := (z1.ertEnt (BitVec.setWidth 16 (z1.rdS (Reg.s 1)))).base, size := BitVec.ofNat 16 (z1.t.spmNat false (bufAddr (z1.rdS (Reg.s 2))) 32 / 2 ^ 40), splitm1 := BitVec.ofNat 2 (z1.t.spmNat false (bufAddr (z1.rdS (Reg.s 2))) 32 / 2 ^ 56), diemask := BitVec.ofNat 4 (z1.t.spmNat false (bufAddr (z1.rdS (Reg.s 2))) 32 / 2 ^ 58), far := BitVec.ofNat 48 (z1.t.spmNat false (bufAddr (z1.rdS (Reg.s 2))) 32 / 2 ^ 64), readers := (z1.ertEnt (BitVec.setWidth 16 (z1.rdS (Reg.s 1)))).readers, age := (z1.ertEnt (BitVec.setWidth 16 (z1.rdS (Reg.s 1)))).age, wq := (z1.ertEnt (BitVec.setWidth 16 (z1.rdS (Reg.s 1)))).wq : ErtEnt } = false)) :=
  ⟨by decide +kernel, ⟨_, rfl⟩, by decide +kernel, by decide +kernel, by decide +kernel, by decide +kernel, by decide +kernel,
   by decide +kernel, by decide +kernel, by decide +kernel, by decide +kernel⟩

theorem met_ErtCommands_122221 :
    z2.t.isSpec = false ∧ CanTake z2 p (Reg.s 9) ∧ BitVec.toNat (z2.rdS (Reg.s 1)) < 2 ^ 16 ∧
    BitVec.toNat (z2.rdS (Reg.s 2)) < 2 ^ 41 ∧ bufLen (z2.rdS (Reg.s 2)) = 32 ∧ bufAddr (z2.rdS (Reg.s 2)) % 16 = 0 ∧
    bufAddr (z2.rdS (Reg.s 2)) + (32 : Nat) ≤ 1048576 ∧ z2.t.hitsHamper ↑(bufAddr (z2.rdS (Reg.s 2))) (32 : Int) = false ∧
    BitVec.setWidth 16 (z2.rdS (Reg.s 1)) ≠ 65535 ∧ (z2.ertEnt (BitVec.setWidth 16 (z2.rdS (Reg.s 1)))).state = 0 ∧
    ((5 : Nat) ≤ z2.t.spmNat false (bufAddr (z2.rdS (Reg.s 2))) 32 % 8 ∨ z2.t.spmNat false (bufAddr (z2.rdS (Reg.s 2))) 32 / 2 ^ 6 % 4 ≠ 0 ∨ z2.t.spmNat false (bufAddr (z2.rdS (Reg.s 2))) 32 / 2 ^ 62 % 4 ≠ 0 ∨ z2.t.spmNat false (bufAddr (z2.rdS (Reg.s 2))) 32 / 2 ^ 252 ≠ 0 ∨ z2.configOk { state := (z2.ertEnt (BitVec.setWidth 16 (z2.rdS (Reg.s 1)))).state, err := (z2.ertEnt (BitVec.setWidth 16 (z2.rdS (Reg.s 1)))).err, pdie := (z2.ertEnt (BitVec.setWidth 16 (z2.rdS (Reg.s 1)))).pdie, asid := BitVec.ofNat 8 (z2.t.spmNat false (bufAddr (z2.rdS (Reg.s 2))) 32 / 2 ^ 8), moon := (z2.ertEnt (BitVec.setWidth 16 (z2.rdS (Reg.s 1)))).moon, base := (z2.ertEnt (BitVec.setWidth 16 (z2.rdS (Reg.s 1)))).base, size := BitVec.ofNat 16 (z2.t.spmNat false (bufAddr (z2.rdS (Reg.s 2))) 32 / 2 ^ 40), splitm1 := BitVec.ofNat 2 (z2.t.spmNat false (bufAddr (z2.rdS (Reg.s 2))) 32 / 2 ^ 56), diemask := BitVec.ofNat 4 (z2.t.spmNat false (bufAddr (z2.rdS (Reg.s 2))) 32 / 2 ^ 58), far := BitVec.ofNat 48 (z2.t.spmNat false (bufAddr (z2.rdS (Reg.s 2))) 32 / 2 ^ 64), readers := (z2.ertEnt (BitVec.setWidth 16 (z2.rdS (Reg.s 1)))).readers, age := (z2.ertEnt (BitVec.setWidth 16 (z2.rdS (Reg.s 1)))).age, wq := (z2.ertEnt (BitVec.setWidth 16 (z2.rdS (Reg.s 1)))).wq : ErtEnt } = false) :=
  ⟨by decide +kernel, ⟨_, rfl⟩, by decide +kernel, by decide +kernel, by decide +kernel, by decide +kernel, by decide +kernel,
   by decide +kernel, by decide +kernel, by decide +kernel, by decide +kernel⟩

theorem met_ErtCommands_1222221 :
    z3.t.isSpec = false ∧ CanTake z3 p (Reg.s 9) ∧ BitVec.toNat (z3.rdS (Reg.s 1)) < 2 ^ 16 ∧
    BitVec.toNat (z3.rdS (Reg.s 2)) < 2 ^ 41 ∧ bufLen (z3.rdS (Reg.s 2)) = 32 ∧ bufAddr (z3.rdS (Reg.s 2)) % 16 = 0 ∧
    bufAddr (z3.rdS (Reg.s 2)) + (32 : Nat) ≤ 1048576 ∧ z3.t.hitsHamper ↑(bufAddr (z3.rdS (Reg.s 2))) (32 : Int) = false ∧
    BitVec.setWidth 16 (z3.rdS (Reg.s 1)) ≠ 65535 ∧ (z3.ertEnt (BitVec.setWidth 16 (z3.rdS (Reg.s 1)))).state ≠ 0 :=
  ⟨by decide +kernel, ⟨_, rfl⟩, by decide +kernel, by decide +kernel, by decide +kernel, by decide +kernel, by decide +kernel,
   by decide +kernel, by decide +kernel, by decide +kernel⟩

theorem met_ErtCommands_1222222 :
    z4.t.isSpec = false ∧ CanTake z4 p (Reg.s 9) ∧ BitVec.toNat (z4.rdS (Reg.s 1)) < 2 ^ 16 ∧
    BitVec.toNat (z4.rdS (Reg.s 2)) < 2 ^ 41 ∧ bufLen (z4.rdS (Reg.s 2)) = 32 ∧ bufAddr (z4.rdS (Reg.s 2)) % 16 = 0 ∧
    bufAddr (z4.rdS (Reg.s 2)) + (32 : Nat) ≤ 1048576 ∧ z4.t.hitsHamper ↑(bufAddr (z4.rdS (Reg.s 2))) (32 : Int) = false ∧
    BitVec.setWidth 16 (z4.rdS (Reg.s 1)) = 65535 :=
  ⟨by decide +kernel, ⟨_, rfl⟩, by decide +kernel, by decide +kernel, by decide +kernel, by decide +kernel, by decide +kernel,
   by decide +kernel, by decide +kernel⟩

theorem met_ErtCommands_211 :
    ∃ (x : Fin 16 × Nat), z5.freeSlotOn (job none).dies = some x ∧ NextJob z5 (job none) :=
  by simp -failIfUnchanged only [NextJob, ↓opt_ex, ↓opt_is, first_iff, ↓first_ex, ↓first_is] <;> decide +kernel

theorem met_ErtCommands_212 :
    ∃ (x : Fin 16 × Nat), z6.freeSlotOn (job none true).dies = some x ∧
    IsFirst z6.ert.pageq (fun (q : PageIn) => q.expert = (job none true).expert ∧ q.waiting = true) (job none true) :=
  by simp -failIfUnchanged only [↓opt_ex, ↓opt_is, first_iff, ↓first_ex, ↓first_is] <;> decide +kernel

theorem met_ErtCommands_221 :
    NextJob z7 (job none) ∧ z7.freeSlotOn (job none).dies = none ∧ z7.victim (job none).dies = none :=
  ⟨by simp -failIfUnchanged only [NextJob, first_iff] <;> decide +kernel, by decide +kernel, by decide +kernel⟩

theorem met_ErtCommands_22211 :
    ∃ (j : PageIn), IsFirst z8.ert.pageq (fun (q : PageIn) => q.expert = 4 ∧ q.waiting = true ∧ q.since ≠ z8.now ∧ (z8.now - q.since) % 65536 = 0 ∧ ∀ (x : Timed), x ∈ z8.agenda → ¬(x.ev = Instr.noVictim 4 ∧ x.due = z8.now)) j :=
  by simp -failIfUnchanged only [first_iff, ↓first_ex, ↓first_is] <;> decide +kernel

theorem met_ErtCommands_22212 :
    (∀ (j : PageIn), j ∈ z9.ert.pageq → ¬(fun (q : PageIn) => q.expert = 4 ∧ q.waiting = true ∧ q.since ≠ z9.now ∧ (z9.now - q.since) % 65536 = 0 ∧ ∀ (x : Timed), x ∈ z9.agenda → ¬(x.ev = Instr.noVictim 4 ∧ x.due = z9.now)) j) :=
  by decide +kernel

theorem met_ErtCommands_22221 :
    IsFirst z10.ert.pageq (fun (j : PageIn) => j.slot.isSome = true) (job (some 16)) ∧ z10.ert.eng[(1 : Fin 8)] = none ∧
    (∀ (m : Fin 8), m < 1 → z10.ert.eng[m] ≠ none) :=
  ⟨by simp -failIfUnchanged only [first_iff] <;> decide +kernel, by decide +kernel, by decide +kernel⟩

theorem met_ErtCommands_2222211 :
    ∃ (x : PgEng), z11.ert.eng[(1 : Fin 8)] = some x ∧ farUnit (z11.ertEnt x.job.expert).far + x.moved ∈ z11.farBad :=
  by simp -failIfUnchanged only [↓opt_ex, ↓opt_is] <;> decide +kernel

theorem met_ErtCommands_22222121 :
    ∃ (x : PgEng), z12.ert.eng[(1 : Fin 8)] = some x ∧ (¬farUnit (z12.ertEnt x.job.expert).far + x.moved ∈ z12.farBad) :=
  by simp -failIfUnchanged only [↓opt_ex, ↓opt_is] <;> decide +kernel

theorem met_ErtCommands_222221221 :
    ∃ (x : PgEng), z13.ert.eng[(1 : Fin 8)] = some x ∧ StepAnswered z13 0 (Instr.pageinComplete 1) ∧
    BitVec.toNat (z13.ertEnt x.job.expert).size ≤ x.moved ∧ z13.isFrozen 0 (BitVec.toNat x.job.expert) = false :=
  by simp -failIfUnchanged only [StepAnswered, ↓opt_ex, ↓opt_is, ↓list_all_bv, ↓list_all_bv2] <;> decide +kernel

theorem met_ErtCommands_2222212221 :
    ∃ (x : PgEng), z12.ert.eng[(1 : Fin 8)] = some x ∧
    (∀ (j : Job), j ∈ z12.jobs → j.isOf 0 (Instr.pageinComplete 1) = true → ∀ (p : Piece), p ∈ j.pieces → p.reply = some 0 ∨ p.reply = none) ∧
    (x.moved < BitVec.toNat (z12.ertEnt x.job.expert).size ∨ ∃ (j : Job), j ∈ z12.jobs ∧ j.isOf 0 (Instr.pageinComplete 1) = true ∧ ∃ (p : Piece), p ∈ j.pieces ∧ p.reply = none) :=
  by simp -failIfUnchanged only [↓opt_ex, ↓opt_is] <;> decide +kernel

theorem met_ErtCommands_22222122221 :
    ∃ (x : PgEng), (pj (some 7) (let __src := ent 1; { state := __src.state, err := __src.err, pdie := __src.pdie, asid := __src.asid, moon := __src.moon, base := __src.base, size := __src.size, splitm1 := __src.splitm1, diemask := __src.diemask, far := 7, readers := __src.readers, age := __src.age, wq := __src.wq : ErtEnt }) 6).ert.eng[(1 : Fin 8)] = some x ∧
    ∃ (j : Job), IsFirst (pj (some 7) (let __src := ent 1; { state := __src.state, err := __src.err, pdie := __src.pdie, asid := __src.asid, moon := __src.moon, base := __src.base, size := __src.size, splitm1 := __src.splitm1, diemask := __src.diemask, far := 7, readers := __src.readers, age := __src.age, wq := __src.wq : ErtEnt }) 6).jobs (fun (j : Job) => j.isOf 0 (Instr.pageinComplete 1) = true ∧ ∃ (p : Piece), p ∈ j.pieces ∧ ∃ (b : Byte), p.reply = some b ∧ b ≠ 0) j :=
  by simp -failIfUnchanged only [↓opt_ex, ↓opt_is, first_iff, ↓first_ex, ↓first_is] <;> decide +kernel

theorem met_ErtCommands_22222122222 :
    ∃ (x : PgEng), z12.ert.eng[(1 : Fin 8)] = some x :=
  by simp -failIfUnchanged only [↓opt_is] <;> decide +kernel

theorem met_ErtCommands_2222221 :
    17 = 17 ∧ BitVec.toNat (2 : W32) % 4 ≠ 3 :=
  by decide +kernel

theorem met_ErtCommands_22222221 :
    17 = 17 ∧ BitVec.toNat (3 : W32) % 4 = 3 :=
  by decide +kernel

theorem met_ErtCommands_222222221 :
    0 = 0 ∧ (¬∃ (e : Nat × ErtEnt), e ∈ z14.ert.ent ∧ z14.holdsOn e.fst e.snd 1 = true) :=
  by decide +kernel

theorem met_ErtCommands_2222222222 :
    0 ≠ 17 ∧ (∃ (e : Nat × ErtEnt), e ∈ z15.ert.ent ∧ z15.holdsOn e.fst e.snd 1 = true) :=
  by decide +kernel

end Residency

namespace Waits

def buf (a l : Nat) : W64 := BitVec.ofNat 64 (a + 2^20*l)

def ent (st : BitVec 3) : ErtEnt := { ErtEnt.reset with state := st, asid := 9, moon := 3, pdie := 1, base := 77, size := 6, wq := (Vector.replicate 4 none).set 2 (some (3,4)) }
def eS (x : ErtEnt) (s1 : W64 := 4) (s2 : W64 := buf 0x100 0) : State := { st (withS [s1, s2] tile) with tiles := [(306, withS [s1,s2] tile)], cur := 306, ert := { Ert.reset with ent := [(4, x)], clock := 55 } }

def rC (x : ErtEnt) (v : Nat) (s1 : W64 := 4) : State := let t := { withS [s1, buf 0x100 32] tile with spm := Mem.write [] 0x100 (bytesOf v 32) }; { eS x with tiles := [(306, t)], ert := { Ert.reset with ent := [(4, x)], clock := 55, pool := Ert.reset.pool.set 1 { Pool.reset with size := 8 } } }
def jS (js : List PageIn) (x : ErtEnt := ent 1) (pol : BitVec 2 := 0) : State := { rC x 0 with ert := { (rC x 0).ert with pageq := js, pool := Ert.reset.pool.set 1 { Pool.reset with size := 8, moon := Pool.reset.moon.set 3 (16, 2), policy := pol } } }

theorem met_ErtCommands_2222222221 :
    4 = 3 + 1 ∧ (¬∃ (e : Nat × ErtEnt), e ∈ (jS [] (ent 0)).ert.ent ∧ (jS [] (ent 0)).holdsOn e.fst e.snd 1 = true) :=
  by decide +kernel

end Waits

end Sys2Proof.Tests
end

