-- ==== Sys2Proof/Tests/MetFabric.lean ====
section
/-!
SUPPORT. States that meet the hypotheses of the statements about ports, pairs and the fabric: `met_<Obligation>_<path>` meets those of the
clause at that place of the statement (1: the left side of a conjunction, 2: the right side).
-/

set_option linter.unusedVariables false
set_option linter.unusedSimpArgs false

namespace Sys2Proof.Tests

set_option Elab.async false

open Machine

namespace Ports

def pk (dst len : Nat) (kind : Nat := 7) : Packet := mkPacket 5 (BitVec.ofNat 32 dst) kind 3 0x43 0 0 (List.replicate len 7)

def po (f : Port → Port := id) : Port := f { Port.reset with up := true, goodv := true, good := 7, fseq := 9, replay := [2,3,4].map fun i => { portFlit Port.reset 0 [] with fseq := i }, credits := Vector.replicate 3 6 }
def fl (sq : BitVec 12) (pay : List Byte := []) (kind : BitVec 3 := 0) : Flit := sealFlit { portFlit Port.reset kind pay with fseq := sq, ackv := true, ackseq := 3, ccnt := 5, ccls := 1, qdep := 9 }

def pS (p : Port) : State := { st tile with cur := 1022, net := { Net.reset with port := Net.reset.port.set 4 p, srt := [(2, BitVec.ofNat 64 (2 + 2^20 + 2^(23+4))), (3, BitVec.ofNat 64 (3 + 2^20+2^21+2^22))] } }
def pkb (p : Packet) : List Byte := packetBytes p

def tr (p : Port) : Port := { p with up := false, training := true, view := 77, downAt := 500, trainAt := 500 }
def tf (v : Nat) (ackv := true) : Flit := sealFlit { fl 8 (bytesOf v 4) 3 with ackv := ackv }

def e2 : W64 := BitVec.ofNat 64 (2 + 2^20 + 2^(23+4))
def e3 : W64 := BitVec.ofNat 64 (3 + 2^20+2^21+2^22)

def qS (r : Nat) (p : Packet) (f : Port → Port := id) : State := pS (po fun x => f { x with queue := x.queue.set 1 [(r, p)] })
def uS (r : Nat) (p : Packet) : State := { pS po with net := { (pS po).net with uet := (pS po).net.uet.set 3 [(r, p)] } }

def zIn (inp rdy : Nat) (cls : BitVec 2) : Transit := ⟨{ pk (5 + inp) 16 with cls := cls }, 5, .halt p, [.out 0 5 6 1], rdy, inp⟩
def z1 : State := (pS Port.reset)

def z2 : State := (pS (po))
def z3 : State := (pS (po fun p => { p with nakSent := true }))

def z4 : State := (pS (po fun p => { p with naks := 7, lastNak := 3 }))
def z5 : State := (pS po)

def z6 : State := (pS (po fun p => { p with up := false, failed := true }))
def z7 : State := (pS (po tr))

def z8 : State := { pS (po tr) with now := 66036 }
def z9 : State := { pS (po tr) with now := 66035 }

def z10 : State := (qS 1000 (pk 0x2005 300))
def z11 : State := (qS 1000 (pk 0x2005 1409))

def z12 : State := (uS 1001 (pk 0x3005 300))
def z13 : State := (uS 1000 (pk 0x3005 300))

theorem met_PortsRun_11 :
    z1.net.port[(4 : Fin 18)].up = false :=
  by decide +kernel

theorem met_PortsRun_1211 :
    z2.net.port[(4 : Fin 18)].up = true ∧
    (Instr.idle 4 (sealFlit (let __src := fl 9; { fseq := __src.fseq, ackseq := __src.ackseq, ackv := __src.ackv, kind := __src.kind, ccls := __src.ccls, ccnt := __src.ccnt, qdep := __src.qdep, rsv := 1, payload := __src.payload, crc := __src.crc, rsvEnd := __src.rsvEnd : Flit })) = Instr.data 4 (sealFlit (let __src := fl 9; { fseq := __src.fseq, ackseq := __src.ackseq, ackv := __src.ackv, kind := __src.kind, ccls := __src.ccls, ccnt := __src.ccnt, qdep := __src.qdep, rsv := 1, payload := __src.payload, crc := __src.crc, rsvEnd := __src.rsvEnd : Flit })) ∨ Instr.idle 4 (sealFlit (let __src := fl 9; { fseq := __src.fseq, ackseq := __src.ackseq, ackv := __src.ackv, kind := __src.kind, ccls := __src.ccls, ccnt := __src.ccnt, qdep := __src.qdep, rsv := 1, payload := __src.payload, crc := __src.crc, rsvEnd := __src.rsvEnd : Flit })) = Instr.idle 4 (sealFlit (let __src := fl 9; { fseq := __src.fseq, ackseq := __src.ackseq, ackv := __src.ackv, kind := __src.kind, ccls := __src.ccls, ccnt := __src.ccnt, qdep := __src.qdep, rsv := 1, payload := __src.payload, crc := __src.crc, rsvEnd := __src.rsvEnd : Flit })) ∨ Instr.idle 4 (sealFlit (let __src := fl 9; { fseq := __src.fseq, ackseq := __src.ackseq, ackv := __src.ackv, kind := __src.kind, ccls := __src.ccls, ccnt := __src.ccnt, qdep := __src.qdep, rsv := 1, payload := __src.payload, crc := __src.crc, rsvEnd := __src.rsvEnd : Flit })) = Instr.nak 4 (sealFlit (let __src := fl 9; { fseq := __src.fseq, ackseq := __src.ackseq, ackv := __src.ackv, kind := __src.kind, ccls := __src.ccls, ccnt := __src.ccnt, qdep := __src.qdep, rsv := 1, payload := __src.payload, crc := __src.crc, rsvEnd := __src.rsvEnd : Flit }))) ∧
    Broken (sealFlit (let __src := fl 9; { fseq := __src.fseq, ackseq := __src.ackseq, ackv := __src.ackv, kind := __src.kind, ccls := __src.ccls, ccnt := __src.ccnt, qdep := __src.qdep, rsv := 1, payload := __src.payload, crc := __src.crc, rsvEnd := __src.rsvEnd : Flit })) :=
  ⟨by decide +kernel, by decide +kernel, by simp -failIfUnchanged only [Broken] <;> decide +kernel⟩

theorem met_PortsRun_12121 :
    z3.net.port[(4 : Fin 18)].up = true ∧
    (Instr.data 4 (fl 9) = Instr.data 4 (fl 9) ∨ Instr.data 4 (fl 9) = Instr.idle 4 (fl 9) ∨ Instr.data 4 (fl 9) = Instr.nak 4 (fl 9)) ∧
    Instr.data 4 (fl 9) = Instr.data 4 (fl 9) ∧ (¬Broken (fl 9)) ∧ (fl 9).fseq ≠ nextFlit z3.net.port[(4 : Fin 18)] ∧
    z3.net.port[(4 : Fin 18)].nakSent = true :=
  ⟨by decide +kernel, by decide +kernel, by decide +kernel, by simp -failIfUnchanged only [Broken] <;> decide +kernel,
   by decide +kernel, by decide +kernel⟩

theorem met_PortsRun_12122 :
    z2.net.port[(4 : Fin 18)].up = true ∧
    (Instr.data 4 (fl 9) = Instr.data 4 (fl 9) ∨ Instr.data 4 (fl 9) = Instr.idle 4 (fl 9) ∨ Instr.data 4 (fl 9) = Instr.nak 4 (fl 9)) ∧
    Instr.data 4 (fl 9) = Instr.data 4 (fl 9) ∧ (¬Broken (fl 9)) ∧ (fl 9).fseq ≠ nextFlit z2.net.port[(4 : Fin 18)] ∧
    z2.net.port[(4 : Fin 18)].nakSent = false :=
  ⟨by decide +kernel, by decide +kernel, by decide +kernel, by simp -failIfUnchanged only [Broken] <;> decide +kernel,
   by decide +kernel, by decide +kernel⟩

theorem met_PortsRun_12211 :
    z2.net.port[(4 : Fin 18)].up = true ∧ (¬Broken (fl 8 (List.take 240 (pkb (pk 5 300))))) ∧
    (fl 8 (List.take 240 (pkb (pk 5 300)))).fseq = nextFlit z2.net.port[(4 : Fin 18)] ∧
    (z2.net.port[(4 : Fin 18)].part ++ (fl 8 (List.take 240 (pkb (pk 5 300)))).payload).length < 32 + headerLen (z2.net.port[(4 : Fin 18)].part ++ (fl 8 (List.take 240 (pkb (pk 5 300)))).payload) :=
  ⟨by decide +kernel, by simp -failIfUnchanged only [Broken] <;> decide +kernel, by decide +kernel, by decide +kernel⟩

theorem met_PortsRun_12212 :
    z2.net.port[(4 : Fin 18)].up = true ∧ (¬Broken (fl 8 (List.replicate 20 0))) ∧
    (fl 8 (List.replicate 20 0)).fseq = nextFlit z2.net.port[(4 : Fin 18)] ∧
    32 + headerLen (z2.net.port[(4 : Fin 18)].part ++ (fl 8 (List.replicate 20 0)).payload) ≤ (z2.net.port[(4 : Fin 18)].part ++ (fl 8 (List.replicate 20 0)).payload).length :=
  ⟨by decide +kernel, by simp -failIfUnchanged only [Broken] <;> decide +kernel, by decide +kernel, by decide +kernel⟩

theorem met_PortsRun_12221 :
    z2.net.port[(4 : Fin 18)].up = true ∧ (¬Broken (fl 8 (List.replicate 20 0))) :=
  ⟨by decide +kernel, by simp -failIfUnchanged only [Broken] <;> decide +kernel⟩

theorem met_PortsRun_122221 :
    z2.net.port[(4 : Fin 18)].up = true ∧ (¬Broken (fl 8 (List.replicate 20 0))) ∧
    (if z2.net.port[(4 : Fin 18)].naks ≠ 0 ∧ z2.net.port[(4 : Fin 18)].lastNak = (fl 8 (List.replicate 20 0)).ackseq then z2.net.port[(4 : Fin 18)].naks + 1 else 1) ≠ 8 :=
  ⟨by decide +kernel, by simp -failIfUnchanged only [Broken] <;> decide +kernel, by decide +kernel⟩

theorem met_PortsRun_122222 :
    z4.net.port[(4 : Fin 18)].up = true ∧ (¬Broken (fl 8)) ∧
    (if z4.net.port[(4 : Fin 18)].naks ≠ 0 ∧ z4.net.port[(4 : Fin 18)].lastNak = (fl 8).ackseq then z4.net.port[(4 : Fin 18)].naks + 1 else 1) = 8 ∧
    BitVec.toNat z4.mgmt.bootst < 128 :=
  ⟨by decide +kernel, by simp -failIfUnchanged only [Broken] <;> decide +kernel, by decide +kernel, by decide +kernel⟩

theorem met_PortsRun_2111 :
    (Instr.linkUp 4 = Instr.linkUp 4 ∨ Instr.linkUp 4 = Instr.lossOfLock 4 ∨ Instr.linkUp 4 = Instr.portRetrainCommand 4) ∧
    (z5.net.port[(4 : Fin 18)].failed = false ∨ Instr.linkUp 4 = Instr.portRetrainCommand 4) ∧
    BitVec.toNat z5.mgmt.bootst < 128 :=
  by decide +kernel

theorem met_PortsRun_2112 :
    (Instr.lossOfLock 4 = Instr.linkUp 4 ∨ Instr.lossOfLock 4 = Instr.lossOfLock 4 ∨ Instr.lossOfLock 4 = Instr.portRetrainCommand 4) ∧
    ((128 : Nat) ≤ BitVec.toNat z6.mgmt.bootst ∨ z6.net.port[(4 : Fin 18)].failed = true ∧ Instr.lossOfLock 4 ≠ Instr.portRetrainCommand 4) :=
  by decide +kernel

theorem met_PortsRun_21211 :
    (z5.net.port[(4 : Fin 18)].training = false ∨ Broken (tf 77)) :=
  by simp -failIfUnchanged only [Broken] <;> decide +kernel

theorem met_PortsRun_212121 :
    z7.net.port[(4 : Fin 18)].training = true ∧ (¬Broken (tf 77)) ∧
    BitVec.ofNat 27 (ofBytes (List.take 4 (tf 77).payload)) = z7.net.port[(4 : Fin 18)].view :=
  ⟨by decide +kernel, by simp -failIfUnchanged only [Broken] <;> decide +kernel, by decide +kernel⟩

theorem met_PortsRun_212122 :
    z7.net.port[(4 : Fin 18)].training = true ∧ (¬Broken (tf 78)) ∧
    BitVec.ofNat 27 (ofBytes (List.take 4 (tf 78).payload)) ≠ z7.net.port[(4 : Fin 18)].view :=
  ⟨by decide +kernel, by simp -failIfUnchanged only [Broken] <;> decide +kernel, by decide +kernel⟩

theorem met_PortsRun_21221 :
    z8.net.port[(4 : Fin 18)].training = true ∧ z8.net.port[(4 : Fin 18)].trainAt + (65536 : Nat) ≤ z8.now :=
  by decide +kernel

theorem met_PortsRun_212221 :
    (z9.net.port[(4 : Fin 18)].training = false ∨ z9.now < z9.net.port[(4 : Fin 18)].trainAt + 65536) :=
  by decide +kernel

theorem met_PortsRun_2122221 :
    z8.net.port[(4 : Fin 18)].up = false ∧ z8.net.port[(4 : Fin 18)].downAt + (65536 : Nat) ≤ z8.now :=
  by decide +kernel

theorem met_PortsRun_2122222 :
    (z9.net.port[(4 : Fin 18)].up = true ∨ z9.now < z9.net.port[(4 : Fin 18)].downAt + 65536) :=
  by decide +kernel

theorem met_PortsRun_2211 :
    (∀ (e : W64), ¬Routes z5 (pkgOf (pk 16389 300).dst) e) :=
  noRoute_of (by decide +kernel)

theorem met_PortsRun_22121 :
    Routes (pS po) (pkgOf (pk 12293 300).dst) e3 ∧ BitVec.getLsbD e3 21 = true :=
  ⟨by simp -failIfUnchanged only [Routes] <;> decide +kernel, by decide +kernel⟩

theorem met_PortsRun_221221 :
    Routes (pS po) (pkgOf (pk 8197 300).dst) e2 ∧ BitVec.getLsbD e2 21 = false ∧ ChosenPort (pS po) e2 4 :=
  ⟨by simp -failIfUnchanged only [Routes] <;> decide +kernel, by decide +kernel,
   by simp -failIfUnchanged only [ChosenPort, Listed] <;> decide +kernel⟩

theorem met_PortsRun_221222 :
    Routes (pS Port.reset) (pkgOf (pk 8197 300).dst) e2 ∧ BitVec.getLsbD e2 21 = false ∧
    (∀ (k : Fin 18), ¬Listed (pS Port.reset) e2 k) :=
  ⟨by simp -failIfUnchanged only [Routes] <;> decide +kernel, by decide +kernel,
   by simp -failIfUnchanged only [Listed] <;> decide +kernel⟩

theorem met_PortsRun_22211 :
    OnlyQueue z10 4 1 [(1000, pk 8197 300)] ∧ z10.net.port[(4 : Fin 18)].up = true ∧ (1000 : Nat) ≤ z10.now ∧
    z10.net.port[(4 : Fin 18)].replay.length + (packetFlits z10.net.port[(4 : Fin 18)] (pk 8197 300)).length ≤ 512 ∧
    (packetFlits z10.net.port[(4 : Fin 18)] (pk 8197 300)).length ≤ z10.net.port[(4 : Fin 18)].credits[(1 : Fin 3)] :=
  ⟨by simp -failIfUnchanged only [OnlyQueue] <;> decide +kernel, by decide +kernel, by decide +kernel, by decide +kernel,
   by decide +kernel⟩

theorem met_PortsRun_22212 :
    OnlyQueue z11 4 1 [(1000, pk 8197 1409)] ∧
    (¬(z11.net.port[(4 : Fin 18)].up = true ∧ (1000 : Nat) ≤ z11.now ∧ z11.net.port[(4 : Fin 18)].replay.length + (packetFlits z11.net.port[(4 : Fin 18)] (pk 8197 1409)).length ≤ 512 ∧ (packetFlits z11.net.port[(4 : Fin 18)] (pk 8197 1409)).length ≤ z11.net.port[(4 : Fin 18)].credits[(1 : Fin 3)])) :=
  ⟨by simp -failIfUnchanged only [OnlyQueue] <;> decide +kernel, by decide +kernel⟩

theorem met_PortsRun_222211 :
    z12.net.uet[(3 : Fin 8)] = [(1001, pk 12293 300)] ∧ (∀ (j : Fin 8), j ≠ 3 → z12.net.uet[j] = []) ∧
    (∀ (j : Fin 18) (c : Fin 3), z12.net.port[j].queue[c] = []) ∧ z12.now < 1001 :=
  by decide +kernel

theorem met_PortsRun_222212 :
    z13.net.uet[(3 : Fin 8)] = [(1000, pk 12293 300)] ∧ (∀ (j : Fin 8), j ≠ 3 → z13.net.uet[j] = []) ∧
    (∀ (j : Fin 18) (c : Fin 3), z13.net.port[j].queue[c] = []) ∧ (1000 : Nat) ≤ z13.now :=
  by decide +kernel

theorem met_PortsRun_222221 :
    (5 / 1024 : Nat) = (39 / 1024 : Nat) ∧ onSwitch 5 = false ∧ onSwitch 39 = false :=
  by decide +kernel

theorem met_PortsRun_2222221 :
    winner [zIn 2 990 1, zIn 3 995 2, zIn 4 999 0] ⟨.out 0 5 6 1, 0, 2⟩ 1000 = some (zIn 3 995 2) ∧
      zIn 2 990 1 ∈ [zIn 2 990 1, zIn 3 995 2, zIn 4 999 0] ∧
      (zIn 2 990 1).asks [zIn 2 990 1, zIn 3 995 2, zIn 4 999 0] (.out 0 5 6 1) 1000 = true := by
  decide +kernel

end Ports

namespace Pairs

def pk (sq : W32) (kind : Nat := 7) : Packet := { mkPacket 0x2007 5 kind 0 0x43 0 0 [] with sv := true, seq := sq }

def pe (f : Peer → Peer := id) : Peer := f { Peer.start 0x2007 5 900 with expected := 10, rx := true, rxUse := 950 }
def pS (l : List Peer) : State := { on 5 tile with net := { Net.reset with peers := l, srt := [(2, BitVec.ofNat 64 (2 + 2^20 + 2^(23+4)))], port := Net.reset.port.set 4 { Port.reset with up := true } } }

def pF (n : Nat) (l : List Peer) : State := pS ((List.range n).map (fun k => { Peer.start (BitVec.ofNat 32 (0x3000 + k)) 5 900 with rx := true, rxUse := 900 - k % 7, expected := 4 }) ++ l)
def pH (n : Nat) : State := pS ((List.range n).map (fun k => { Peer.start (BitVec.ofNat 32 (0x3000 + k)) 5 900 with rx := true, held := [pk 12] }))

def ck (kind : Nat) (sq : W32) (ext : BitVec 32 := 0) (src : W32 := 0x2007) : Packet := { mkPacket src 5 kind 0 0 0 0 [] with seq := sq, ext := ext.setWidth _ }
def tx (f : Peer → Peer := id) : Peer := f { Peer.start 5 0x2007 900 with next := 4, unacked := [pk 1, pk 2, pk 3], tries := 2, lastUse := 950 }

def rcv (src : W32) (f : Peer → Peer) : State :=
  let t : Tile := { tile with cpl := tile.cpl.set 5 (slot .recv 1), msg := { tile.msg with pulls := [⟨env0 src 3 50, 0x45, 50, 0⟩] } }
  { pS [f { pe with src := src }] with tiles := [(5, t)] }

def tS (p : Peer) (l : List Peer := []) : State := pS (p :: l)
def lmt : Nat := 64 * (E2e.reset.ctl.toNat % 2 ^ 16)

def at' (n : Nat) (s : State) : State := { s with now := n }
def sx : Peer := { Peer.start 5 0x2007 900 with next := 4, unacked := [{ pk 3 0 with src := 5, dst := 0x2007, xid := 0x45 }], tries := 7, lastUse := 950 }

def sS : State := let t : Tile := { tile with cpl := tile.cpl.set 5 { slot .send 1 with x := { Xfer.empty with peer := 0x2007 } } }; { at' (950 + lmt) (tS sx) with tiles := [(5, t)] }
def wt (l : List Peer) (p : Packet := { pk 0 0 with src := 5, dst := 0x2007, sv := false, xid := 0x45 }) : State := { pS l with net := { (pS l).net with waiting := [(700, p)] } }

def wp : Packet := { pk 0 0 with src := 5, dst := 0x2007, sv := false, xid := 0x45 }
def many (n : Nat) (un cl : Bool) : List Peer := (List.range n).map (fun k => { Peer.start 5 (BitVec.ofNat 32 (0x3000 + k)) 900 with next := 4, unacked := if un || k % 2 = 0 then [wp] else [], closing := cl, lastUse := 900 - k % 7 })

def z1 : State := (pS [pe])
def z2 : State := (pS [pe fun p => { p with held := [pk 11] }])

def z3 : State := { pS [pe] with net := { (pS [pe]).net with store := Vector.replicate 4 0x1FFFF0 } }
def z4 : State := (pH 1024)

def z5 : State := (pF 1024 [])
def z6 : State := (pS [tx])

def z7 : State := (pS [])
def z8 : State := (tS (tx fun p => { p with unacked := [] }))

def z9 : State := (tS tx)
def z10 : State := (at' (950 + lmt) (tS (tx fun p => { p with tries := 0 })))

def z11 : State := (wt [])
def z12 : State := (wt (many 1024 false false))

def z13 : State := (wt (many 1024 true false))
def z14 : State := { wt [] with tiles := sS.tiles }

theorem met_PairsKeepOrder_111 :
    Sequenced (Instr.fin (pk 10)) (pk 10) ∧ HasRoom z1 (pk 10) ∧
    BitVec.toNat ((pk 10).seq - (pairUsed z1 (pk 10)).expected) = 0 ∧ (pairUsed z1 (pk 10)).held = [] ∧ (pk 10).kind.toNat ≤ 8 :=
  ⟨by constructor <;> decide +kernel, by simp -failIfUnchanged only [HasRoom] <;> decide +kernel, by decide +kernel,
   by decide +kernel, by decide +kernel⟩

theorem met_PairsKeepOrder_1121 :
    Sequenced (Instr.fin (pk 11)) (pk 11) ∧ HasRoom z1 (pk 11) ∧
    0 < BitVec.toNat ((pk 11).seq - (pairUsed z1 (pk 11)).expected) ∧
    BitVec.toNat ((pk 11).seq - (pairUsed z1 (pk 11)).expected) < 256 ∧
    (∀ (x : Packet), x ∈ (pairUsed z1 (pk 11)).held → x.seq ≠ (pk 11).seq) ∧
    z1.net.store[dieOf (keyOf (pk 11).dst)] + (32 + (pk 11).payload.length) ≤ 2097152 :=
  ⟨by constructor <;> decide +kernel, by simp -failIfUnchanged only [HasRoom] <;> decide +kernel, by decide +kernel,
   by decide +kernel, by decide +kernel, by decide +kernel⟩

theorem met_PairsKeepOrder_11221 :
    Sequenced (Instr.fin (pk 11)) (pk 11) ∧ HasRoom z2 (pk 11) ∧
    0 < BitVec.toNat ((pk 11).seq - (pairUsed z2 (pk 11)).expected) ∧
    BitVec.toNat ((pk 11).seq - (pairUsed z2 (pk 11)).expected) < 256 ∧
    (∃ (x : Packet), x ∈ (pairUsed z2 (pk 11)).held ∧ x.seq = (pk 11).seq) :=
  ⟨by constructor <;> decide +kernel, by simp -failIfUnchanged only [HasRoom] <;> decide +kernel, by decide +kernel,
   by decide +kernel, by decide +kernel⟩

theorem met_PairsKeepOrder_112221 :
    Sequenced (Instr.fin (pk 11)) (pk 11) ∧ HasRoom z3 (pk 11) ∧
    0 < BitVec.toNat ((pk 11).seq - (pairUsed z3 (pk 11)).expected) ∧
    BitVec.toNat ((pk 11).seq - (pairUsed z3 (pk 11)).expected) < 256 ∧
    (∀ (x : Packet), x ∈ (pairUsed z3 (pk 11)).held → x.seq ≠ (pk 11).seq) ∧
    2097152 < z3.net.store[dieOf (keyOf (pk 11).dst)] + (32 + (pk 11).payload.length) :=
  ⟨by constructor <;> decide +kernel, by simp -failIfUnchanged only [HasRoom] <;> decide +kernel, by decide +kernel,
   by decide +kernel, by decide +kernel, by decide +kernel⟩

theorem met_PairsKeepOrder_1122221 :
    Sequenced (Instr.fin (pk 266)) (pk 266) ∧ HasRoom z1 (pk 266) ∧
    (256 : Nat) ≤ BitVec.toNat ((pk 266).seq - (pairUsed z1 (pk 266)).expected) :=
  ⟨by constructor <;> decide +kernel, by simp -failIfUnchanged only [HasRoom] <;> decide +kernel, by decide +kernel⟩

theorem met_PairsKeepOrder_11222221 :
    Sequenced (Instr.fin (pk 0)) (pk 0) ∧ (¬HasRoom z4 (pk 0)) ∧
    (∀ (x : Peer), x ∈ z4.net.peers → x.dst = (pk 0).dst → x.rx = true → x.held ≠ [] ∨ x.rxClosing = true) :=
  ⟨by constructor <;> decide +kernel, by simp -failIfUnchanged only [HasRoom] <;> decide +kernel, by decide +kernel⟩

theorem met_PairsKeepOrder_11222222 :
    Sequenced (Instr.fin (pk 0)) (pk 0) ∧ (¬HasRoom z5 (pk 0)) ∧ (∀ (x : Peer), x ∈ z5.net.peers → x.rxClosing = false) ∧
    (∃ (x : Peer), x ∈ z5.net.peers ∧ x.dst = (pk 0).dst ∧ x.rx = true ∧ x.held = []) :=
  ⟨by constructor <;> decide +kernel, by simp -failIfUnchanged only [HasRoom] <;> decide +kernel, by decide +kernel,
   by decide +kernel⟩

theorem met_PairsKeepOrder_121 :
    Plain (ck 32 2) 32 ∧ z6.peer (ck 32 2).dst (ck 32 2).src = some tx :=
  ⟨by simp -failIfUnchanged only [Plain] <;> decide +kernel, by decide +kernel⟩

theorem met_PairsKeepOrder_1221 :
    Plain (ck 32 3) 32 ∧ z1.peer (ck 32 3).dst (ck 32 3).src = none :=
  ⟨by simp -failIfUnchanged only [Plain] <;> decide +kernel, by decide +kernel⟩

theorem met_PairsKeepOrder_122211 :
    Plain (ck 33 9) 33 ∧ z1.peer (ck 33 9).src (ck 33 9).dst = some pe ∧ (ck 33 9).ext = 0 ∧
    if z1.isLocal (ck 33 9).src = true then pe.lost = [] else pe.expected = (ck 33 9).seq + 1 :=
  ⟨by simp -failIfUnchanged only [Plain] <;> decide +kernel, by decide +kernel, by decide +kernel, by decide +kernel⟩

theorem met_PairsKeepOrder_122212 :
    Plain (ck 33 12) 33 ∧ (rcv 8199 id).peer (ck 33 12).src (ck 33 12).dst = some pe ∧ (ck 33 12).ext = 0 ∧
    if (rcv 8199 id).isLocal (ck 33 12).src = true then { env := env0 8199 3 50, xid := 69, n := 50, got := 0 : Pulling }.env.sxid ∈ pe.lost else pe.expected ≠ (ck 33 12).seq + 1 ∧
    isHostKey (rcv 8199 id).cur = false ∧
    (∀ (v : Saved), v ∈ (rcv 8199 id).sched.saves → v.rank ≠ (rcv 8199 id).rankOf (rcv 8199 id).cur) ∧
    (rcv 8199 id).t.msg.pulls = [{ env := env0 8199 3 50, xid := 69, n := 50, got := 0 : Pulling }] ∧
    { env := env0 8199 3 50, xid := 69, n := 50, got := 0 : Pulling }.env.src = (ck 33 12).src ∧
    InProgress (rcv 8199 id).t { env := env0 8199 3 50, xid := 69, n := 50, got := 0 : Pulling }.xid (slot SlotOp.recv 1) :=
  ⟨by simp -failIfUnchanged only [Plain] <;> decide +kernel, by decide +kernel, by decide +kernel, by decide +kernel,
   by decide +kernel, by decide +kernel, by decide +kernel, by decide +kernel,
   by simp -failIfUnchanged only [InProgress, exists_eq_left'] <;> decide +kernel⟩

theorem met_PairsKeepOrder_122221 :
    Plain (ck 33 12) 33 ∧ (ck 33 12).ext = 0 ∧ z7.peer (ck 33 12).src (ck 33 12).dst = none :=
  ⟨by simp -failIfUnchanged only [Plain] <;> decide +kernel, by decide +kernel, by decide +kernel⟩

theorem met_PairsKeepOrder_12222211 :
    Plain (ck 33 3 1) 33 ∧ (ck 33 3 1).ext ≠ 0 ∧
    (pS [tx fun (p : Peer) => { src := p.src, dst := p.dst, next := p.next, unacked := [], tries := p.tries, lastUse := p.lastUse, expected := p.expected, held := p.held, closing := p.closing, rx := p.rx, rxUse := p.rxUse, rxClosing := p.rxClosing, lost := p.lost : Peer }]).peer (ck 33 3 1).dst (ck 33 3 1).src = some (tx fun (p : Peer) => { src := p.src, dst := p.dst, next := p.next, unacked := [], tries := p.tries, lastUse := p.lastUse, expected := p.expected, held := p.held, closing := p.closing, rx := p.rx, rxUse := p.rxUse, rxClosing := p.rxClosing, lost := p.lost : Peer }) ∧
    (tx fun (p : Peer) => { src := p.src, dst := p.dst, next := p.next, unacked := [], tries := p.tries, lastUse := p.lastUse, expected := p.expected, held := p.held, closing := p.closing, rx := p.rx, rxUse := p.rxUse, rxClosing := p.rxClosing, lost := p.lost : Peer }).unacked = [] ∧
    (tx fun (p : Peer) => { src := p.src, dst := p.dst, next := p.next, unacked := [], tries := p.tries, lastUse := p.lastUse, expected := p.expected, held := p.held, closing := p.closing, rx := p.rx, rxUse := p.rxUse, rxClosing := p.rxClosing, lost := p.lost : Peer }).closing = false ∧
    (tx fun (p : Peer) => { src := p.src, dst := p.dst, next := p.next, unacked := [], tries := p.tries, lastUse := p.lastUse, expected := p.expected, held := p.held, closing := p.closing, rx := p.rx, rxUse := p.rxUse, rxClosing := p.rxClosing, lost := p.lost : Peer }).next = (ck 33 3 1).seq + 1 :=
  ⟨by simp -failIfUnchanged only [Plain] <;> decide +kernel, by decide +kernel,
   by simp -failIfUnchanged only [next_iff] <;> decide +kernel, by simp -failIfUnchanged only [next_iff] <;> decide +kernel,
   by simp -failIfUnchanged only [next_iff] <;> decide +kernel, by simp -failIfUnchanged only [next_iff] <;> decide +kernel⟩

theorem met_PairsKeepOrder_12222212 :
    Plain (ck 33 3 1) 33 ∧ (ck 33 3 1).ext ≠ 0 ∧
    (∀ (q : Peer), (pS [tx]).peer (ck 33 3 1).dst (ck 33 3 1).src = some q → q.unacked ≠ [] ∨ q.closing = true ∨ q.next ≠ (ck 33 3 1).seq + 1) :=
  ⟨by simp -failIfUnchanged only [Plain] <;> decide +kernel, by decide +kernel,
   by simp -failIfUnchanged only [↓opt_all, next_iff] <;> decide +kernel⟩

theorem met_PairsKeepOrder_12222221 :
    Plain (ck 34 0) 34 ∧ (ck 34 0).ext = 0 :=
  ⟨by simp -failIfUnchanged only [Plain] <;> decide +kernel, by decide +kernel⟩

theorem met_PairsKeepOrder_122222221 :
    Plain (let __src := ck 34 0 1; { dst := 5, src := 8199, kind := __src.kind, cls := __src.cls, sv := __src.sv, rsv := __src.rsv, seq := __src.seq, group := __src.group, xid := __src.xid, off := __src.off, aux := __src.aux, ext := __src.ext, payload := __src.payload, bad := __src.bad : Packet }) 34 ∧
    (let __src := ck 34 0 1; { dst := 5, src := 8199, kind := __src.kind, cls := __src.cls, sv := __src.sv, rsv := __src.rsv, seq := __src.seq, group := __src.group, xid := __src.xid, off := __src.off, aux := __src.aux, ext := __src.ext, payload := __src.payload, bad := __src.bad : Packet }).ext ≠ 0 ∧
    (pS [pe fun (p : Peer) => { src := p.src, dst := p.dst, next := p.next, unacked := p.unacked, tries := p.tries, lastUse := p.lastUse, expected := p.expected, held := p.held, closing := p.closing, rx := p.rx, rxUse := p.rxUse, rxClosing := true, lost := p.lost : Peer }]).peer (let __src := ck 34 0 1; { dst := 5, src := 8199, kind := __src.kind, cls := __src.cls, sv := __src.sv, rsv := __src.rsv, seq := __src.seq, group := __src.group, xid := __src.xid, off := __src.off, aux := __src.aux, ext := __src.ext, payload := __src.payload, bad := __src.bad : Packet }).src (let __src := ck 34 0 1; { dst := 5, src := 8199, kind := __src.kind, cls := __src.cls, sv := __src.sv, rsv := __src.rsv, seq := __src.seq, group := __src.group, xid := __src.xid, off := __src.off, aux := __src.aux, ext := __src.ext, payload := __src.payload, bad := __src.bad : Packet }).dst = some (pe fun (p : Peer) => { src := p.src, dst := p.dst, next := p.next, unacked := p.unacked, tries := p.tries, lastUse := p.lastUse, expected := p.expected, held := p.held, closing := p.closing, rx := p.rx, rxUse := p.rxUse, rxClosing := true, lost := p.lost : Peer }) ∧
    (pe fun (p : Peer) => { src := p.src, dst := p.dst, next := p.next, unacked := p.unacked, tries := p.tries, lastUse := p.lastUse, expected := p.expected, held := p.held, closing := p.closing, rx := p.rx, rxUse := p.rxUse, rxClosing := true, lost := p.lost : Peer }).rxClosing = true :=
  ⟨by simp -failIfUnchanged only [Plain] <;> decide +kernel, by decide +kernel,
   by simp -failIfUnchanged only [next_iff] <;> decide +kernel, by simp -failIfUnchanged only [next_iff] <;> decide +kernel⟩

theorem met_PairsKeepOrder_122222222 :
    Plain (let __src := ck 34 0 1; { dst := 8199, src := 5, kind := __src.kind, cls := __src.cls, sv := __src.sv, rsv := __src.rsv, seq := __src.seq, group := __src.group, xid := __src.xid, off := __src.off, aux := __src.aux, ext := __src.ext, payload := __src.payload, bad := __src.bad : Packet }) 34 ∧
    (let __src := ck 34 0 1; { dst := 8199, src := 5, kind := __src.kind, cls := __src.cls, sv := __src.sv, rsv := __src.rsv, seq := __src.seq, group := __src.group, xid := __src.xid, off := __src.off, aux := __src.aux, ext := __src.ext, payload := __src.payload, bad := __src.bad : Packet }).ext ≠ 0 ∧
    (∀ (q : Peer), (pS [pe]).peer (let __src := ck 34 0 1; { dst := 8199, src := 5, kind := __src.kind, cls := __src.cls, sv := __src.sv, rsv := __src.rsv, seq := __src.seq, group := __src.group, xid := __src.xid, off := __src.off, aux := __src.aux, ext := __src.ext, payload := __src.payload, bad := __src.bad : Packet }).src (let __src := ck 34 0 1; { dst := 8199, src := 5, kind := __src.kind, cls := __src.cls, sv := __src.sv, rsv := __src.rsv, seq := __src.seq, group := __src.group, xid := __src.xid, off := __src.off, aux := __src.aux, ext := __src.ext, payload := __src.payload, bad := __src.bad : Packet }).dst = some q → q.rxClosing = false) :=
  ⟨by simp -failIfUnchanged only [Plain] <;> decide +kernel, by decide +kernel,
   by simp -failIfUnchanged only [↓opt_all] <;> decide +kernel⟩

theorem met_PairsKeepOrder_211 :
    z8.peer 5 8199 = some (tx fun (p : Peer) => { src := p.src, dst := p.dst, next := p.next, unacked := [], tries := p.tries, lastUse := p.lastUse, expected := p.expected, held := p.held, closing := p.closing, rx := p.rx, rxUse := p.rxUse, rxClosing := p.rxClosing, lost := p.lost : Peer }) ∧
    (tx fun (p : Peer) => { src := p.src, dst := p.dst, next := p.next, unacked := [], tries := p.tries, lastUse := p.lastUse, expected := p.expected, held := p.held, closing := p.closing, rx := p.rx, rxUse := p.rxUse, rxClosing := p.rxClosing, lost := p.lost : Peer }).unacked = [] :=
  ⟨by simp -failIfUnchanged only [next_iff] <;> decide +kernel, by simp -failIfUnchanged only [next_iff] <;> decide +kernel⟩

theorem met_PairsKeepOrder_2121 :
    z9.peer 5 8199 = some tx ∧ tx.unacked ≠ [] ∧ z9.now < tx.lastUse + BitVec.toNat (z9.e2e (keyOf 5)).ctl % 2 ^ 16 * 64 :=
  by decide +kernel

theorem met_PairsKeepOrder_21221 :
    z10.peer 5 8199 = some (tx fun (p : Peer) => { src := p.src, dst := p.dst, next := p.next, unacked := p.unacked, tries := 0, lastUse := p.lastUse, expected := p.expected, held := p.held, closing := p.closing, rx := p.rx, rxUse := p.rxUse, rxClosing := p.rxClosing, lost := p.lost : Peer }) ∧
    (tx fun (p : Peer) => { src := p.src, dst := p.dst, next := p.next, unacked := p.unacked, tries := 0, lastUse := p.lastUse, expected := p.expected, held := p.held, closing := p.closing, rx := p.rx, rxUse := p.rxUse, rxClosing := p.rxClosing, lost := p.lost : Peer }).unacked ≠ [] ∧
    (tx fun (p : Peer) => { src := p.src, dst := p.dst, next := p.next, unacked := p.unacked, tries := 0, lastUse := p.lastUse, expected := p.expected, held := p.held, closing := p.closing, rx := p.rx, rxUse := p.rxUse, rxClosing := p.rxClosing, lost := p.lost : Peer }).lastUse + BitVec.toNat (z10.e2e (keyOf 5)).ctl % 2 ^ 16 * (64 : Nat) ≤ z10.now ∧
    (tx fun (p : Peer) => { src := p.src, dst := p.dst, next := p.next, unacked := p.unacked, tries := 0, lastUse := p.lastUse, expected := p.expected, held := p.held, closing := p.closing, rx := p.rx, rxUse := p.rxUse, rxClosing := p.rxClosing, lost := p.lost : Peer }).tries < BitVec.toNat (z10.e2e (keyOf 5)).ctl / 2 ^ 16 % 8 :=
  ⟨by simp -failIfUnchanged only [next_iff] <;> decide +kernel, by simp -failIfUnchanged only [next_iff] <;> decide +kernel,
   by simp -failIfUnchanged only [next_iff] <;> decide +kernel, by simp -failIfUnchanged only [next_iff] <;> decide +kernel⟩

theorem met_PairsKeepOrder_21222 :
    sS.peer 5 8199 = some sx ∧
    sx.unacked = [have __src := pk 3 0; { dst := 8199, src := 5, kind := __src.kind, cls := __src.cls, sv := __src.sv, rsv := __src.rsv, seq := __src.seq, group := __src.group, xid := 69, off := __src.off, aux := __src.aux, ext := __src.ext, payload := __src.payload, bad := __src.bad : Packet }] ∧
    sx.lastUse + BitVec.toNat (sS.e2e (keyOf 5)).ctl % 2 ^ 16 * (64 : Nat) ≤ sS.now ∧
    BitVec.toNat (sS.e2e (keyOf 5)).ctl / 2 ^ 16 % (8 : Nat) ≤ sx.tries :=
  by decide +kernel

theorem met_PairsKeepOrder_221 :
    z7.peer 5 8199 = none :=
  by decide +kernel

theorem met_PairsKeepOrder_22211 :
    z11.net.waiting = [(700, wp)] ∧ (700, wp).snd.src = 5 ∧ z11.peer 5 (700, wp).snd.dst = none ∧
    (List.filter (fun (q : Peer) => q.src == 5) z11.net.peers).length < 1024 ∧
    (z11.isLocal (700, wp).snd.dst = false ∨ (pktEvent (700, wp).snd).isSome = true) :=
  by decide +kernel

theorem met_PairsKeepOrder_222121 :
    z12.net.waiting = [(700, wp)] ∧ (700, wp).snd.src = 5 ∧ z12.peer 5 (700, wp).snd.dst = none ∧
    (1024 : Nat) ≤ (List.filter (fun (q : Peer) => q.src == 5) z12.net.peers).length ∧
    (∀ (q : Peer), q ∈ z12.net.peers → q.src = 5 → q.closing = false) ∧
    (∃ (q : Peer), q ∈ z12.net.peers ∧ q.src = 5 ∧ q.unacked = []) :=
  by decide +kernel

theorem met_PairsKeepOrder_222122 :
    z13.net.waiting = [(700, wp)] ∧ (700, wp).snd.src = 5 ∧ z13.peer 5 (700, wp).snd.dst = none ∧
    (1024 : Nat) ≤ (List.filter (fun (q : Peer) => q.src == 5) z13.net.peers).length ∧
    (∀ (q : Peer), q ∈ z13.net.peers → q.src = 5 → q.unacked ≠ []) :=
  by decide +kernel

theorem met_PairsKeepOrder_22221 :
    (∀ (w : Nat × Packet), w ∈ z7.net.waiting → w.snd.src ≠ 5) :=
  by decide +kernel

theorem met_PairsKeepOrder_222221 :
    z14.net.waiting = [(700, wp)] :=
  by decide +kernel

theorem met_PairsKeepOrder_2222221 :
    (∀ (w : Nat × Packet), w ∈ z7.net.waiting → w.snd ≠ wp) :=
  by decide +kernel

end Pairs

end Sys2Proof.Tests
end

