-- ==== Sys2Proof/Tests/MetGroups.lean ====
section
/-!
SUPPORT. States that meet the hypotheses of the statements about channels, groups and reductions: `met_<Obligation>_<path>` meets those of the
clause at that place of the statement (1: the left side of a conjunction, 2: the right side).
-/

set_option linter.unusedVariables false
set_option linter.unusedSimpArgs false

namespace Sys2Proof.Tests

set_option Elab.async false

open Machine

namespace Channels

def byt (n : Nat) : List Byte := (List.range n).map fun i => BitVec.ofNat 8 (i+1)

def crec (v recv qb ty peer pch dep sz wper wst wlen : Nat) (rsv : Nat := 0) : Nat := v + 2*recv + 4*qb + 16*ty + 2^8*peer+2^18*pch+2^24*dep+2^28*sz+2^40*wper+2^56*wlen+2^72*wst+rsv
def chT (r : Nat) (old : Chan) (a : W64 := 0x100) : Tile := let t := withS [a] tile; { t with spm := Mem.write [] 0x100 (bytesOf r 16), msg := { t.msg with chan := t.msg.chan.set 2 old } }

def far : Tile := { tile with msg := { tile.msg with chan := tile.msg.chan.set 7 { Chan.of (crec 1 1 0 7 5 2 3 1 0 0 0) with v := true } } }
def two (t : Tile) : State := { st t with tiles := [(5, t), (9, far)] }

def op_ (recv : Bool) (ty : BitVec 4) (cr : Nat) (b : List (List Byte)) (w : Int := 3) : Chan := ⟨true, recv, false, ty, 9, 7, 4, 32, 100, 6, w, 8, cr, b⟩
def cT (c : Chan) : Tile := let t := withS [0x100] tile; { t with spm := Mem.write [] 0x100 (byt 64), msg := { t.msg with chan := t.msg.chan.set 2 c } }

def cpk (kind : Nat) (cls : Nat) (d : List Byte) : Packet := { mkPacket 9 5 kind 0 0 2 0 d with cls := BitVec.ofNat 2 cls }
def zEnds : State := two (let t := cT (op_ false 7 0 [] 94); { t with thr := { t.thr with creditSince := some 998 } })

def z1 : State := (two (chT (crec 1 0 0 7 9 7 3 1 99 20 5) Chan.invalid 0x108))
def z2 : State := (two (chT (crec 0 1 0 7 8 7 3 1 99 20 5) { Chan.invalid with v := true, recvEnd := true, buf := [[]] }))

def z3 : State := (two (chT (crec 0 1 0 7 8 7 3 1 99 20 5) { Chan.invalid with v := true, recvEnd := true }))
def z4 : State := (two (chT (crec 0 1 0 7 8 7 3 1 99 20 5 8) { Chan.invalid with v := true, recvEnd := true }))

def z5 : State := (two (chT (crec 1 0 0 7 9 7 3 1 99 20 5) Chan.invalid))
def z6 : State := (two (chT (crec 1 1 0 7 8 7 3 1 99 20 5) Chan.invalid))

def z7 : State := (two { chT (crec 1 0 0 7 9 7 3 1 99 20 5) Chan.invalid with spmBad := [0x100] })
def z8 : State := (two (cT Chan.invalid))

def z9 : State := (two (cT (op_ false 7 3 [])))
def z10 : State := (two (cT (op_ false 7 0 [] 0)))

def z11 : State := (two (cT (op_ false 7 3 [] (-1))))
def z12 : State := (two (cT (op_ true 7 3 [])))

def z13 : State := (two (cT (op_ true 1 3 [byt 32, byt 32])))
def z14 : State := (two (cT (op_ true 3 3 [byt 32, byt 32])))

def z15 : State := (two (cT (op_ true 6 3 [byt 32, byt 32])))
def z16 : State := (two (cT (op_ false 6 3 [])))

def z17 : State := (two (cT (op_ false 6 3 [byt 2, byt 3])))

theorem met_ChannelsLoad_1 :
    z1.t.isSpec = false ∧ LowestFree z1.t 0 ∧ CanTake z1 p (Reg.s 9) ∧ BitVec.toNat (z1.rdS (Reg.s 1)) % 2 ^ 20 % 16 ≠ 0 :=
  ⟨by decide +kernel, by simp -failIfUnchanged only [LowestFree] <;> decide +kernel, ⟨_, rfl⟩, by decide +kernel⟩

theorem met_ChannelsLoad_211 :
    z2.t.isSpec = false ∧ LowestFree z2.t 0 ∧ CanTake z2 p (Reg.s 9) ∧ BitVec.toNat (z2.rdS (Reg.s 1)) % 2 ^ 20 % 16 = 0 ∧
    z2.t.badWord (BitVec.toNat (z2.rdS (Reg.s 1)) % 2 ^ 20) 16 = none ∧ z2.t.msg.chan[(2 : Fin 64)].v = true ∧
    if z2.t.msg.chan[(2 : Fin 64)].recvEnd = true then z2.t.msg.chan[(2 : Fin 64)].buf ≠ [] else z2.t.msg.chan[(2 : Fin 64)].credits < z2.t.msg.chan[(2 : Fin 64)].depth :=
  ⟨by decide +kernel, by simp -failIfUnchanged only [LowestFree] <;> decide +kernel, ⟨_, rfl⟩, by decide +kernel,
   by decide +kernel, by decide +kernel, by decide +kernel⟩

theorem met_ChannelsLoad_2121 :
    z3.t.isSpec = false ∧ LowestFree z3.t 0 ∧ CanTake z3 p (Reg.s 9) ∧ BitVec.toNat (z3.rdS (Reg.s 1)) % 2 ^ 20 % 16 = 0 ∧
    z3.t.badWord (BitVec.toNat (z3.rdS (Reg.s 1)) % 2 ^ 20) 16 = none ∧
    (¬(z3.t.msg.chan[(2 : Fin 64)].v = true ∧ if z3.t.msg.chan[(2 : Fin 64)].recvEnd = true then z3.t.msg.chan[(2 : Fin 64)].buf ≠ [] else z3.t.msg.chan[(2 : Fin 64)].credits < z3.t.msg.chan[(2 : Fin 64)].depth)) ∧
    z3.t.spmNat false (BitVec.toNat (z3.rdS (Reg.s 1)) % 2 ^ 20) 16 % 2 = 0 ∧
    chanRsv (z3.t.spmNat false (BitVec.toNat (z3.rdS (Reg.s 1)) % 2 ^ 20) 16) = false :=
  ⟨by decide +kernel, by simp -failIfUnchanged only [LowestFree] <;> decide +kernel, ⟨_, rfl⟩, by decide +kernel,
   by decide +kernel, by decide +kernel, by decide +kernel, by decide +kernel⟩

theorem met_ChannelsLoad_21221 :
    z4.t.isSpec = false ∧ LowestFree z4.t 0 ∧ CanTake z4 p (Reg.s 9) ∧ BitVec.toNat (z4.rdS (Reg.s 1)) % 2 ^ 20 % 16 = 0 ∧
    z4.t.badWord (BitVec.toNat (z4.rdS (Reg.s 1)) % 2 ^ 20) 16 = none ∧
    (¬(z4.t.msg.chan[(2 : Fin 64)].v = true ∧ if z4.t.msg.chan[(2 : Fin 64)].recvEnd = true then z4.t.msg.chan[(2 : Fin 64)].buf ≠ [] else z4.t.msg.chan[(2 : Fin 64)].credits < z4.t.msg.chan[(2 : Fin 64)].depth)) ∧
    z4.t.spmNat false (BitVec.toNat (z4.rdS (Reg.s 1)) % 2 ^ 20) 16 % 2 = 0 ∧
    chanRsv (z4.t.spmNat false (BitVec.toNat (z4.rdS (Reg.s 1)) % 2 ^ 20) 16) = true :=
  ⟨by decide +kernel, by simp -failIfUnchanged only [LowestFree] <;> decide +kernel, ⟨_, rfl⟩, by decide +kernel,
   by decide +kernel, by decide +kernel, by decide +kernel, by decide +kernel⟩

theorem met_ChannelsLoad_212221 :
    z5.t.isSpec = false ∧ LowestFree z5.t 0 ∧ CanTake z5 p (Reg.s 9) ∧ BitVec.toNat (z5.rdS (Reg.s 1)) % 2 ^ 20 % 16 = 0 ∧
    z5.t.badWord (BitVec.toNat (z5.rdS (Reg.s 1)) % 2 ^ 20) 16 = none ∧
    (¬(z5.t.msg.chan[(2 : Fin 64)].v = true ∧ if z5.t.msg.chan[(2 : Fin 64)].recvEnd = true then z5.t.msg.chan[(2 : Fin 64)].buf ≠ [] else z5.t.msg.chan[(2 : Fin 64)].credits < z5.t.msg.chan[(2 : Fin 64)].depth)) ∧
    z5.t.spmNat false (BitVec.toNat (z5.rdS (Reg.s 1)) % 2 ^ 20) 16 % 2 = 1 ∧
    z5.chanOk 2 (have __src := Chan.of (z5.t.spmNat false (BitVec.toNat (z5.rdS (Reg.s 1)) % 2 ^ 20) 16); { v := __src.v, recvEnd := __src.recvEnd, qb := __src.qb, etype := __src.etype, peer := __src.peer, pch := __src.pch, depth := __src.depth, size := __src.size, wper := __src.wper, wlen := __src.wlen, w := windowStart (z5.t.spmNat false (BitVec.toNat (z5.rdS (Reg.s 1)) % 2 ^ 20) 16 / 2 ^ 72 % 2 ^ 32) ↑(BitVec.toNat (z5.cyc z5.t)), lat := 2 + 2 * z5.legHops z5.cur (z5.cur / 1024 * 1024 + z5.t.spmNat false (BitVec.toNat (z5.rdS (Reg.s 1)) % 2 ^ 20) 16 / 2 ^ 8 % 2 ^ 10) + (flitsOf (16 * (z5.t.spmNat false (BitVec.toNat (z5.rdS (Reg.s 1)) % 2 ^ 20) 16 / 2 ^ 28 % 2 ^ 5 + 1)) - 1), credits := __src.credits, buf := __src.buf : Chan }) (chanRsv (z5.t.spmNat false (BitVec.toNat (z5.rdS (Reg.s 1)) % 2 ^ 20) 16)) = true :=
  ⟨by decide +kernel, by simp -failIfUnchanged only [LowestFree] <;> decide +kernel, ⟨_, rfl⟩, by decide +kernel,
   by decide +kernel, by decide +kernel, by decide +kernel, by decide +kernel⟩

theorem met_ChannelsLoad_212222 :
    z6.t.isSpec = false ∧ LowestFree z6.t 0 ∧ CanTake z6 p (Reg.s 9) ∧ BitVec.toNat (z6.rdS (Reg.s 1)) % 2 ^ 20 % 16 = 0 ∧
    z6.t.badWord (BitVec.toNat (z6.rdS (Reg.s 1)) % 2 ^ 20) 16 = none ∧
    (¬(z6.t.msg.chan[(2 : Fin 64)].v = true ∧ if z6.t.msg.chan[(2 : Fin 64)].recvEnd = true then z6.t.msg.chan[(2 : Fin 64)].buf ≠ [] else z6.t.msg.chan[(2 : Fin 64)].credits < z6.t.msg.chan[(2 : Fin 64)].depth)) ∧
    z6.t.spmNat false (BitVec.toNat (z6.rdS (Reg.s 1)) % 2 ^ 20) 16 % 2 = 1 ∧
    z6.chanOk 2 (have __src := Chan.of (z6.t.spmNat false (BitVec.toNat (z6.rdS (Reg.s 1)) % 2 ^ 20) 16); { v := __src.v, recvEnd := __src.recvEnd, qb := __src.qb, etype := __src.etype, peer := __src.peer, pch := __src.pch, depth := __src.depth, size := __src.size, wper := __src.wper, wlen := __src.wlen, w := windowStart (z6.t.spmNat false (BitVec.toNat (z6.rdS (Reg.s 1)) % 2 ^ 20) 16 / 2 ^ 72 % 2 ^ 32) ↑(BitVec.toNat (z6.cyc z6.t)), lat := 2 + 2 * z6.legHops z6.cur (z6.cur / 1024 * 1024 + z6.t.spmNat false (BitVec.toNat (z6.rdS (Reg.s 1)) % 2 ^ 20) 16 / 2 ^ 8 % 2 ^ 10) + (flitsOf (16 * (z6.t.spmNat false (BitVec.toNat (z6.rdS (Reg.s 1)) % 2 ^ 20) 16 / 2 ^ 28 % 2 ^ 5 + 1)) - 1), credits := __src.credits, buf := __src.buf : Chan }) (chanRsv (z6.t.spmNat false (BitVec.toNat (z6.rdS (Reg.s 1)) % 2 ^ 20) 16)) = false :=
  ⟨by decide +kernel, by simp -failIfUnchanged only [LowestFree] <;> decide +kernel, ⟨_, rfl⟩, by decide +kernel,
   by decide +kernel, by decide +kernel, by decide +kernel, by decide +kernel⟩

theorem met_ChannelsLoad_22 :
    z7.t.isSpec = false ∧ LowestFree z7.t 0 ∧ CanTake z7 p (Reg.s 9) ∧ BitVec.toNat (z7.rdS (Reg.s 1)) % 2 ^ 20 % 16 = 0 ∧
    z7.t.badWord (BitVec.toNat (z7.rdS (Reg.s 1)) % 2 ^ 20) 16 ≠ none :=
  ⟨by decide +kernel, by simp -failIfUnchanged only [LowestFree] <;> decide +kernel, ⟨_, rfl⟩, by decide +kernel,
   by decide +kernel⟩

theorem met_ChannelsCarry_11 :
    z8.t.isSpec = false ∧ (z8.t.msg.chan[(2 : Fin 64)].v = false ∨ z8.t.msg.chan[(2 : Fin 64)].recvEnd = true) :=
  by decide +kernel

theorem met_ChannelsCarry_121 :
    z8.t.isSpec = false ∧ (z8.t.msg.chan[(2 : Fin 64)].v = false ∨ z8.t.msg.chan[(2 : Fin 64)].recvEnd = false) :=
  by decide +kernel

theorem met_ChannelsCarry_12211 :
    z9.t.isSpec = false ∧
    Accessible z9.t (↑(BitVec.toNat (z9.rdS (Reg.s (1 : Fin (64 : Nat)))) % (2 : Nat) ^ (20 : Nat))) z9.t.msg.chan[(2 : Fin (64 : Nat))].size (16 : Nat) ∧
    z9.t.msg.chan[(2 : Fin (64 : Nat))].v = true ∧ z9.t.msg.chan[(2 : Fin (64 : Nat))].recvEnd = false ∧
    z9.t.badWord (BitVec.toNat (z9.rdS (Reg.s (1 : Fin (64 : Nat)))) % (2 : Nat) ^ (20 : Nat)) z9.t.msg.chan[(2 : Fin (64 : Nat))].size = none ∧
    (0 : Nat) < z9.t.msg.chan[(2 : Fin (64 : Nat))].credits ∧ (¬windowOpen z9 z9.t.msg.chan[(2 : Fin (64 : Nat))]) :=
  ⟨by decide +kernel, by simp -failIfUnchanged only [Accessible] <;> decide +kernel, by decide +kernel, by decide +kernel,
   by decide +kernel, by decide +kernel, by simp -failIfUnchanged only [windowOpen, openAt] <;> decide +kernel⟩

theorem met_ChannelsCarry_122121 :
    z10.t.isSpec = false ∧
    Accessible z10.t (↑(BitVec.toNat (z10.rdS (Reg.s (1 : Fin (64 : Nat)))) % (2 : Nat) ^ (20 : Nat))) z10.t.msg.chan[(2 : Fin (64 : Nat))].size (16 : Nat) ∧
    z10.t.msg.chan[(2 : Fin (64 : Nat))].v = true ∧ z10.t.msg.chan[(2 : Fin (64 : Nat))].recvEnd = false ∧
    z10.t.badWord (BitVec.toNat (z10.rdS (Reg.s (1 : Fin (64 : Nat)))) % (2 : Nat) ^ (20 : Nat)) z10.t.msg.chan[(2 : Fin (64 : Nat))].size = none ∧
    z10.t.msg.chan[(2 : Fin (64 : Nat))].credits = (0 : Nat) ∧ (¬windowEnds z10 z10.t.msg.chan[(2 : Fin (64 : Nat))]) :=
  ⟨by decide +kernel, by simp -failIfUnchanged only [Accessible] <;> decide +kernel, by decide +kernel, by decide +kernel,
   by decide +kernel, by decide +kernel,
   by simp -failIfUnchanged only [windowEnds, windowOpen, openAt, ↓opt_ex, ↓opt_is] <;> decide +kernel⟩

theorem met_ChannelsCarry_1221222 :
    z11.t.isSpec = false ∧
    Accessible z11.t (↑(BitVec.toNat (z11.rdS (Reg.s (1 : Fin (64 : Nat)))) % (2 : Nat) ^ (20 : Nat))) z11.t.msg.chan[(2 : Fin (64 : Nat))].size (16 : Nat) ∧
    z11.t.msg.chan[(2 : Fin (64 : Nat))].v = true ∧ z11.t.msg.chan[(2 : Fin (64 : Nat))].recvEnd = false ∧
    z11.t.badWord (BitVec.toNat (z11.rdS (Reg.s (1 : Fin (64 : Nat)))) % (2 : Nat) ^ (20 : Nat)) z11.t.msg.chan[(2 : Fin (64 : Nat))].size = none ∧
    (0 : Nat) < z11.t.msg.chan[(2 : Fin (64 : Nat))].credits ∧ windowOpen z11 z11.t.msg.chan[(2 : Fin (64 : Nat))] :=
  ⟨by decide +kernel, by simp -failIfUnchanged only [Accessible] <;> decide +kernel, by decide +kernel, by decide +kernel,
   by decide +kernel, by decide +kernel, by simp -failIfUnchanged only [windowOpen, openAt] <;> decide +kernel⟩

theorem met_ChannelsCarry_12221 :
    z12.t.isSpec = false ∧
    Accessible z12.t (↑(BitVec.toNat (z12.rdS (Reg.s (1 : Fin (64 : Nat)))) % (2 : Nat) ^ (20 : Nat))) z12.t.msg.chan[(2 : Fin (64 : Nat))].size (16 : Nat) ∧
    z12.t.msg.chan[(2 : Fin (64 : Nat))].v = true ∧ z12.t.msg.chan[(2 : Fin (64 : Nat))].recvEnd = true ∧
    z12.t.msg.chan[(2 : Fin (64 : Nat))].buf = [] :=
  ⟨by decide +kernel, by simp -failIfUnchanged only [Accessible] <;> decide +kernel, by decide +kernel, by decide +kernel,
   by decide +kernel⟩

theorem met_ChannelsCarry_122221 :
    z13.t.isSpec = false ∧
    Accessible z13.t (↑(BitVec.toNat (z13.rdS (Reg.s (1 : Fin (64 : Nat)))) % (2 : Nat) ^ (20 : Nat))) z13.t.msg.chan[(2 : Fin (64 : Nat))].size (16 : Nat) ∧
    z13.t.msg.chan[(2 : Fin (64 : Nat))].v = true ∧ z13.t.msg.chan[(2 : Fin (64 : Nat))].recvEnd = true ∧
    ∃ (e : List Byte) (r : List (List Byte)), z13.t.msg.chan[(2 : Fin (64 : Nat))].buf = e :: r ∧
    CanTake z13 p (Reg.s (9 : Fin (64 : Nat))) :=
  ⟨by decide +kernel, by simp -failIfUnchanged only [Accessible] <;> decide +kernel, by decide +kernel, by decide +kernel,
   by simp -failIfUnchanged only [CanTake, ↓ok_is, ok_iff, ↓cons_ex, ↓cons_is] <;> decide +kernel⟩

theorem met_ChannelsCarry_1222221 :
    z13.t.isSpec = false ∧
    Accessible z13.t (↑(BitVec.toNat (z13.rdS (Reg.s (1 : Fin (64 : Nat)))) % (2 : Nat) ^ (20 : Nat))) z13.t.msg.chan[(2 : Fin (64 : Nat))].size (16 : Nat) ∧
    z13.t.msg.chan[(2 : Fin (64 : Nat))].v = true ∧ z13.t.msg.chan[(2 : Fin (64 : Nat))].recvEnd = true ∧
    ∃ (e : List Byte) (r : List (List Byte)), z13.t.msg.chan[(2 : Fin (64 : Nat))].buf = e :: r ∧
    CanTake z13 p (Reg.s (9 : Fin (64 : Nat))) ∧
    ((Ety.ofCode z13.t.msg.chan[(2 : Fin (64 : Nat))].etype.toNat).getD Ety.raw = Ety.f32 ∨ (Ety.ofCode z13.t.msg.chan[(2 : Fin (64 : Nat))].etype.toNat).getD Ety.raw = Ety.bf16 ∨ ((Ety.ofCode z13.t.msg.chan[(2 : Fin (64 : Nat))].etype.toNat).getD Ety.raw).isI = true) ∧
    z13.t.badWord (BitVec.toNat (z13.rdS (Reg.s (1 : Fin (64 : Nat)))) % (2 : Nat) ^ (20 : Nat)) z13.t.msg.chan[(2 : Fin (64 : Nat))].size = none :=
  ⟨by decide +kernel, by simp -failIfUnchanged only [Accessible] <;> decide +kernel, by decide +kernel, by decide +kernel,
   by simp -failIfUnchanged only [CanTake, ↓ok_is, ok_iff, ↓cons_ex, ↓cons_is] <;> decide +kernel⟩

theorem met_ChannelsCarry_1222222 :
    z14.t.isSpec = false ∧
    Accessible z14.t (↑(BitVec.toNat (z14.rdS (Reg.s (1 : Fin (64 : Nat)))) % (2 : Nat) ^ (20 : Nat))) z14.t.msg.chan[(2 : Fin (64 : Nat))].size (16 : Nat) ∧
    z14.t.msg.chan[(2 : Fin (64 : Nat))].v = true ∧ z14.t.msg.chan[(2 : Fin (64 : Nat))].recvEnd = true ∧
    ∃ (e : List Byte) (r : List (List Byte)), z14.t.msg.chan[(2 : Fin (64 : Nat))].buf = e :: r ∧
    CanTake z14 p (Reg.s (9 : Fin (64 : Nat))) ∧
    (¬((Ety.ofCode z14.t.msg.chan[(2 : Fin (64 : Nat))].etype.toNat).getD Ety.raw = Ety.f32 ∨ (Ety.ofCode z14.t.msg.chan[(2 : Fin (64 : Nat))].etype.toNat).getD Ety.raw = Ety.bf16 ∨ ((Ety.ofCode z14.t.msg.chan[(2 : Fin (64 : Nat))].etype.toNat).getD Ety.raw).isI = true)) :=
  ⟨by decide +kernel, by simp -failIfUnchanged only [Accessible] <;> decide +kernel, by decide +kernel, by decide +kernel,
   by simp -failIfUnchanged only [CanTake, ↓ok_is, ok_iff, ↓cons_ex, ↓cons_is] <;> decide +kernel⟩

theorem met_ChannelsCarry_21 :
    Plain (cpk 40 3 (byt 32)) 40 ∧ z15.t.msg.chan[Fin.ofNat 64 (BitVec.toNat (cpk 40 3 (byt 32)).aux)].v = true ∧
    z15.t.msg.chan[Fin.ofNat 64 (BitVec.toNat (cpk 40 3 (byt 32)).aux)].recvEnd = true ∧
    z15.t.msg.chan[Fin.ofNat 64 (BitVec.toNat (cpk 40 3 (byt 32)).aux)].buf.length < z15.t.msg.chan[Fin.ofNat 64 (BitVec.toNat (cpk 40 3 (byt 32)).aux)].depth :=
  ⟨by simp -failIfUnchanged only [Plain] <;> decide +kernel, by decide +kernel, by decide +kernel, by decide +kernel⟩

theorem met_ChannelsCarry_221 :
    Plain (cpk 41 2 []) 41 ∧ z16.t.msg.chan[Fin.ofNat 64 (BitVec.toNat (cpk 41 2 []).aux)].v = true ∧
    z16.t.msg.chan[Fin.ofNat 64 (BitVec.toNat (cpk 41 2 []).aux)].recvEnd = false :=
  ⟨by simp -failIfUnchanged only [Plain] <;> decide +kernel, by decide +kernel, by decide +kernel⟩

theorem met_ChannelsCarry_2221 :
    ∃ (x : List Byte) (x1 : List (List Byte)), z17.t.msg.chan[(2 : Fin 64)].buf = x :: x1 :=
  by simp -failIfUnchanged only [↓cons_is] <;> decide +kernel

theorem met_ChannelsCarry_1221221 :
    zEnds.t.isSpec = false ∧ Accessible zEnds.t ((zEnds.rdS (.s 1)).toNat % 2 ^ 20 : Nat) (zEnds.t.msg.chan[(2 : Fin 64)]).size 16 ∧
      (zEnds.t.msg.chan[(2 : Fin 64)]).v = true ∧ (zEnds.t.msg.chan[(2 : Fin 64)]).recvEnd = false ∧
      zEnds.t.badWord ((zEnds.rdS (.s 1)).toNat % 2 ^ 20) (zEnds.t.msg.chan[(2 : Fin 64)]).size = none ∧
      (zEnds.t.msg.chan[(2 : Fin 64)]).credits = 0 ∧ windowEnds zEnds zEnds.t.msg.chan[(2 : Fin 64)] :=
  ⟨by decide +kernel, by simp only [Accessible] <;> decide +kernel, by decide +kernel, by decide +kernel, by decide +kernel,
    by decide +kernel, by simp only [windowEnds, windowOpen, openAt, ↓opt_ex] <;> decide +kernel⟩

theorem met_ChannelsCarry_2222 :
    zEnds.t.thr.st = .running ∧ (zEnds.t.msg.chan[(2 : Fin 64)]).v = true ∧ (zEnds.t.msg.chan[(2 : Fin 64)]).recvEnd = false ∧
      (zEnds.t.msg.chan[(2 : Fin 64)]).credits = 0 ∧ windowEnds zEnds zEnds.t.msg.chan[(2 : Fin 64)] :=
  ⟨by decide +kernel, by decide +kernel, by decide +kernel, by decide +kernel,
    by simp only [windowEnds, windowOpen, openAt, ↓opt_ex] <;> decide +kernel⟩

end Channels

namespace Contrib

def gmv (t : Tile) : Tile := { t with csr := { t.csr with gm := (tile.csr.gm.set 1 0x1000A), hampbase := 0x40000, hampsize := 0x4000 } }

def buf (a l : Nat) : W64 := BitVec.ofNat 64 (a + 2^20*l)
def byt (n : Nat) : List Byte := (List.range n).map fun i => BitVec.ofNat 8 (i+1)

def eT (s1 s2 s3 : W64) : Tile := let t := gmv (withS [s1,s2,s3] tile); { t with spm := Mem.write [] 64 ((List.range 200).map fun i => BitVec.ofNat 8 (i+1)), cpl := t.cpl.set 0 (slot .mget 7) }
def grp : Group := ⟨0, 0xA,0, 3, [], [5, 6, 1030], [], true, 0⟩

def gS (t : Tile) : State := { st t with red := { Red.reset with groups := [grp] } }
def heldR (st : Nat) (n : Nat) (g : Nat) : HeldEnv := ⟨.result, env0 5 0 n, some ⟨0, 0xA, 3, false⟩, g, 2, n, none,0⟩

def rT (s2 : W64) (l : List HeldEnv) : Tile := let t := eT 7 s2 3; { t with msg := { t.msg with hamper := l }, spm := Mem.write t.spm (0x40000 + 128) (bytesOf 1 1 ++ byt 79) }
def rres (st id miss : Nat) (d : List Byte) : Packet := mkPacket 1022 5 0x19 0xA 0 0 0 (bytesOf (st + 2^16*id+2^64*miss) 16 ++ d)

def wT (l : List (Fin 64 × SlotOp)) (filt : List W16 := []) (len := 40) : Tile := let t := gmv tile; { t with msg := { t.msg with filter := filt }, cpl := l.foldl (fun c x => c.set x.1 { slot x.2 1 with uli := true, x := { Xfer.empty with group := 0xA, ident := 3, buf := 0x1000, len := len } }) t.cpl }
def key : RKey := ⟨0, 0xA, 3, false⟩

def con (src : Nat) (d : List Byte) (ms : W64 := 0) : Packet := contribPacket (BitVec.ofNat 32 src) 1021 key .fsum false 0 ms d
def br (src : Nat) : Packet := contribPacket (BitVec.ofNat 32 src) 1021 { key with branch := true } .and false 0 0 []

def cS (slots : List RSlot) (pt : Point) : State := { gS tile with cur := 1021, red := { Red.reset with groups := [grp], slots := slots } }
def sndr : State := let t := gmv tile; { cS [] (.die 0) with tiles := [(5, { t with cpl := t.cpl.set 3 { slot .sendr 1 with uli := true, x := { Xfer.empty with group := 0xA, ident := 3 } } })] }

def zHeldBad : State := st { rT (buf 0x1000 40) [heldR 1 80 2] with spmBad := [0x40080] }
def z1 : State := (gS (eT 7 (buf 64 64) 3))

def z2 : State := (gS (rT (buf 0x1000 80) [⟨.eager, env0 5 0 3, none, 0,1,3,none,0⟩]))
def z3 : State := (gS (rT (buf 0x1000 80) [⟨.eager, env0 5 0 3, none, 0,1,3,none,0⟩, heldR 1 80 2]))

def z4 : State := (st (wT [(3,.gbar),(5,.gbar)] [0xA]))
def z5 : State := (st (wT []))

def z6 : State := (cS [] (.die 0))

theorem met_ReductionsContribute_11 :
    ∃ (x : EngOp), engOp z1 (Instr.sendr p RedOp.fsum false 1 true (Reg.s 9) (Reg.s 2) (Reg.s 3)) = some x ∧
    z1.t.isSpec = false ∧ LowestFree z1.t 1 ∧ CanTake z1 p (Reg.s 9) ∧ x.reason = none :=
  ⟨_, rfl, by decide +kernel, by simp -failIfUnchanged only [LowestFree] <;> decide +kernel, ⟨_, rfl⟩, by decide +kernel⟩

theorem met_ReductionsContribute_121 :
    ∃ (x : EngOp), engOp z1 (Instr.gbar p 1 true (Reg.s 9) (Reg.s 3)) = some x ∧ z1.t.isSpec = false ∧ LowestFree z1.t 1 ∧
    CanTake z1 p (Reg.s 9) ∧ x.reason = none :=
  ⟨_, rfl, by decide +kernel, by simp -failIfUnchanged only [LowestFree] <;> decide +kernel, ⟨_, rfl⟩, by decide +kernel⟩

theorem met_ReductionsContribute_1221 :
    ∃ (x : EngOp), engOp z2 (Instr.recvr p 1 true (Reg.s 9) (Reg.s 2) (Reg.s 3)) = some x ∧ z2.t.isSpec = false ∧
    LowestFree z2.t 1 ∧ CanTake z2 p (Reg.s 9) ∧ x.reason = none ∧
    (∀ (h : HeldEnv), h ∈ z2.t.msg.hamper → ¬(fun (h : HeldEnv) => h.kind = HeldKind.result ∧ ∃ (q : RKey), h.key = some q ∧ q.group = groupOf z2 1 ∧ q.ident = BitVec.setWidth 16 (z2.rdS (Reg.s 3))) h) :=
  ⟨_, rfl, by decide +kernel, by simp -failIfUnchanged only [LowestFree] <;> decide +kernel, ⟨_, rfl⟩, by decide +kernel,
   by simp -failIfUnchanged only [↓opt_ex, ↓opt_is] <;> decide +kernel⟩

theorem met_ReductionsContribute_12222 :
    ∃ (x : EngOp), engOp z3 (Instr.recvr p 1 true (Reg.s 9) (Reg.s 2) (Reg.s 3)) = some x ∧ z3.t.isSpec = false ∧
    LowestFree z3.t 1 ∧ CanTake z3 p (Reg.s 9) ∧ x.reason = none ∧
    ∃ (h1 : HeldEnv), IsFirst z3.t.msg.hamper (fun (h : HeldEnv) => h.kind = HeldKind.result ∧ ∃ (q : RKey), h.key = some q ∧ q.group = groupOf z3 1 ∧ q.ident = BitVec.setWidth 16 (z3.rdS (Reg.s 3))) h1 ∧
    z3.t.badWord (z3.t.csr.hampbase.toNat + 64 * h1.gran) h1.bytes false = none :=
  ⟨_, rfl, by decide +kernel, by simp -failIfUnchanged only [LowestFree] <;> decide +kernel, ⟨_, rfl⟩, by decide +kernel,
   by simp -failIfUnchanged only [↓opt_ex, ↓opt_is, first_iff, ↓first_ex, ↓first_is] <;> decide +kernel⟩

theorem met_ReductionsContribute_211 :
    Plain (rres 1 3 0 (byt 24)) 25 ∧ z4.isLocal (rres 1 3 0 (byt 24)).src = true ∧ z4.t.thr.st ≠ ThreadSt.none ∧
    z4.t.thr.st ≠ ThreadSt.halted ∧ (¬EngineActs z4.t (rres 1 3 0 (byt 24)).group) :=
  ⟨by simp -failIfUnchanged only [Plain] <;> decide +kernel, by decide +kernel, by decide +kernel, by decide +kernel,
   by simp -failIfUnchanged only [EngineActs, EngineWorks, ↓list_all_bv, ↓list_all_bv2] <;> decide +kernel⟩

theorem met_ReductionsContribute_2121 :
    Plain (rres 1 3 0 (byt 24)) 25 ∧ (st (wT [(3, SlotOp.gbar), (5, SlotOp.gbar)])).isLocal (rres 1 3 0 (byt 24)).src = true ∧
    (st (wT [(3, SlotOp.gbar), (5, SlotOp.gbar)])).t.thr.st ≠ ThreadSt.none ∧
    (st (wT [(3, SlotOp.gbar), (5, SlotOp.gbar)])).t.thr.st ≠ ThreadSt.halted ∧
    EngineActs (st (wT [(3, SlotOp.gbar), (5, SlotOp.gbar)])).t (rres 1 3 0 (byt 24)).group ∧
    (fun (op : SlotOp) (k : Fin 64) => (st (wT [(3, SlotOp.gbar), (5, SlotOp.gbar)])).t.cpl[k].used = true ∧ (st (wT [(3, SlotOp.gbar), (5, SlotOp.gbar)])).t.cpl[k].state = 0 ∧ (st (wT [(3, SlotOp.gbar), (5, SlotOp.gbar)])).t.cpl[k].op = op ∧ (st (wT [(3, SlotOp.gbar), (5, SlotOp.gbar)])).t.cpl[k].x.group = (rres 1 3 0 (byt 24)).group ∧ (st (wT [(3, SlotOp.gbar), (5, SlotOp.gbar)])).t.cpl[k].x.ident = BitVec.ofNat 16 (resultOf (rres 1 3 0 (byt 24)) / 2 ^ 16)) SlotOp.gbar 3 ∧
    (∀ (j : Fin 64), j < 3 → ¬(fun (op : SlotOp) (k : Fin 64) => (st (wT [(3, SlotOp.gbar), (5, SlotOp.gbar)])).t.cpl[k].used = true ∧ (st (wT [(3, SlotOp.gbar), (5, SlotOp.gbar)])).t.cpl[k].state = 0 ∧ (st (wT [(3, SlotOp.gbar), (5, SlotOp.gbar)])).t.cpl[k].op = op ∧ (st (wT [(3, SlotOp.gbar), (5, SlotOp.gbar)])).t.cpl[k].x.group = (rres 1 3 0 (byt 24)).group ∧ (st (wT [(3, SlotOp.gbar), (5, SlotOp.gbar)])).t.cpl[k].x.ident = BitVec.ofNat 16 (resultOf (rres 1 3 0 (byt 24)) / 2 ^ 16)) SlotOp.gbar j) ∧
    (st (wT [(3, SlotOp.gbar), (5, SlotOp.gbar)])).t.cpl[(3 : Fin 64)].drop = false :=
  ⟨by simp -failIfUnchanged only [Plain] <;> decide +kernel, by decide +kernel, by decide +kernel, by decide +kernel,
   by simp -failIfUnchanged only [EngineActs, EngineWorks, ↓list_all_bv, ↓list_all_bv2] <;> decide +kernel, by decide +kernel,
   by decide +kernel, by decide +kernel⟩

theorem met_ReductionsContribute_21221 :
    Plain (rres 1 3 0 (byt 24)) 25 ∧
    (st (wT [(3, SlotOp.recvr), (5, SlotOp.recvr)])).isLocal (rres 1 3 0 (byt 24)).src = true ∧
    (st (wT [(3, SlotOp.recvr), (5, SlotOp.recvr)])).t.thr.st ≠ ThreadSt.none ∧
    (st (wT [(3, SlotOp.recvr), (5, SlotOp.recvr)])).t.thr.st ≠ ThreadSt.halted ∧
    EngineActs (st (wT [(3, SlotOp.recvr), (5, SlotOp.recvr)])).t (rres 1 3 0 (byt 24)).group ∧
    (∀ (j : Fin 64), ¬(fun (op : SlotOp) (k : Fin 64) => (st (wT [(3, SlotOp.recvr), (5, SlotOp.recvr)])).t.cpl[k].used = true ∧ (st (wT [(3, SlotOp.recvr), (5, SlotOp.recvr)])).t.cpl[k].state = 0 ∧ (st (wT [(3, SlotOp.recvr), (5, SlotOp.recvr)])).t.cpl[k].op = op ∧ (st (wT [(3, SlotOp.recvr), (5, SlotOp.recvr)])).t.cpl[k].x.group = (rres 1 3 0 (byt 24)).group ∧ (st (wT [(3, SlotOp.recvr), (5, SlotOp.recvr)])).t.cpl[k].x.ident = BitVec.ofNat 16 (resultOf (rres 1 3 0 (byt 24)) / 2 ^ 16)) SlotOp.gbar j) ∧
    (fun (op : SlotOp) (k : Fin 64) => (st (wT [(3, SlotOp.recvr), (5, SlotOp.recvr)])).t.cpl[k].used = true ∧ (st (wT [(3, SlotOp.recvr), (5, SlotOp.recvr)])).t.cpl[k].state = 0 ∧ (st (wT [(3, SlotOp.recvr), (5, SlotOp.recvr)])).t.cpl[k].op = op ∧ (st (wT [(3, SlotOp.recvr), (5, SlotOp.recvr)])).t.cpl[k].x.group = (rres 1 3 0 (byt 24)).group ∧ (st (wT [(3, SlotOp.recvr), (5, SlotOp.recvr)])).t.cpl[k].x.ident = BitVec.ofNat 16 (resultOf (rres 1 3 0 (byt 24)) / 2 ^ 16)) SlotOp.recvr 3 ∧
    (∀ (j : Fin 64), j < 3 → ¬(fun (op : SlotOp) (k : Fin 64) => (st (wT [(3, SlotOp.recvr), (5, SlotOp.recvr)])).t.cpl[k].used = true ∧ (st (wT [(3, SlotOp.recvr), (5, SlotOp.recvr)])).t.cpl[k].state = 0 ∧ (st (wT [(3, SlotOp.recvr), (5, SlotOp.recvr)])).t.cpl[k].op = op ∧ (st (wT [(3, SlotOp.recvr), (5, SlotOp.recvr)])).t.cpl[k].x.group = (rres 1 3 0 (byt 24)).group ∧ (st (wT [(3, SlotOp.recvr), (5, SlotOp.recvr)])).t.cpl[k].x.ident = BitVec.ofNat 16 (resultOf (rres 1 3 0 (byt 24)) / 2 ^ 16)) SlotOp.recvr j) ∧
    (st (wT [(3, SlotOp.recvr), (5, SlotOp.recvr)])).t.cpl[(3 : Fin 64)].drop = false :=
  ⟨by simp -failIfUnchanged only [Plain] <;> decide +kernel, by decide +kernel, by decide +kernel, by decide +kernel,
   by simp -failIfUnchanged only [EngineActs, EngineWorks, ↓list_all_bv, ↓list_all_bv2] <;> decide +kernel, by decide +kernel,
   by decide +kernel, by decide +kernel, by decide +kernel⟩

theorem met_ReductionsContribute_21222 :
    Plain (rres 1 3 0 (byt 24)) 25 ∧ (st (wT [])).isLocal (rres 1 3 0 (byt 24)).src = true ∧
    (st (wT [])).t.thr.st ≠ ThreadSt.none ∧ (st (wT [])).t.thr.st ≠ ThreadSt.halted ∧
    EngineActs (st (wT [])).t (rres 1 3 0 (byt 24)).group ∧
    (∀ (j : Fin 64), ¬(fun (op : SlotOp) (k : Fin 64) => (st (wT [])).t.cpl[k].used = true ∧ (st (wT [])).t.cpl[k].state = 0 ∧ (st (wT [])).t.cpl[k].op = op ∧ (st (wT [])).t.cpl[k].x.group = (rres 1 3 0 (byt 24)).group ∧ (st (wT [])).t.cpl[k].x.ident = BitVec.ofNat 16 (resultOf (rres 1 3 0 (byt 24)) / 2 ^ 16)) SlotOp.gbar j) ∧
    (∀ (j : Fin 64), ¬(fun (op : SlotOp) (k : Fin 64) => (st (wT [])).t.cpl[k].used = true ∧ (st (wT [])).t.cpl[k].state = 0 ∧ (st (wT [])).t.cpl[k].op = op ∧ (st (wT [])).t.cpl[k].x.group = (rres 1 3 0 (byt 24)).group ∧ (st (wT [])).t.cpl[k].x.ident = BitVec.ofNat 16 (resultOf (rres 1 3 0 (byt 24)) / 2 ^ 16)) SlotOp.recvr j) ∧
    (∃ (m : Fin 8), notJoined (st (wT [])) m = false ∧ groupOf (st (wT [])) m = (rres 1 3 0 (byt 24)).group) ∧
    (st (wT [])).t.msg.hamper.length < 256 ∧
    (st (wT [])).t.findGran (((rres 1 3 0 (byt 24)).payload.length + 63) / 64) = some 0 :=
  ⟨by simp -failIfUnchanged only [Plain] <;> decide +kernel, by decide +kernel, by decide +kernel, by decide +kernel,
   by simp -failIfUnchanged only [EngineActs, EngineWorks, ↓list_all_bv, ↓list_all_bv2] <;> decide +kernel, by decide +kernel,
   by decide +kernel, by decide +kernel, by decide +kernel, by decide +kernel⟩

theorem met_ReductionsContribute_22 :
    z5.isLocal (rres 1 3 0 (byt 24)).src = true ∧ pktEvent (rres 1 3 0 (byt 24)) ≠ none :=
  by decide +kernel

theorem met_ContributionsCombine_1 :
    Plain (br 5) 26 :=
  by simp -failIfUnchanged only [Plain] <;> decide +kernel

theorem met_ContributionsCombine_21 :
    Plain (con 5 (byt 8)) 24 ∧ (Point.die 0 = Point.switch ∨ NoSendr z6 (con 5 (byt 8))) :=
  ⟨by simp -failIfUnchanged only [Plain] <;> decide +kernel,
   by simp -failIfUnchanged only [NoSendr, ↓list_all_bv, ↓list_all_bv2] <;> decide +kernel⟩

theorem met_ContributionsCombine_22 :
    Plain (let __src := con 5 (byt 8); { dst := __src.dst, src := __src.src, kind := __src.kind, cls := __src.cls, sv := __src.sv, rsv := __src.rsv, seq := __src.seq, group := __src.group, xid := 67, off := __src.off, aux := __src.aux, ext := __src.ext, payload := __src.payload, bad := __src.bad : Packet }) 24 ∧
    keyOf (let __src := con 5 (byt 8); { dst := __src.dst, src := __src.src, kind := __src.kind, cls := __src.cls, sv := __src.sv, rsv := __src.rsv, seq := __src.seq, group := __src.group, xid := 67, off := __src.off, aux := __src.aux, ext := __src.ext, payload := __src.payload, bad := __src.bad : Packet }).src % 1024 ≠ 1021 ∧
    (∀ (v : Saved), v ∈ sndr.sched.saves → v.rank ≠ (let __src := con 5 (byt 8); { dst := __src.dst, src := __src.src, kind := __src.kind, cls := __src.cls, sv := __src.sv, rsv := __src.rsv, seq := __src.seq, group := __src.group, xid := 67, off := __src.off, aux := __src.aux, ext := __src.ext, payload := __src.payload, bad := __src.bad : Packet }).src) ∧
    InProgress (sndr.tile (keyOf (let __src := con 5 (byt 8); { dst := __src.dst, src := __src.src, kind := __src.kind, cls := __src.cls, sv := __src.sv, rsv := __src.rsv, seq := __src.seq, group := __src.group, xid := 67, off := __src.off, aux := __src.aux, ext := __src.ext, payload := __src.payload, bad := __src.bad : Packet }).src)) (let __src := con 5 (byt 8); { dst := __src.dst, src := __src.src, kind := __src.kind, cls := __src.cls, sv := __src.sv, rsv := __src.rsv, seq := __src.seq, group := __src.group, xid := 67, off := __src.off, aux := __src.aux, ext := __src.ext, payload := __src.payload, bad := __src.bad : Packet }).xid (sndr.tile (keyOf (let __src := con 5 (byt 8); { dst := __src.dst, src := __src.src, kind := __src.kind, cls := __src.cls, sv := __src.sv, rsv := __src.rsv, seq := __src.seq, group := __src.group, xid := 67, off := __src.off, aux := __src.aux, ext := __src.ext, payload := __src.payload, bad := __src.bad : Packet }).src)).cpl[slotIx (let __src := con 5 (byt 8); { dst := __src.dst, src := __src.src, kind := __src.kind, cls := __src.cls, sv := __src.sv, rsv := __src.rsv, seq := __src.seq, group := __src.group, xid := 67, off := __src.off, aux := __src.aux, ext := __src.ext, payload := __src.payload, bad := __src.bad : Packet }).xid] ∧
    (sndr.tile (keyOf (let __src := con 5 (byt 8); { dst := __src.dst, src := __src.src, kind := __src.kind, cls := __src.cls, sv := __src.sv, rsv := __src.rsv, seq := __src.seq, group := __src.group, xid := 67, off := __src.off, aux := __src.aux, ext := __src.ext, payload := __src.payload, bad := __src.bad : Packet }).src)).cpl[slotIx (let __src := con 5 (byt 8); { dst := __src.dst, src := __src.src, kind := __src.kind, cls := __src.cls, sv := __src.sv, rsv := __src.rsv, seq := __src.seq, group := __src.group, xid := 67, off := __src.off, aux := __src.aux, ext := __src.ext, payload := __src.payload, bad := __src.bad : Packet }).xid].op = SlotOp.sendr ∧
    (sndr.tile (keyOf (let __src := con 5 (byt 8); { dst := __src.dst, src := __src.src, kind := __src.kind, cls := __src.cls, sv := __src.sv, rsv := __src.rsv, seq := __src.seq, group := __src.group, xid := 67, off := __src.off, aux := __src.aux, ext := __src.ext, payload := __src.payload, bad := __src.bad : Packet }).src)).cpl[slotIx (let __src := con 5 (byt 8); { dst := __src.dst, src := __src.src, kind := __src.kind, cls := __src.cls, sv := __src.sv, rsv := __src.rsv, seq := __src.seq, group := __src.group, xid := 67, off := __src.off, aux := __src.aux, ext := __src.ext, payload := __src.payload, bad := __src.bad : Packet }).xid].x.group = (let __src := con 5 (byt 8); { dst := __src.dst, src := __src.src, kind := __src.kind, cls := __src.cls, sv := __src.sv, rsv := __src.rsv, seq := __src.seq, group := __src.group, xid := 67, off := __src.off, aux := __src.aux, ext := __src.ext, payload := __src.payload, bad := __src.bad : Packet }).group :=
  ⟨by simp -failIfUnchanged only [Plain] <;> decide +kernel, by decide +kernel, by decide +kernel,
   by simp -failIfUnchanged only [InProgress, exists_eq_left'] <;> decide +kernel, by decide +kernel, by decide +kernel⟩

theorem met_ReductionsContribute_12221 :
    ∃ x : EngOp, engOp zHeldBad (Instr.recvr p 1 true (.s 9) (.s 2) (.s 3)) = some x ∧ zHeldBad.t.isSpec = false ∧
      LowestFree zHeldBad.t 1 ∧ CanTake zHeldBad p (.s 9) ∧ x.reason = none ∧
      IsFirst zHeldBad.t.msg.hamper (fun h => h.kind = .result ∧ ∃ q, h.key = some q ∧ q.group = groupOf zHeldBad 1 ∧
        q.ident = (zHeldBad.rdS (.s 3)).setWidth 16) (heldR 1 80 2) ∧
      zHeldBad.t.badWord (zHeldBad.t.csr.hampbase.toNat + 64 * (heldR 1 80 2).gran) (heldR 1 80 2).bytes false ≠ none :=
  ⟨_, rfl, by decide +kernel, by simp only [LowestFree] <;> decide +kernel, ⟨_, rfl⟩, by decide +kernel,
    by simp only [first_iff, ↓opt_ex] <;> decide +kernel, by decide +kernel⟩

end Contrib

namespace Timers

def byt (n : Nat) : List Byte := (List.range n).map fun i => BitVec.ofNat 8 (i+1)

def grp : Group := ⟨0, 0xA,0, 3, [], [5, 6, 1030], [], true, 0⟩
def gS (t : Tile) : State := { st t with red := { Red.reset with groups := [grp] } }

def key : RKey := ⟨0, 0xA, 3, false⟩
def con (src : Nat) (d : List Byte) (ms : W64 := 0) : Packet := contribPacket (BitVec.ofNat 32 src) 1021 key .fsum false 0 ms d

def cS (slots : List RSlot) (pt : Point) : State := { gS tile with cur := 1021, red := { Red.reset with groups := [grp], slots := slots } }
def sl (pt : Point) (pl : List Nat) (b := false) : RSlot := ⟨pt, 0, { key with branch := b }, .fsum, false, 8, pl.map fun x => ⟨x, some (byt 8), 0⟩, false, 5000⟩

def tS (x : RSlot) (now : Nat) (more : List (Nat × Packet) := []) (pkg : BitVec 20 := 0) : State := { cS [x] x.pt with now := now, mgmt := { Mgmt.reset with bootst := 6, pkg := pkg }, red := { Red.reset with groups := [grp], slots := [x], waiting := more } }
def z1 : State := (tS (sl (.die 0) [5]) 4000)

def z2 : State := (tS (sl (.die 0) [5]) 5000)
def z3 : State := (tS (sl .switch [0]) 5000 [] 3)

def z4 : State := (tS (sl .switch [0]) 5000)
def z5 : State := (tS (sl .switch [0]) 5000 [(3, con 6 (byt 8))])

def z6 : State := (tS (sl .switch [0]) 5000 [])
def z7 : State := { tS (sl .switch [0]) 5000 [(3, con 1030 (byt 8))] with red := { Red.reset with groups := [grp], waiting := [(3, con 1030 (byt 8))] } }

def z8 : State := { tS (sl .switch [0]) 5000 with red := { Red.reset with redlate := -1 } }

theorem met_ReductionTimers_11 :
    ∃ (x : RSlot), z1.redSlot (Point.die 0) key = some x ∧ ∃ (x1 : Group), z1.groupOf key = some x1 ∧ z1.now < x.due :=
  by simp -failIfUnchanged only [↓opt_ex, ↓opt_is] <;> decide +kernel

theorem met_ReductionTimers_12 :
    ∃ (x : RSlot), z2.redSlot (Point.die 0) key = some x ∧ ∃ (x1 : Group), z2.groupOf key = some x1 ∧ x.due ≤ z2.now :=
  by simp -failIfUnchanged only [↓opt_ex, ↓opt_is] <;> decide +kernel

theorem met_ReductionTimers_211 :
    ∃ (x : RSlot), z3.redSlot Point.switch key = some x ∧ ∃ (x1 : Group), z3.groupOf key = some x1 ∧
    z3.isFrozen 2 x.ix = false ∧ x.due ≤ z3.now ∧ z3.red.late.length < 4096 ∧ key.branch = false ∧ x1.root ≠ z3.mgmt.pkg.toNat :=
  by simp -failIfUnchanged only [↓opt_ex, ↓opt_is] <;> decide +kernel

theorem met_ReductionTimers_212 :
    ∃ (x : RSlot), z4.redSlot Point.switch key = some x ∧ ∃ (x1 : Group), z4.groupOf key = some x1 ∧
    z4.isFrozen 2 x.ix = false ∧ x.due ≤ z4.now ∧ z4.red.late.length < 4096 ∧ key.branch = false ∧ x1.root = z4.mgmt.pkg.toNat :=
  by simp -failIfUnchanged only [↓opt_ex, ↓opt_is] <;> decide +kernel

theorem met_ReductionTimers_2211 :
    (∃ (w : Nat × Packet), w ∈ z5.red.waiting ∧ (Contrib.of w.snd).key = key) :=
  by decide +kernel

theorem met_ReductionTimers_2212 :
    (∀ (w : Nat × Packet), w ∈ z6.red.waiting → (Contrib.of w.snd).key ≠ key) :=
  by decide +kernel

theorem met_ReductionTimers_2222221 :
    z7.red.waiting = [(3, con 1030 (byt 8))] ∧ ∃ (x : Nat), z7.red.freeIx = some x ∧
    Contributes z7 Point.switch (3, con 1030 (byt 8)).snd grp ∧
    z7.redSlot Point.switch (Contrib.of (3, con 1030 (byt 8)).snd).key = none ∧
    (∀ (u : Nat × Packet), u ∈ [] → (Contrib.of u.snd).key ≠ (Contrib.of (3, con 1030 (byt 8)).snd).key) ∧
    (∃ (e : Nat × List Rank), e ∈ z7.expected grp (Contrib.of (3, con 1030 (byt 8)).snd).key Point.switch ∧ e.fst ≠ z7.placeOf Point.switch (3, con 1030 (byt 8)).snd.src) :=
  ⟨by decide +kernel, by simp -failIfUnchanged only [Contributes, ↓opt_ex, ↓opt_is, ↓list_all_bv, ↓list_all_bv2] <;> decide +kernel⟩

theorem met_ReductionTimers_22222221 :
    Plain (con 5 (byt 8)) 24 ∧ z8.groupOf (Contrib.of (con 5 (byt 8))).key = none :=
  ⟨by simp -failIfUnchanged only [Plain] <;> decide +kernel, by decide +kernel⟩

end Timers

namespace Joins

def gmv (t : Tile) : Tile := { t with csr := { t.csr with gm := (tile.csr.gm.set 1 0x1000A), hampbase := 0x40000, hampsize := 0x4000 } }

def jw (grp : Nat) (home cnt : Nat) : W64 := BitVec.ofNat 64 (grp + 2^16*home+2^36*cnt)
def jT (w : W64) : Tile := { tile with cpl := tile.cpl.set 3 { slot .join 1 with uli := true, x := { Xfer.empty with word := w, gm := 2 } } }

def jS (w : W64) (gs : List Group) (more : List (Nat × Tile) := []) : State := { st (jT w) with tiles := [(5, jT w)] ++ more, cur := 1022, red := { Red.reset with groups := gs } }
def gr (n : Nat) (cnt : Nat) (js : List Joiner) (formed := false) (due := 2000) : Group := ⟨n, 7, 0, cnt, js, [], [], formed, due⟩

def pool64 (n : Nat) : List Group := (List.range n).map fun k => ⟨k, BitVec.ofNat 16 (100 + k), 0, 2, [], [], [], true, 0⟩
def poolS (n : Nat) : State := jS (jw 7 0 2) (pool64 n)

theorem pool_full {r : Red} {n : Nat} (h : r.groups = pool64 n) (hn : 4096 ≤ n) : r.freeGroup true = none := by
  rw [Red.freeGroup, List.findSome?_eq_none_iff]
  intro i hi
  rw [if_pos rfl, if_pos]
  rw [h]
  exact List.any_eq_true.2 ⟨_, List.mem_map.2 ⟨i, List.mem_range.2 (by have := List.mem_range.1 hi; omega), rfl⟩, beq_self_eq_true i⟩

theorem pool_others {n : Nat} (hn : n ≤ 4096) (g : Group) (hg : g ∈ pool64 n) : ¬ (g.grp = 7 ∧ g.home = 0) := by
  obtain ⟨i, hi, rfl⟩ := List.mem_map.1 hg
  rintro ⟨h, -⟩
  have h2 : (100 + i) % 2 ^ 16 = 7 := congrArg BitVec.toNat h
  have := List.mem_range.1 hi
  omega

theorem jw_group : (jw 7 0 2).setWidth 16 = 7 := by decide +kernel

theorem jw_home : (jw 7 0 2).toNat / 2 ^ 16 % 2 ^ 20 = 0 := by decide +kernel

theorem pool_clause (n : Nat) (hn : n = 4096) :
    (poolS n).isLocal 5 = true ∧ ((poolS n).tile (keyOf 5)).thr.starting = false ∧
      ((poolS n).tile (keyOf 5)).cpl[(3 : Fin 64)].drop = false ∧ GroupsClean (poolS n) ∧
      (∀ g ∈ (poolS n).red.groups, ¬ (g.grp = (jw 7 0 2).setWidth 16 ∧ g.home = (jw 7 0 2).toNat / 2 ^ 16 % 2 ^ 20)) ∧
      (poolS n).red.freeGroup ((jw 7 0 2).toNat / 2 ^ 16 % 2 ^ 20 == (poolS n).mgmt.pkg.toNat) = none :=
  ⟨rfl, rfl, rfl, fun _ _ => rfl, fun g hg => by rw [jw_group, jw_home]; exact pool_others (by omega) g hg,
    by rw [jw_home]; exact pool_full (n := n) rfl (by omega)⟩

def zForm (f : Bool) : State := jS (jw 7 0 2) [gr 0 2 [⟨5, none, 2, some 67⟩] f 900]
def z1 : State := (st (gmv (withS [jw 7 0 2] tile)))

def z2 : State := (st (gmv tile))

theorem met_GroupsForm_1 :
    ∃ (x : EngOp), engOp z1 (Instr.join p 2 true (Reg.s 9) (Reg.s 1)) = some x ∧ z1.t.isSpec = false ∧ LowestFree z1.t 0 ∧
    CanTake z1 p (Reg.s 9) ∧ x.reason = none :=
  ⟨_, rfl, by decide +kernel, by simp -failIfUnchanged only [LowestFree] <;> decide +kernel, ⟨_, rfl⟩, by decide +kernel⟩

theorem met_GroupsForm_211 :
    (jS (jw 7 0 1) []).isLocal 5 = true ∧ ((jS (jw 7 0 1) []).tile (keyOf 5)).thr.starting = false ∧
    Joining (jS (jw 7 0 1) []) 5 (jw 7 0 1) 3 ∧ ((jS (jw 7 0 1) []).tile (keyOf 5)).cpl[(3 : Fin 64)].drop = false ∧
    GroupsClean (jS (jw 7 0 1) []) ∧
    (∀ (g : Group), g ∈ (jS (jw 7 0 1) []).red.groups → ¬(g.grp = BitVec.setWidth 16 (jw 7 0 1) ∧ g.home = BitVec.toNat (jw 7 0 1) / 2 ^ 16 % 2 ^ 20)) ∧
    (jS (jw 7 0 1) []).red.freeGroup (BitVec.toNat (jw 7 0 1) / 2 ^ 16 % 2 ^ 20 == (jS (jw 7 0 1) []).mgmt.pkg.toNat) = some 0 ∧
    BitVec.toNat (jw 7 0 1) / 2 ^ 36 % 2 ^ 20 = 1 :=
  ⟨by decide +kernel, by decide +kernel, by simp -failIfUnchanged only [Joining, ↓list_all_bv, ↓list_all_bv2] <;> decide +kernel,
   by decide +kernel, by simp -failIfUnchanged only [GroupsClean, ↓list_all_bv, ↓list_all_bv2] <;> decide +kernel, by decide +kernel,
   by decide +kernel, by decide +kernel⟩

theorem met_GroupsForm_2121 :
    (jS (jw 7 0 2) []).isLocal 5 = true ∧ ((jS (jw 7 0 2) []).tile (keyOf 5)).thr.starting = false ∧
    Joining (jS (jw 7 0 2) []) 5 (jw 7 0 2) 3 ∧ ((jS (jw 7 0 2) []).tile (keyOf 5)).cpl[(3 : Fin 64)].drop = false ∧
    GroupsClean (jS (jw 7 0 2) []) ∧
    (∀ (g : Group), g ∈ (jS (jw 7 0 2) []).red.groups → ¬(g.grp = BitVec.setWidth 16 (jw 7 0 2) ∧ g.home = BitVec.toNat (jw 7 0 2) / 2 ^ 16 % 2 ^ 20)) ∧
    (jS (jw 7 0 2) []).red.freeGroup (BitVec.toNat (jw 7 0 2) / 2 ^ 16 % 2 ^ 20 == (jS (jw 7 0 2) []).mgmt.pkg.toNat) = some 0 ∧
    BitVec.toNat (jw 7 0 2) / 2 ^ 36 % 2 ^ 20 ≠ 1 :=
  ⟨by decide +kernel, by decide +kernel, by simp -failIfUnchanged only [Joining, ↓list_all_bv, ↓list_all_bv2] <;> decide +kernel,
   by decide +kernel, by simp -failIfUnchanged only [GroupsClean, ↓list_all_bv, ↓list_all_bv2] <;> decide +kernel, by decide +kernel,
   by decide +kernel, by decide +kernel⟩

theorem met_GroupsForm_212221 :
    (jS (jw 7 0 2) [gr 0 3 []]).isLocal 5 = true ∧ ((jS (jw 7 0 2) [gr 0 3 []]).tile (keyOf 5)).thr.starting = false ∧
    Joining (jS (jw 7 0 2) [gr 0 3 []]) 5 (jw 7 0 2) 3 ∧
    ((jS (jw 7 0 2) [gr 0 3 []]).tile (keyOf 5)).cpl[(3 : Fin 64)].drop = false ∧ GroupsClean (jS (jw 7 0 2) [gr 0 3 []]) ∧
    ∃ (g : Group), IsFirst (jS (jw 7 0 2) [gr 0 3 []]).red.groups (fun (g : Group) => g.grp = BitVec.setWidth 16 (jw 7 0 2) ∧ g.home = BitVec.toNat (jw 7 0 2) / 2 ^ 16 % 2 ^ 20) g ∧
    (g.formed = true ∨ g.count ≠ BitVec.toNat (jw 7 0 2) / 2 ^ 36 % 2 ^ 20) :=
  ⟨by decide +kernel, by decide +kernel, by simp -failIfUnchanged only [Joining, ↓list_all_bv, ↓list_all_bv2] <;> decide +kernel,
   by decide +kernel, by simp -failIfUnchanged only [GroupsClean, ↓list_all_bv, ↓list_all_bv2] <;> decide +kernel,
   by simp -failIfUnchanged only [first_iff, ↓first_ex, ↓first_is] <;> decide +kernel⟩

theorem met_GroupsForm_2122221 :
    (jS (jw 7 0 3) [gr 0 3 [{ rank := 6, gang := none, gm := 1, xid := none : Joiner }]]).isLocal 5 = true ∧
    ((jS (jw 7 0 3) [gr 0 3 [{ rank := 6, gang := none, gm := 1, xid := none : Joiner }]]).tile (keyOf 5)).thr.starting = false ∧
    Joining (jS (jw 7 0 3) [gr 0 3 [{ rank := 6, gang := none, gm := 1, xid := none : Joiner }]]) 5 (jw 7 0 3) 3 ∧
    ((jS (jw 7 0 3) [gr 0 3 [{ rank := 6, gang := none, gm := 1, xid := none : Joiner }]]).tile (keyOf 5)).cpl[(3 : Fin 64)].drop = false ∧
    GroupsClean (jS (jw 7 0 3) [gr 0 3 [{ rank := 6, gang := none, gm := 1, xid := none : Joiner }]]) ∧
    IsFirst (jS (jw 7 0 3) [gr 0 3 [{ rank := 6, gang := none, gm := 1, xid := none : Joiner }]]).red.groups (fun (g : Group) => g.grp = BitVec.setWidth 16 (jw 7 0 3) ∧ g.home = BitVec.toNat (jw 7 0 3) / 2 ^ 16 % 2 ^ 20) (gr 0 3 [{ rank := 6, gang := none, gm := 1, xid := none : Joiner }]) ∧
    (gr 0 3 [{ rank := 6, gang := none, gm := 1, xid := none : Joiner }]).formed = false ∧
    (gr 0 3 [{ rank := 6, gang := none, gm := 1, xid := none : Joiner }]).count = BitVec.toNat (jw 7 0 3) / 2 ^ 36 % 2 ^ 20 ∧
    (gr 0 3 [{ rank := 6, gang := none, gm := 1, xid := none : Joiner }]).joiners.length + 1 < BitVec.toNat (jw 7 0 3) / 2 ^ 36 % 2 ^ 20 :=
  ⟨by decide +kernel, by decide +kernel, by simp -failIfUnchanged only [Joining, ↓list_all_bv, ↓list_all_bv2] <;> decide +kernel,
   by decide +kernel, by simp -failIfUnchanged only [GroupsClean, ↓list_all_bv, ↓list_all_bv2] <;> decide +kernel,
   by simp -failIfUnchanged only [first_iff] <;> decide +kernel, by decide +kernel, by decide +kernel, by decide +kernel⟩

theorem met_GroupsForm_2122222 :
    (jS (jw 7 0 2) [gr 0 2 [{ rank := 6, gang := none, gm := 1, xid := some 67 : Joiner }]] [(6, jT 9)]).isLocal 5 = true ∧
    ((jS (jw 7 0 2) [gr 0 2 [{ rank := 6, gang := none, gm := 1, xid := some 67 : Joiner }]] [(6, jT 9)]).tile (keyOf 5)).thr.starting = false ∧
    Joining (jS (jw 7 0 2) [gr 0 2 [{ rank := 6, gang := none, gm := 1, xid := some 67 : Joiner }]] [(6, jT 9)]) 5 (jw 7 0 2) 3 ∧
    ((jS (jw 7 0 2) [gr 0 2 [{ rank := 6, gang := none, gm := 1, xid := some 67 : Joiner }]] [(6, jT 9)]).tile (keyOf 5)).cpl[(3 : Fin 64)].drop = false ∧
    GroupsClean (jS (jw 7 0 2) [gr 0 2 [{ rank := 6, gang := none, gm := 1, xid := some 67 : Joiner }]] [(6, jT 9)]) ∧
    IsFirst (jS (jw 7 0 2) [gr 0 2 [{ rank := 6, gang := none, gm := 1, xid := some 67 : Joiner }]] [(6, jT 9)]).red.groups (fun (g : Group) => g.grp = BitVec.setWidth 16 (jw 7 0 2) ∧ g.home = BitVec.toNat (jw 7 0 2) / 2 ^ 16 % 2 ^ 20) (gr 0 2 [{ rank := 6, gang := none, gm := 1, xid := some 67 : Joiner }]) ∧
    (gr 0 2 [{ rank := 6, gang := none, gm := 1, xid := some 67 : Joiner }]).formed = false ∧
    (gr 0 2 [{ rank := 6, gang := none, gm := 1, xid := some 67 : Joiner }]).count = BitVec.toNat (jw 7 0 2) / 2 ^ 36 % 2 ^ 20 ∧
    (gr 0 2 [{ rank := 6, gang := none, gm := 1, xid := some 67 : Joiner }]).joiners.length + 1 = BitVec.toNat (jw 7 0 2) / 2 ^ 36 % 2 ^ 20 ∧
    (∀ (q : Joiner), q ∈ (gr 0 2 [{ rank := 6, gang := none, gm := 1, xid := some 67 : Joiner }]).joiners → (jS (jw 7 0 2) [gr 0 2 [{ rank := 6, gang := none, gm := 1, xid := some 67 : Joiner }]] [(6, jT 9)]).isLocal q.rank = true ∧ ∃ (x : W16), q.xid = some x ∧ BusyAt (jS (jw 7 0 2) [gr 0 2 [{ rank := 6, gang := none, gm := 1, xid := some 67 : Joiner }]] [(6, jT 9)]) q.rank q.gang x) :=
  ⟨by decide +kernel, by decide +kernel, by simp -failIfUnchanged only [Joining, ↓list_all_bv, ↓list_all_bv2] <;> decide +kernel,
   by decide +kernel, by simp -failIfUnchanged only [GroupsClean, ↓list_all_bv, ↓list_all_bv2] <;> decide +kernel,
   by simp -failIfUnchanged only [first_iff] <;> decide +kernel, by decide +kernel, by decide +kernel, by decide +kernel,
   by simp -failIfUnchanged only [BusyAt, InProgress, ↓opt_ex, ↓opt_is, ↓list_all_bv, ↓list_all_bv2, exists_eq_left'] <;> decide +kernel⟩

theorem met_GroupsForm_2221 :
    z2.t.isSpec = false ∧ LowestFree z2.t 0 ∧ CanTake z2 p (Reg.s 9) ∧ GroupsClean z2 ∧
    BitVec.getLsbD z2.t.csr.gm[(2 : Fin 8)] 16 = false :=
  ⟨by decide +kernel, by simp -failIfUnchanged only [LowestFree] <;> decide +kernel, ⟨_, rfl⟩,
   by simp -failIfUnchanged only [GroupsClean, ↓list_all_bv, ↓list_all_bv2] <;> decide +kernel, by decide +kernel⟩

theorem met_GroupsForm_2222 :
    z2.t.isSpec = false ∧ LowestFree z2.t 0 ∧ CanTake z2 p (Reg.s 9) ∧ GroupsClean z2 ∧
    BitVec.getLsbD z2.t.csr.gm[(1 : Fin 8)] 16 = true :=
  ⟨by decide +kernel, by simp -failIfUnchanged only [LowestFree] <;> decide +kernel, ⟨_, rfl⟩,
   by simp -failIfUnchanged only [GroupsClean, ↓list_all_bv, ↓list_all_bv2] <;> decide +kernel, by decide +kernel⟩

theorem met_GroupsForm_21221 :
    (poolS 4096).isLocal 5 = true ∧ ((poolS 4096).tile (keyOf 5)).thr.starting = false ∧
      ((poolS 4096).tile (keyOf 5)).cpl[(3 : Fin 64)].drop = false ∧ GroupsClean (poolS 4096) ∧
      (∀ g ∈ (poolS 4096).red.groups, ¬ (g.grp = (jw 7 0 2).setWidth 16 ∧ g.home = (jw 7 0 2).toNat / 2 ^ 16 % 2 ^ 20)) ∧
      (poolS 4096).red.freeGroup ((jw 7 0 2).toNat / 2 ^ 16 % 2 ^ 20 == (poolS 4096).mgmt.pkg.toNat) = none :=
  pool_clause 4096 rfl

theorem met_GroupsForm_2211 :
    IsFirst (zForm true).red.groups (fun g => g.grp = 7 ∧ g.home = (0 : BitVec 20).toNat) (gr 0 2 [⟨5, none, 2, some 67⟩] true 900) ∧
      ((gr 0 2 [⟨5, none, 2, some 67⟩] true 900).formed = true ∨ (zForm true).now < 900) :=
  ⟨by simp only [first_iff] <;> decide +kernel, by decide +kernel⟩

theorem met_GroupsForm_2212 :
    IsFirst (zForm false).red.groups (fun g => g.grp = 7 ∧ g.home = (0 : BitVec 20).toNat) (gr 0 2 [⟨5, none, 2, some 67⟩] false 900) ∧
      (gr 0 2 [⟨5, none, 2, some 67⟩] false 900).formed = false ∧ 900 ≤ (zForm false).now ∧
      (zForm false).isLocal 5 = true ∧ BusyAt (zForm false) 5 none 67 :=
  ⟨by simp only [first_iff] <;> decide +kernel, by decide +kernel, by decide +kernel, by decide +kernel,
    by simp only [BusyAt, InProgress, exists_eq_left'] <;> decide +kernel⟩

end Joins

end Sys2Proof.Tests
end

