-- ==== Sys2Proof/Tests/MetHost.lean ====
section
/-!
SUPPORT. States that meet the hypotheses of the statements about the host pairs: `met_<Obligation>_<path>` meets those of the
clause at that place of the statement (1: the left side of a conjunction, 2: the right side).
-/

set_option linter.unusedVariables false
set_option linter.unusedSimpArgs false

namespace Sys2Proof.Tests

set_option Elab.async false

open Machine

namespace Entries

def klr (l : List (Nat × Nat)) : List Byte := bytesOf ((l.map fun x => 2^(64*x.1) * x.2).sum) 128

def kl (form := false) (n := 2) (deps : List Nat := []) (w7 := 0) (w11 := 0) : List Byte :=
  klr ([(0, 0x10000), (1, 0x120 + 2^32*2 + 2^44*3 + 2^46*2 + 2^49 + 2^52*9), (2, if form then 1 + 2^23*1+2^28*2 + 2^14*1 else 2*n), (7, 2^16*1 + 2^24*60 + w7), (9, 0x20400 + 2^32*32), (10, 0x20000), (11, 0x120 + w11)] ++ deps.zipIdx.map fun d => (3 + d.2, d.1))

def pr (en := true) (head := 15) (tail : BitVec 12 := 3) : Pair := ⟨0x10000, 0x20000, 4, en, tail, head, 15, true⟩
def ent (kind tag : Nat) (body : List (Nat × Nat)) : List Byte := bytesOf (kind + 2^16*tag + (body.map fun b => 2^(8*b.1)*b.2).sum) 256

def hS (e : List Byte) (p : Pair := pr) : State := { st tile with cur := 9, tiles := [(5, { tile with thr := { tile.thr with gang := some 4 } })], host := { HostSt.reset with pair := HostSt.reset.pair.set 9 p, mem := (0x40, 9) :: (e.zipIdx.filter (fun x => x.1 != 0)).map fun x => (0x10000 + 256*15 + x.2, x.1), hampBase := 0x40 } }
def qd (h : W32) (b : List Byte) : Queued := ⟨h, Klr.of b, 0, [], 900, false, 5⟩

def g0 : Gang := ⟨4, { Klr.of kl with }, 0, [5, 7], false, true,false, 900,[], []⟩
def gS (e : List Byte) : State := { hS e with sched := { Sched.reset with gangs := [g0], q := Sched.reset.q.set 4 [qd 6 kl, qd 8 kl] } }

def abS (x y : ThreadSt) : State := { st tile with cur := 1022, tiles := [5,7].map fun k => (k, { tile with thr := { tile.thr with st := if k = 5 then x else y, gang := some 4 }, imem := Mem.write [] 64 (line1 0xE000 0) }), sched := { Sched.reset with gangs := [{ g0 with aborts := [3,9] }], q := Sched.reset.q.set 4 [qd 6 kl, qd 8 kl], dctr := [(7,3)] } }
def ga : Gang := { g0 with aborts := [3,9] }

def xs : Assoc HXfer := (List.range 4096).map fun k => (k, ⟨true, 3, true, 11, 5, 0x5000, 64, 7, 3, 0xF, 10, 0, false, false, false⟩)
def sd (ty len dst : Nat) : State := hS (ent 4 7 [(32, dst), (36, 99), (40, 10), (42, ty), (44, len), (48, 0x40)])

def rv (len : Nat) (hd : List (Env × Option Nat)) (post : List Nat := []) : State := let s := hS (ent 5 7 [(32, 7), (36, 3), (40, 0xF), (44, 10), (48, len), (56, 0x5000)]); { s with host := { s.host with headers := hd, posted := post } }
def hx (recv used : Bool) : HXfer := ⟨used, 3, recv, 11, 5, 0x5000, 64, 7, 3, 0xF, 10, 0, false, false, false⟩

def cS (x : HXfer) (post : List Nat) : State := let s := hS (ent 6 7 [(32, 2 + 4096*3)]) ; { s with host := { s.host with xfer := [(2, x)], posted := post, pair := s.host.pair.set 11 (pr true 3 3) } }
def hw (r : Nat) (st : ThreadSt) : State := { hS (ent 7 7 [(32, r)]) with tiles := [(5, { tile with thr := { tile.thr with st := st }, msg := { tile.msg with ingress := [env0 7 3 5] } })] }

theorem xs_full (n : Nat) : ∀ a k, a ≤ k → k < a + n →
    Assoc.find ((List.range' a n).map fun k => (k, (⟨true, 3, true, 11, 5, 0x5000, 64, 7, 3, 0xF, 10, 0, false, false, false⟩ : HXfer))) k = some ⟨true, 3, true, 11, 5, 0x5000, 64, 7, 3, 0xF, 10, 0, false, false, false⟩ := by
  induction n with
  | zero => intro a k h1 h2; omega
  | succ n ih =>
    intro a k h1 h2
    rw [List.range'_succ, List.map_cons, Assoc.find]
    split
    · rfl
    · rw [if_neg (by omega)]
      exact ih (a + 1) k (by omega) (by omega)

theorem xs_all (k : Nat) (hk : k < 4096) :
    Assoc.find xs k = some ⟨true, 3, true, 11, 5, 0x5000, 64, 7, 3, 0xF, 10, 0, false, false, false⟩ := by
  have := xs_full 4096 0 k (by omega) (by omega)
  rw [xs, List.range_eq_range']
  exact this

def fullX (e : List Byte) (l : Assoc HXfer) : State := { hS e with host := { (hS e).host with xfer := l } }
def zFull : State := fullX (ent 4 7 [(32, 7), (36, 99), (40, 10), (44, 64), (48, 0x40)]) xs

theorem fullX_xfer (e : List Byte) (l : Assoc HXfer) : (fullX e l).host.xfer = l := rfl

theorem zFull_xfer : zFull.host.xfer = xs := fullX_xfer _ _

def zOpen : State := { abS .running .stopped with tiles := (abS .running .stopped).tiles.map fun x =>
  if x.1 = 5 then (x.1, { x.2 with cpl := x.2.cpl.set 0 (slot .cgo 7) }) else x }

def z1 : State := (hS (ent 1 7 []) (pr false))
def z2 : State := (hS (ent 4 7 []))

def z3 : State := (hS (ent 1 7 [(1,1)]))
def z4 : State := (hS (ent 1 7 [(32, ofBytes (kl true) + 2^(64*9))]))

def z5 : State := (hS (ent 1 7 [(32, ofBytes kl)]))
def z6 : State := { hS (ent 1 7 [(32, ofBytes kl)]) with sched := { Sched.reset with q := Sched.reset.q.set 4 ((List.range 256).map fun i => qd (BitVec.ofNat 32 i) kl) } }

def z7 : State := (hS (ent 2 7 [(32, 4096), (36, 77)]))
def z8 : State := (hS (ent 2 7 [(32, 4095), (36, 77)]))

def z9 : State := { hS (ent 2 7 [(32, 4095), (36, 0)]) with frozen := [(3,4095)] }
def z10 : State := (gS (ent 3 7 [(32, 4)]))

def z11 : State := { gS (ent 3 7 [(32, 9)]) with sched := { Sched.reset with aborted := [(8,9),(9,8),(9,9)] } }
def z12 : State := (gS (ent 3 7 [(32, 6)]))

def z13 : State := (gS (ent 3 7 [(32, 5)]))
def z14 : State := (abS .halted .stopped)

def z15 : State := (sd 32 64 5)
def z16 : State := (sd 5 64 5)

def z17 : State := (sd 5 64 0x120)
def z18 : State := (rv 1048577 [])

def z19 : State := (rv 64 [(env0 8 3 4, none)])
def z20 : State := (rv 64 [] (List.range 1024))

def z21 : State := (cS (hx false true) [4])
def z22 : State := { hS (ent 7 7 [(32, 5)]) with tiles := [(5, specT)] }

def z23 : State := (hw 5 .suspended)
def z24 : State := (hw 5 .none)

def z25 : State := (hw 5 .running)

theorem met_HostLaunchesAndCounters_21 :
    (hostKind Instr.hostLaunch).isSome = true ∧ z1.cur = 9 ∧
    (¬HasEntry z1.host.pair[(9 : Fin 64)] ∨ Config.ringFull z1.freeCtr = true) :=
  ⟨by decide +kernel, by decide +kernel, by simp -failIfUnchanged only [HasEntry] <;> decide +kernel⟩

theorem met_HostLaunchesAndCounters_2211 :
    hostKind Instr.hostCancel = some (6, [(32, 4)]) ∧ z2.cur = 9 ∧ HasEntry z2.host.pair[(9 : Fin 64)] ∧
    bytesAt (entryOf z2 9) 0 1 ≠ 6 ∧ (1 : Nat) ≤ bytesAt (entryOf z2 9) 0 1 ∧ bytesAt (entryOf z2 9) 0 (1 : Nat) ≤ 7 :=
  ⟨by decide +kernel, by decide +kernel, by simp -failIfUnchanged only [HasEntry] <;> decide +kernel, by decide +kernel,
   by decide +kernel, by decide +kernel⟩

theorem met_HostLaunchesAndCounters_2212 (hf : Config.ringFull z3.freeCtr = false) :
    hostKind Instr.hostLaunch = some (1, [(32, 128)]) ∧ z3.cur = 9 ∧ HasEntry z3.host.pair[(9 : Fin 64)] ∧
    (bytesAt (entryOf z3 9) 0 1 = 1 ∨ bytesAt (entryOf z3 9) 0 1 = 0 ∨ 7 < bytesAt (entryOf z3 9) 0 1) ∧
    Config.ringFull z3.freeCtr = false ∧ (¬EntryForm (entryOf z3 9) 1 [(32, 128)]) :=
  ⟨by decide +kernel, by decide +kernel, by simp -failIfUnchanged only [HasEntry] <;> decide +kernel, by decide +kernel, hf,
   by simp -failIfUnchanged only [EntryForm, ↓list_ex_bv] <;> decide +kernel⟩

theorem met_HostLaunchesAndCounters_22211 (hf : Config.ringFull z4.freeCtr = false) :
    TakesEntry Instr.hostLaunch z4 9 ∧
    ∃ (w : Nat), (Klr.of (List.take 128 (List.drop 32 (entryOf z4 9)))).refusal (List.take 128 (List.drop 32 (entryOf z4 9))) = some w :=
  ⟨by apply takes_of 1 [(32, 128)] (hf := hf) (hb := by apply entryForm_of <;> decide +kernel) <;> decide +kernel,
   by simp -failIfUnchanged only [↓opt_is] <;> decide +kernel⟩

theorem met_HostLaunchesAndCounters_222121 (hf : Config.ringFull z5.freeCtr = false) :
    TakesEntry Instr.hostLaunch z5 9 ∧
    (Klr.of (List.take 128 (List.drop 32 (entryOf z5 9)))).refusal (List.take 128 (List.drop 32 (entryOf z5 9))) = none ∧
    z5.sched.q[if (Klr.of (List.take 128 (List.drop 32 (entryOf z5 9)))).form = true then Fin.ofNat 5 ↑(Klr.of (List.take 128 (List.drop 32 (entryOf z5 9)))).die else 4].length < 256 :=
  ⟨by apply takes_of 1 [(32, 128)] (hf := hf) (hb := by apply entryForm_of <;> decide +kernel) <;> decide +kernel,
   by decide +kernel, by decide +kernel⟩

theorem met_HostLaunchesAndCounters_222122 (hf : Config.ringFull z6.freeCtr = false) :
    TakesEntry Instr.hostLaunch z6 9 ∧
    (Klr.of (List.take 128 (List.drop 32 (entryOf z6 9)))).refusal (List.take 128 (List.drop 32 (entryOf z6 9))) = none ∧
    (256 : Nat) ≤ z6.sched.q[if (Klr.of (List.take 128 (List.drop 32 (entryOf z6 9)))).form = true then Fin.ofNat 5 ↑(Klr.of (List.take 128 (List.drop 32 (entryOf z6 9)))).die else 4].length :=
  ⟨by apply takes_of 1 [(32, 128)] (hf := hf) (hb := by apply entryForm_of <;> decide +kernel) <;> decide +kernel,
   by decide +kernel, by decide +kernel⟩

theorem met_HostLaunchesAndCounters_22221 (hf : Config.ringFull z7.freeCtr = false) :
    TakesEntry Instr.hostDctr z7 9 ∧ (4096 : Nat) ≤ bytesAt (entryOf z7 9) 32 2 ∧
    z7.isFrozen 3 (bytesAt (entryOf z7 9) 32 2) = false :=
  ⟨by apply takes_of 2 [(32, 2), (36, 4)] (hf := hf) (hb := by apply entryForm_of <;> decide +kernel) <;> decide +kernel,
   by decide +kernel, by decide +kernel⟩

theorem met_HostLaunchesAndCounters_222221 (hf : Config.ringFull z8.freeCtr = false) :
    TakesEntry Instr.hostDctr z8 9 ∧ bytesAt (entryOf z8 9) 32 2 < 4096 ∧ z8.isFrozen 3 (bytesAt (entryOf z8 9) 32 2) = false :=
  ⟨by apply takes_of 2 [(32, 2), (36, 4)] (hf := hf) (hb := by apply entryForm_of <;> decide +kernel) <;> decide +kernel,
   by decide +kernel, by decide +kernel⟩

theorem met_HostLaunchesAndCounters_222222 (hf : Config.ringFull z9.freeCtr = false) :
    TakesEntry Instr.hostDctr z9 9 ∧ z9.isFrozen 3 (bytesAt (entryOf z9 9) 32 2) = true :=
  ⟨by apply takes_of 2 [(32, 2), (36, 4)] (hf := hf) (hb := by apply entryForm_of <;> decide +kernel) <;> decide +kernel,
   by decide +kernel⟩

theorem met_HostMessages_11 (hf : Config.ringFull z10.freeCtr = false) :
    TakesEntry Instr.hostAbort z10 9 ∧ ∃ (g : Gang), z10.gang (BitVec.ofNat 32 (bytesAt (entryOf z10 9) 32 4)) = some g :=
  ⟨by apply takes_of 3 [(32, 4)] (hf := hf) (hb := by apply entryForm_of <;> decide +kernel) <;> decide +kernel,
   by simp -failIfUnchanged only [↓opt_is] <;> decide +kernel⟩

theorem met_HostMessages_121 (hf : Config.ringFull z11.freeCtr = false) :
    TakesEntry Instr.hostAbort z11 9 ∧ z11.gang (BitVec.ofNat 32 (bytesAt (entryOf z11 9) 32 4)) = none ∧
    (BitVec.ofNat 32 (bytesAt (entryOf z11 9) 32 4), 9) ∈ z11.sched.aborted :=
  ⟨by apply takes_of 3 [(32, 4)] (hf := hf) (hb := by apply entryForm_of <;> decide +kernel) <;> decide +kernel,
   by decide +kernel, by decide +kernel⟩

theorem met_HostMessages_1221 (hf : Config.ringFull z12.freeCtr = false) :
    TakesEntry Instr.hostAbort z12 9 ∧ z12.gang (BitVec.ofNat 32 (bytesAt (entryOf z12 9) 32 4)) = none ∧
    (¬(BitVec.ofNat 32 (bytesAt (entryOf z12 9) 32 4), 9) ∈ z12.sched.aborted) ∧
    (∃ (k : Fin 5), ∃ (x : Queued), x ∈ z12.sched.q[k] ∧ x.handle = BitVec.ofNat 32 (bytesAt (entryOf z12 9) 32 4)) :=
  ⟨by apply takes_of 3 [(32, 4)] (hf := hf) (hb := by apply entryForm_of <;> decide +kernel) <;> decide +kernel,
   by decide +kernel, by decide +kernel, by decide +kernel⟩

theorem met_HostMessages_1222 (hf : Config.ringFull z13.freeCtr = false) :
    TakesEntry Instr.hostAbort z13 9 ∧ z13.gang (BitVec.ofNat 32 (bytesAt (entryOf z13 9) 32 4)) = none ∧
    (¬(BitVec.ofNat 32 (bytesAt (entryOf z13 9) 32 4), 9) ∈ z13.sched.aborted) ∧
    (∀ (k : Fin 5) (x : Queued), x ∈ z13.sched.q[k] → x.handle ≠ BitVec.ofNat 32 (bytesAt (entryOf z13 9) 32 4)) :=
  ⟨by apply takes_of 3 [(32, 4)] (hf := hf) (hb := by apply entryForm_of <;> decide +kernel) <;> decide +kernel,
   by decide +kernel, by decide +kernel, by decide +kernel⟩

theorem met_HostMessages_21122221 :
    List.filter (fun (x : Gang) => !x.aborts.isEmpty) z14.sched.gangs = [ga] ∧ z14.gang ga.handle = some ga ∧
    (∀ (r : Rank), r ∈ ga.ranks → MemberEnds z14 ga r) :=
  ⟨by decide +kernel, by decide +kernel, by simp -failIfUnchanged only [MemberEnds, ↓list_all_bv, ↓list_all_bv2] <;> decide +kernel⟩

theorem met_HostMessages_211222221 :
    List.filter (fun (x : Gang) => !x.aborts.isEmpty) z14.sched.gangs = [ga] ∧ z14.gang ga.handle = some ga ∧
    (∀ (r : Rank), r ∈ ga.ranks → MemberEnds z14 ga r) :=
  ⟨by decide +kernel, by decide +kernel, by simp -failIfUnchanged only [MemberEnds, ↓list_all_bv, ↓list_all_bv2] <;> decide +kernel⟩

theorem met_HostMessages_2112222222 :
    List.filter (fun (x : Gang) => !x.aborts.isEmpty) z14.sched.gangs = [ga] ∧ z14.gang ga.handle = some ga ∧
    (∀ (r : Rank), r ∈ ga.ranks → MemberEnds z14 ga r) :=
  ⟨by decide +kernel, by decide +kernel, by simp -failIfUnchanged only [MemberEnds, ↓list_all_bv, ↓list_all_bv2] <;> decide +kernel⟩

theorem met_HostMessages_22211 (hf : Config.ringFull z15.freeCtr = false) :
    TakesEntry Instr.hostSend z15 9 ∧ FreeHostSlot z15 0 ∧
    ((32 : Nat) ≤ bytesAt (entryOf z15 9) 42 1 ∨ bytesAt (entryOf z15 9) 42 1 % 16 = 15 ∨ 1048576 < bytesAt (entryOf z15 9) 44 4) :=
  ⟨by apply takes_of 4 [(32, 4), (36, 4), (40, 2), (42, 1), (44, 4), (48, 8)] (hf := hf) (hb := by apply entryForm_of <;> decide +kernel) <;> decide +kernel,
   by simp -failIfUnchanged only [FreeHostSlot, ↓opt_all, ↓opt_ex, ↓opt_is] <;> decide +kernel, by decide +kernel⟩

theorem met_HostMessages_222121 (hf : Config.ringFull z16.freeCtr = false) :
    TakesEntry Instr.hostSend z16 9 ∧ FreeHostSlot z16 0 ∧ bytesAt (entryOf z16 9) 42 1 < 32 ∧
    bytesAt (entryOf z16 9) 42 1 % 16 ≠ 15 ∧ bytesAt (entryOf z16 9) 44 (4 : Nat) ≤ 1048576 ∧
    destOk (hostXfer z16 9 0 false).peer = true ∧ (∀ (u : Kept), u ∈ z16.host.kept → u.pkt.dst ≠ (hostXfer z16 9 0 false).peer) :=
  ⟨by apply takes_of 4 [(32, 4), (36, 4), (40, 2), (42, 1), (44, 4), (48, 8)] (hf := hf) (hb := by apply entryForm_of <;> decide +kernel) <;> decide +kernel,
   by simp -failIfUnchanged only [FreeHostSlot, ↓opt_all, ↓opt_ex, ↓opt_is] <;> decide +kernel, by decide +kernel,
   by decide +kernel, by decide +kernel, by decide +kernel, by decide +kernel⟩

theorem met_HostMessages_222122 (hf : Config.ringFull z17.freeCtr = false) :
    TakesEntry Instr.hostSend z17 9 ∧ FreeHostSlot z17 0 ∧ bytesAt (entryOf z17 9) 42 1 < 32 ∧
    bytesAt (entryOf z17 9) 42 1 % 16 ≠ 15 ∧ bytesAt (entryOf z17 9) 44 (4 : Nat) ≤ 1048576 ∧
    destOk (hostXfer z17 9 0 false).peer = false :=
  ⟨by apply takes_of 4 [(32, 4), (36, 4), (40, 2), (42, 1), (44, 4), (48, 8)] (hf := hf) (hb := by apply entryForm_of <;> decide +kernel) <;> decide +kernel,
   by simp -failIfUnchanged only [FreeHostSlot, ↓opt_all, ↓opt_ex, ↓opt_is] <;> decide +kernel, by decide +kernel,
   by decide +kernel, by decide +kernel, by decide +kernel⟩

theorem met_HostMessages_222211 (hf : Config.ringFull z18.freeCtr = false) :
    TakesEntry Instr.hostRecv z18 9 ∧ FreeHostSlot z18 0 ∧ 1048576 < (hostXfer z18 9 0 true).len :=
  ⟨by apply takes_of 5 [(32, 4), (36, 4), (40, 4), (44, 2), (48, 4), (56, 8)] (hf := hf) (hb := by apply entryForm_of <;> decide +kernel) <;> decide +kernel,
   by simp -failIfUnchanged only [FreeHostSlot, ↓opt_all, ↓opt_ex, ↓opt_is] <;> decide +kernel, by decide +kernel⟩

theorem met_HostMessages_2222121 (hf : Config.ringFull z19.freeCtr = false) :
    TakesEntry Instr.hostRecv z19 9 ∧ FreeHostSlot z19 0 ∧ (hostXfer z19 9 0 true).len ≤ 1048576 ∧
    (∀ (h : Env × Option Nat), h ∈ z19.host.headers → ¬(fun (h : Env × Option Nat) => Matches { src := (hostXfer z19 9 0 true).peer, tag := (hostXfer z19 9 0 true).mtag, tmask := (hostXfer z19 9 0 true).tmask, group := (hostXfer z19 9 0 true).group, buf := 0, cap := 0, xid := 0 : Posted } h.fst) h) ∧
    z19.host.posted.length < 1024 :=
  ⟨by apply takes_of 5 [(32, 4), (36, 4), (40, 4), (44, 2), (48, 4), (56, 8)] (hf := hf) (hb := by apply entryForm_of <;> decide +kernel) <;> decide +kernel,
   by simp -failIfUnchanged only [FreeHostSlot, ↓opt_all, ↓opt_ex, ↓opt_is] <;> decide +kernel, by decide +kernel,
   by simp -failIfUnchanged only [Matches] <;> decide +kernel, by decide +kernel⟩

theorem met_HostMessages_22221221 (hf : Config.ringFull z20.freeCtr = false) :
    TakesEntry Instr.hostRecv z20 9 ∧ FreeHostSlot z20 0 ∧ (hostXfer z20 9 0 true).len ≤ 1048576 ∧
    (∀ (h : Env × Option Nat), h ∈ z20.host.headers → ¬(fun (h : Env × Option Nat) => Matches { src := (hostXfer z20 9 0 true).peer, tag := (hostXfer z20 9 0 true).mtag, tmask := (hostXfer z20 9 0 true).tmask, group := (hostXfer z20 9 0 true).group, buf := 0, cap := 0, xid := 0 : Posted } h.fst) h) ∧
    (1024 : Nat) ≤ z20.host.posted.length :=
  ⟨by apply takes_of 5 [(32, 4), (36, 4), (40, 4), (44, 2), (48, 4), (56, 8)] (hf := hf) (hb := by apply entryForm_of <;> decide +kernel) <;> decide +kernel,
   by simp -failIfUnchanged only [FreeHostSlot, ↓opt_all, ↓opt_ex, ↓opt_is] <;> decide +kernel, by decide +kernel,
   by simp -failIfUnchanged only [Matches] <;> decide +kernel, by decide +kernel⟩

theorem met_HostMessages_222212221 (hf : Config.ringFull (rv 64 [(env0 8 3 4, none), (env0 7 3 70, some 1)]).freeCtr = false) :
    TakesEntry Instr.hostRecv (rv 64 [(env0 8 3 4, none), (env0 7 3 70, some 1)]) 9 ∧
    FreeHostSlot (rv 64 [(env0 8 3 4, none), (env0 7 3 70, some 1)]) 0 ∧
    (hostXfer (rv 64 [(env0 8 3 4, none), (env0 7 3 70, some 1)]) 9 0 true).len ≤ 1048576 ∧
    IsFirst (rv 64 [(env0 8 3 4, none), (env0 7 3 70, some 1)]).host.headers (fun (h : Env × Option Nat) => Matches { src := (hostXfer (rv 64 [(env0 8 3 4, none), (env0 7 3 70, some 1)]) 9 0 true).peer, tag := (hostXfer (rv 64 [(env0 8 3 4, none), (env0 7 3 70, some 1)]) 9 0 true).mtag, tmask := (hostXfer (rv 64 [(env0 8 3 4, none), (env0 7 3 70, some 1)]) 9 0 true).tmask, group := (hostXfer (rv 64 [(env0 8 3 4, none), (env0 7 3 70, some 1)]) 9 0 true).group, buf := 0, cap := 0, xid := 0 : Posted } h.fst) (env0 7 3 70, some 1) :=
  ⟨by apply takes_of 5 [(32, 4), (36, 4), (40, 4), (44, 2), (48, 4), (56, 8)] (hf := hf) (hb := by apply entryForm_of <;> decide +kernel) <;> decide +kernel,
   by simp -failIfUnchanged only [FreeHostSlot, ↓opt_all, ↓opt_ex, ↓opt_is] <;> decide +kernel, by decide +kernel,
   by simp -failIfUnchanged only [Matches, first_iff] <;> decide +kernel⟩

theorem met_HostMessages_2222122221 (hf : Config.ringFull (rv 0 [(env0 8 3 4, none), (env0 7 3 70, none)]).freeCtr = false) :
    TakesEntry Instr.hostRecv (rv 0 [(env0 8 3 4, none), (env0 7 3 70, none)]) 9 ∧
    FreeHostSlot (rv 0 [(env0 8 3 4, none), (env0 7 3 70, none)]) 0 ∧
    (hostXfer (rv 0 [(env0 8 3 4, none), (env0 7 3 70, none)]) 9 0 true).len ≤ 1048576 ∧
    min (env0 7 3 70).len (hostXfer (rv 0 [(env0 8 3 4, none), (env0 7 3 70, none)]) 9 0 true).len = 0 ∧
    IsFirst (rv 0 [(env0 8 3 4, none), (env0 7 3 70, none)]).host.headers (fun (h : Env × Option Nat) => Matches { src := (hostXfer (rv 0 [(env0 8 3 4, none), (env0 7 3 70, none)]) 9 0 true).peer, tag := (hostXfer (rv 0 [(env0 8 3 4, none), (env0 7 3 70, none)]) 9 0 true).mtag, tmask := (hostXfer (rv 0 [(env0 8 3 4, none), (env0 7 3 70, none)]) 9 0 true).tmask, group := (hostXfer (rv 0 [(env0 8 3 4, none), (env0 7 3 70, none)]) 9 0 true).group, buf := 0, cap := 0, xid := 0 : Posted } h.fst) (env0 7 3 70, none) :=
  ⟨by apply takes_of 5 [(32, 4), (36, 4), (40, 4), (44, 2), (48, 4), (56, 8)] (hf := hf) (hb := by apply entryForm_of <;> decide +kernel) <;> decide +kernel,
   by simp -failIfUnchanged only [FreeHostSlot, ↓opt_all, ↓opt_ex, ↓opt_is] <;> decide +kernel, by decide +kernel,
   by decide +kernel, by simp -failIfUnchanged only [Matches, first_iff] <;> decide +kernel⟩

theorem met_HostMessages_2222122222 (hf : Config.ringFull (rv 64 [(env0 8 3 4, none), (env0 7 3 70, none)]).freeCtr = false) :
    TakesEntry Instr.hostRecv (rv 64 [(env0 8 3 4, none), (env0 7 3 70, none)]) 9 ∧
    FreeHostSlot (rv 64 [(env0 8 3 4, none), (env0 7 3 70, none)]) 0 ∧
    (hostXfer (rv 64 [(env0 8 3 4, none), (env0 7 3 70, none)]) 9 0 true).len ≤ 1048576 ∧
    0 < min (env0 7 3 70).len (hostXfer (rv 64 [(env0 8 3 4, none), (env0 7 3 70, none)]) 9 0 true).len ∧
    IsFirst (rv 64 [(env0 8 3 4, none), (env0 7 3 70, none)]).host.headers (fun (h : Env × Option Nat) => Matches { src := (hostXfer (rv 64 [(env0 8 3 4, none), (env0 7 3 70, none)]) 9 0 true).peer, tag := (hostXfer (rv 64 [(env0 8 3 4, none), (env0 7 3 70, none)]) 9 0 true).mtag, tmask := (hostXfer (rv 64 [(env0 8 3 4, none), (env0 7 3 70, none)]) 9 0 true).tmask, group := (hostXfer (rv 64 [(env0 8 3 4, none), (env0 7 3 70, none)]) 9 0 true).group, buf := 0, cap := 0, xid := 0 : Posted } h.fst) (env0 7 3 70, none) :=
  ⟨by apply takes_of 5 [(32, 4), (36, 4), (40, 4), (44, 2), (48, 4), (56, 8)] (hf := hf) (hb := by apply entryForm_of <;> decide +kernel) <;> decide +kernel,
   by simp -failIfUnchanged only [FreeHostSlot, ↓opt_all, ↓opt_ex, ↓opt_is] <;> decide +kernel, by decide +kernel,
   by decide +kernel, by simp -failIfUnchanged only [Matches, first_iff] <;> decide +kernel⟩

theorem met_HostMessages_22222122 (hf : Config.ringFull z21.freeCtr = false) :
    TakesEntry Instr.hostCancel z21 9 ∧
    (∀ (x : HXfer), ¬(fun (x : HXfer) => z21.host.xfer.find (bytesAt (entryOf z21 9) 32 4 % 4096) = some x ∧ (bytesAt (entryOf z21 9) 32 4 % 4096 + 4096 * x.seq.toNat) % 2 ^ 32 = bytesAt (entryOf z21 9) 32 4 ∧ x.recv = true) x) :=
  ⟨by apply takes_of 6 [(32, 4)] (hf := hf) (hb := by apply entryForm_of <;> decide +kernel) <;> decide +kernel,
   by simp -failIfUnchanged only [↓opt_not] <;> decide +kernel⟩

theorem met_HostMessages_2222221 (hf : Config.ringFull z22.freeCtr = false) :
    TakesEntry Instr.hostHwin z22 9 ∧ (z22.tile (keyOf (BitVec.ofNat 32 (bytesAt (entryOf z22 9) 32 4)))).isSpec = true :=
  ⟨by apply takes_of 7 [(32, 4)] (hf := hf) (hb := by apply entryForm_of <;> decide +kernel) <;> decide +kernel,
   by decide +kernel⟩

theorem met_HostMessages_22222221 (hf : Config.ringFull z23.freeCtr = false) :
    TakesEntry Instr.hostHwin z23 9 ∧ (z23.tile (keyOf (BitVec.ofNat 32 (bytesAt (entryOf z23 9) 32 4)))).isSpec = false ∧
    z23.isLocal (BitVec.ofNat 32 (bytesAt (entryOf z23 9) 32 4)) = true ∧
    ((∃ (v : Saved), v ∈ z23.sched.saves ∧ v.rank = BitVec.ofNat 32 (bytesAt (entryOf z23 9) 32 4)) ∨ (z23.tile (keyOf (BitVec.ofNat 32 (bytesAt (entryOf z23 9) 32 4)))).thr.st = ThreadSt.suspended) :=
  ⟨by apply takes_of 7 [(32, 4)] (hf := hf) (hb := by apply entryForm_of <;> decide +kernel) <;> decide +kernel,
   by decide +kernel, by decide +kernel, by decide +kernel⟩

theorem met_HostMessages_222222221 (hf : Config.ringFull z24.freeCtr = false) :
    TakesEntry Instr.hostHwin z24 9 ∧ (z24.tile (keyOf (BitVec.ofNat 32 (bytesAt (entryOf z24 9) 32 4)))).isSpec = false ∧
    (z24.isLocal (BitVec.ofNat 32 (bytesAt (entryOf z24 9) 32 4)) = false ∨ (∀ (v : Saved), v ∈ z24.sched.saves → v.rank ≠ BitVec.ofNat 32 (bytesAt (entryOf z24 9) 32 4)) ∧ (z24.tile (keyOf (BitVec.ofNat 32 (bytesAt (entryOf z24 9) 32 4)))).thr.st = ThreadSt.none) :=
  ⟨by apply takes_of 7 [(32, 4)] (hf := hf) (hb := by apply entryForm_of <;> decide +kernel) <;> decide +kernel,
   by decide +kernel, by decide +kernel⟩

theorem met_HostMessages_222222222 (hf : Config.ringFull z25.freeCtr = false) :
    TakesEntry Instr.hostHwin z25 9 ∧ (z25.tile (keyOf (BitVec.ofNat 32 (bytesAt (entryOf z25 9) 32 4)))).isSpec = false ∧
    z25.isLocal (BitVec.ofNat 32 (bytesAt (entryOf z25 9) 32 4)) = true ∧
    (∀ (v : Saved), v ∈ z25.sched.saves → v.rank ≠ BitVec.ofNat 32 (bytesAt (entryOf z25 9) 32 4)) ∧
    (z25.tile (keyOf (BitVec.ofNat 32 (bytesAt (entryOf z25 9) 32 4)))).thr.st ≠ ThreadSt.suspended ∧
    (z25.tile (keyOf (BitVec.ofNat 32 (bytesAt (entryOf z25 9) 32 4)))).thr.st ≠ ThreadSt.none :=
  ⟨by apply takes_of 7 [(32, 4)] (hf := hf) (hb := by apply entryForm_of <;> decide +kernel) <;> decide +kernel,
   by decide +kernel, by decide +kernel, by decide +kernel, by decide +kernel, by decide +kernel⟩

theorem met_HostMessages_221 (hf : Config.ringFull zFull.freeCtr = false) :
    TakesEntry .hostSend zFull 9 ∧ ∀ k < 4096, ∃ x, zFull.host.xfer.find k = some x ∧ x.used = true := by
  refine ⟨by apply takes_of 4 [(32, 4), (36, 4), (40, 2), (42, 1), (44, 4), (48, 8)] (hf := hf) (hb := by apply entryForm_of <;> decide +kernel) <;> decide +kernel,
    fun k hk => ⟨⟨true, 3, true, 11, 5, 0x5000, 64, 7, 3, 0xF, 10, 0, false, false, false⟩, ?_, rfl⟩⟩
  rw [zFull_xfer]
  exact xs_all k hk

theorem met_HostMessages_212 :
    zOpen.sched.gangs.filter (fun x => !x.aborts.isEmpty) = [ga] ∧ zOpen.gang ga.handle = some ga ∧ 5 ∈ ga.ranks ∧
      ¬ MemberEnds zOpen ga 5 ∧ (zOpen.tile (keyOf 5)).thr.gang = some ga.handle :=
  ⟨by decide +kernel, by decide +kernel, by decide +kernel, by simp only [MemberEnds] <;> decide +kernel, by decide +kernel⟩

end Entries

namespace Ends

def pr (en := true) (head := 15) (tail : BitVec 12 := 3) : Pair := ⟨0x10000, 0x20000, 4, en, tail, head, 15, true⟩

def ent (kind tag : Nat) (body : List (Nat × Nat)) : List Byte := bytesOf (kind + 2^16*tag + (body.map fun b => 2^(8*b.1)*b.2).sum) 256
def hS (e : List Byte) (p : Pair := pr) : State := { st tile with cur := 9, tiles := [(5, { tile with thr := { tile.thr with gang := some 4 } })], host := { HostSt.reset with pair := HostSt.reset.pair.set 9 p, mem := (0x40, 9) :: (e.zipIdx.filter (fun x => x.1 != 0)).map fun x => (0x10000 + 256*15 + x.2, x.1), hampBase := 0x40 } }

def hx (recv used : Bool) : HXfer := ⟨used, 3, recv, 11, 5, 0x5000, 64, 7, 3, 0xF, 10, 0, false, false, false⟩
def cS (x : HXfer) (post : List Nat) : State := let s := hS (ent 6 7 [(32, 2 + 4096*3)]) ; { s with host := { s.host with xfer := [(2, x)], posted := post, pair := s.host.pair.set 11 (pr true 3 3) } }

theorem met_HostMessages_2222211 (hf : Config.ringFull (cS (hx true true) [4, 2]).freeCtr = false) :
    TakesEntry Instr.hostCancel (cS (hx true true) [4, 2]) 9 ∧
    (fun (x : HXfer) => (cS (hx true true) [4, 2]).host.xfer.find (bytesAt (entryOf (cS (hx true true) [4, 2]) 9) 32 4 % 4096) = some x ∧ (bytesAt (entryOf (cS (hx true true) [4, 2]) 9) 32 4 % 4096 + 4096 * x.seq.toNat) % 2 ^ 32 = bytesAt (entryOf (cS (hx true true) [4, 2]) 9) 32 4 ∧ x.recv = true) (hx true true) ∧
    (hx true true).used = true ∧
    bytesAt (entryOf (cS (hx true true) [4, 2]) 9) 32 4 % 4096 ∈ (cS (hx true true) [4, 2]).host.posted :=
  ⟨by apply takes_of 6 [(32, 4)] (hf := hf) (hb := by apply entryForm_of <;> decide +kernel) <;> decide +kernel,
   by decide +kernel, by decide +kernel, by decide +kernel⟩

theorem met_HostMessages_22222121 (hf : Config.ringFull (cS (hx true true) [4]).freeCtr = false) :
    TakesEntry Instr.hostCancel (cS (hx true true) [4]) 9 ∧
    (fun (x : HXfer) => (cS (hx true true) [4]).host.xfer.find (bytesAt (entryOf (cS (hx true true) [4]) 9) 32 4 % 4096) = some x ∧ (bytesAt (entryOf (cS (hx true true) [4]) 9) 32 4 % 4096 + 4096 * x.seq.toNat) % 2 ^ 32 = bytesAt (entryOf (cS (hx true true) [4]) 9) 32 4 ∧ x.recv = true) (hx true true) ∧
    ((hx true true).used = false ∨ ¬bytesAt (entryOf (cS (hx true true) [4]) 9) 32 4 % 4096 ∈ (cS (hx true true) [4]).host.posted) :=
  ⟨by apply takes_of 6 [(32, 4)] (hf := hf) (hb := by apply entryForm_of <;> decide +kernel) <;> decide +kernel,
   by decide +kernel, by decide +kernel⟩

end Ends

end Sys2Proof.Tests
end

