-- ==== Sys2Proof/Tests/MetMatrix.lean ====
section
/-!
SUPPORT. States that meet the hypotheses of the statements about the matrix pipes: `met_<Obligation>_<path>` meets those of the
clause at that place of the statement (1: the left side of a conjunction, 2: the right side).
-/

set_option linter.unusedVariables false
set_option linter.unusedSimpArgs false

namespace Sys2Proof.Tests

set_option Elab.async false

open Machine

namespace Queue

def rec_ (base et : Nat) (ext : List Nat) (str : List Int) (pad : Bool := false) (pv : Nat := 0) : List Byte :=
  bytesOf (base + 2^20*et + 2^24*(ext.length-1) + (if pad then 2^26 else 0) + (ext.zipIdx.map fun p => 2^(32+16*p.2)*p.1).sum + (str.zipIdx.map fun p => 2^(96+32*p.2)*(p.1 % 2^32).toNat).sum + 2^224*pv) 32

def rnd (n : Nat) : List Byte := (List.range n).map fun i => BitVec.ofNat 8 (i*i*37 + 11*i + 3)
def mT (rc : List Byte) (fmt : BitVec 11) (s1 : W64 := 0x100) (integer := false) : Tile := let t := withS [s1, 0x2000, 0x2060] tile; { t with spm := Mem.write (Mem.write [] 0x100 rc) 0x2000 (rnd 8), csr := { t.csr with fmt := fmt, hampbase := 0x40000, hampsize := 0x4000 }, mat := { t.mat with w := t.mat.w.set 1 { WBuf.reset with integer := integer } } }

def R := rec_ 0x2000 2 [5,3] [2,32]
def busy (t : Tile) (p : MatOp) : Tile := { t with mat := t.mat.setPipe p.pipe [⟨p, 0x22, 1, 0, some 5, 0, false⟩] }

def z1 : State := (st (busy (mT R 0x22) (.mzero 1)))
def z2 : State := (st (mT R 0x22))

def z3 : State := (st (mT R 0x22 0x108))
def z4 : State := (st (mT R 0x22 0xFFFF0))

def z5 : State := (st (mT (rec_ 0x2000 5 [5,3] [2,32]) 0x22))
def z6 : State := (st (mT (rec_ 0x2000 2 [5,3] [2,-32000]) 0x22))

def z7 : State := (st (mT (rec_ 0x2001 2 [5,3] [2,32]) 0x22))
def z8 : State := (st (mT R 0x22 0x100 true))

def z9 : State := (st (mT R 0x22 0x101))
def z10 : State := (st (mT R 0x22 0xFFFC0))

def z11 : State := (st (mT R 0x22 0x1FC0))

theorem met_MatrixOpsQueue_11 :
    matIssue z1 (Instr.mzero p 1) = some (p, MatOp.mzero 1, 0) ∧ (¬PipesFree z1.t.mat (MatOp.mzero 1)) :=
  ⟨rfl, by simp -failIfUnchanged only [PipesFree, ↓opt_all, ↓opt_all2, ↓list_all_bv, ↓list_all_bv2] <;> decide +kernel⟩

theorem met_MatrixOpsQueue_12 :
    matIssue z2 (Instr.mma p 3 1 (Reg.s 1)) = some (p, MatOp.mma 3 1 (recordAt z2 (Reg.s 1)), 2) ∧
    PipesFree z2.t.mat (MatOp.mma 3 1 (recordAt z2 (Reg.s 1))) ∧ z2.t.isSpec = false ∧ matChecks z2 (Instr.mma p 3 1 (Reg.s 1)) :=
  ⟨rfl, by simp -failIfUnchanged only [PipesFree, ↓opt_all, ↓opt_all2, ↓list_all_bv, ↓list_all_bv2] <;> decide +kernel, by decide +kernel,
   by simp -failIfUnchanged only [matChecks, RecordThere, RecordForm, WideThere] <;> decide +kernel⟩

theorem met_MatrixOpsQueue_211 :
    matIssue z3 (Instr.mld p 1 (Reg.s 1)) = some (p, MatOp.mld 1 (recordAt z3 (Reg.s 1)), 2) ∧
    recordOp (Instr.mld p 1 (Reg.s 1)) = some (Reg.s 1, [1, 2]) ∧ PipesFree z3.t.mat (MatOp.mld 1 (recordAt z3 (Reg.s 1))) ∧
    z3.t.isSpec = false ∧ BitVec.toNat (z3.rdS (Reg.s 1)) % 16 ≠ 0 :=
  ⟨rfl, by decide +kernel, by simp -failIfUnchanged only [PipesFree, ↓opt_all, ↓opt_all2, ↓list_all_bv, ↓list_all_bv2] <;> decide +kernel,
   by decide +kernel, by decide +kernel⟩

theorem met_MatrixOpsQueue_2121 :
    matIssue z4 (Instr.mld p 1 (Reg.s 1)) = some (p, MatOp.mld 1 (recordAt z4 (Reg.s 1)), 2) ∧
    recordOp (Instr.mld p 1 (Reg.s 1)) = some (Reg.s 1, [1, 2]) ∧ PipesFree z4.t.mat (MatOp.mld 1 (recordAt z4 (Reg.s 1))) ∧
    z4.t.isSpec = false ∧ BitVec.toNat (z4.rdS (Reg.s 1)) % 16 = 0 ∧
    (1048576 < BitVec.toNat (z4.rdS (Reg.s 1)) + 32 ∨ z4.t.hitsHamper ↑(BitVec.toNat (z4.rdS (Reg.s 1))) (32 : Int) = true) :=
  ⟨rfl, by decide +kernel, by simp -failIfUnchanged only [PipesFree, ↓opt_all, ↓opt_all2, ↓list_all_bv, ↓list_all_bv2] <;> decide +kernel,
   by decide +kernel, by decide +kernel, by decide +kernel⟩

theorem met_MatrixOpsQueue_21221 :
    matIssue z5 (Instr.mst p 1 (Reg.s 1)) = some (p, MatOp.mst 1 (recordAt z5 (Reg.s 1)), 2) ∧
    recordOp (Instr.mst p 1 (Reg.s 1)) = some (Reg.s 1, [1, 2, 3, 4]) ∧
    PipesFree z5.t.mat (MatOp.mst 1 (recordAt z5 (Reg.s 1))) ∧ z5.t.isSpec = false ∧ RecordThere z5 (Reg.s 1) ∧
    (¬RecordForm (recordAt z5 (Reg.s 1)) [1, 2, 3, 4]) :=
  ⟨rfl, by decide +kernel, by simp -failIfUnchanged only [PipesFree, ↓opt_all, ↓opt_all2, ↓list_all_bv, ↓list_all_bv2] <;> decide +kernel,
   by decide +kernel, by simp -failIfUnchanged only [RecordThere] <;> decide +kernel,
   by simp -failIfUnchanged only [RecordForm] <;> decide +kernel⟩

theorem met_MatrixOpsQueue_212221 :
    matIssue z6 (Instr.mld p 1 (Reg.s 1)) = some (p, MatOp.mld 1 (recordAt z6 (Reg.s 1)), 2) ∧
    recordOp (Instr.mld p 1 (Reg.s 1)) = some (Reg.s 1, [1, 2]) ∧ PipesFree z6.t.mat (MatOp.mld 1 (recordAt z6 (Reg.s 1))) ∧
    z6.t.isSpec = false ∧ RecordThere z6 (Reg.s 1) ∧ RecordForm (recordAt z6 (Reg.s 1)) [1, 2] ∧
    ∃ (e : Int), z6.t.spanBad (recordAt z6 (Reg.s 1)) = some e :=
  ⟨rfl, by decide +kernel, by simp -failIfUnchanged only [PipesFree, ↓opt_all, ↓opt_all2, ↓list_all_bv, ↓list_all_bv2] <;> decide +kernel,
   by decide +kernel, by simp -failIfUnchanged only [RecordThere] <;> decide +kernel,
   by simp -failIfUnchanged only [RecordForm] <;> decide +kernel, by simp -failIfUnchanged only [↓opt_is] <;> decide +kernel⟩

theorem met_MatrixOpsQueue_212222 :
    matIssue z7 (Instr.mld p 1 (Reg.s 1)) = some (p, MatOp.mld 1 (recordAt z7 (Reg.s 1)), 2) ∧
    recordOp (Instr.mld p 1 (Reg.s 1)) = some (Reg.s 1, [1, 2]) ∧ PipesFree z7.t.mat (MatOp.mld 1 (recordAt z7 (Reg.s 1))) ∧
    z7.t.isSpec = false ∧ RecordThere z7 (Reg.s 1) ∧ RecordForm (recordAt z7 (Reg.s 1)) [1, 2] ∧
    z7.t.spanBad (recordAt z7 (Reg.s 1)) = none ∧ ∃ (e : Int), (recordAt z7 (Reg.s 1)).alignBad = some e :=
  ⟨rfl, by decide +kernel, by simp -failIfUnchanged only [PipesFree, ↓opt_all, ↓opt_all2, ↓list_all_bv, ↓list_all_bv2] <;> decide +kernel,
   by decide +kernel, by simp -failIfUnchanged only [RecordThere] <;> decide +kernel,
   by simp -failIfUnchanged only [RecordForm] <;> decide +kernel, by decide +kernel,
   by simp -failIfUnchanged only [↓opt_is] <;> decide +kernel⟩

theorem met_MatrixOpsQueue_2211 :
    z8.t.isSpec = false ∧ PipesFree z8.t.mat (MatOp.mma 3 1 (recordAt z8 (Reg.s 1))) ∧ RecordThere z8 (Reg.s 1) ∧
    RecordForm (recordAt z8 (Reg.s 1)) [z8.t.csr.fmt.toNat % 16] ∧ z8.t.spanBad (recordAt z8 (Reg.s 1)) = none ∧
    (recordAt z8 (Reg.s 1)).alignBad = none ∧ z8.t.mat.w[(1 : Fin 2)].integer = true :=
  ⟨by decide +kernel, by simp -failIfUnchanged only [PipesFree, ↓opt_all, ↓opt_all2, ↓list_all_bv, ↓list_all_bv2] <;> decide +kernel,
   by simp -failIfUnchanged only [RecordThere] <;> decide +kernel,
   by simp -failIfUnchanged only [RecordForm] <;> decide +kernel, by decide +kernel, by decide +kernel, by decide +kernel⟩

theorem met_MatrixOpsQueue_2212 :
    z2.t.isSpec = false ∧ PipesFree z2.t.mat (MatOp.mma 3 1 (recordAt z2 (Reg.s 1))) ∧ RecordThere z2 (Reg.s 1) ∧
    RecordForm (recordAt z2 (Reg.s 1)) [z2.t.csr.fmt.toNat % 16] ∧ z2.t.spanBad (recordAt z2 (Reg.s 1)) = none ∧
    (recordAt z2 (Reg.s 1)).alignBad = none ∧ z2.t.mat.w[(1 : Fin 2)].integer = false :=
  ⟨by decide +kernel, by simp -failIfUnchanged only [PipesFree, ↓opt_all, ↓opt_all2, ↓list_all_bv, ↓list_all_bv2] <;> decide +kernel,
   by simp -failIfUnchanged only [RecordThere] <;> decide +kernel,
   by simp -failIfUnchanged only [RecordForm] <;> decide +kernel, by decide +kernel, by decide +kernel, by decide +kernel⟩

theorem met_MatrixOpsQueue_2221 :
    z9.t.isSpec = false ∧ PipesFree z9.t.mat (MatOp.wld 1 true 0) ∧ (z9.t.csr.fmt.toNat / 16 % 16 = 14 → z9.t.csr.isapin = 3) ∧
    BitVec.toNat (z9.rdS (Reg.s 1)) % 16 ≠ 0 :=
  ⟨by decide +kernel, by simp -failIfUnchanged only [PipesFree, ↓opt_all, ↓opt_all2, ↓list_all_bv, ↓list_all_bv2] <;> decide +kernel,
   by decide +kernel, by decide +kernel⟩

theorem met_MatrixOpsQueue_222211 :
    matIssue z9 (Instr.lclr p (Reg.s 1)) = some (p, MatOp.lclr (BitVec.toNat (z9.rdS (Reg.s 1))), 0) ∧
    ∃ (x : Reg), wideOp (Instr.lclr p (Reg.s 1)) = some x ∧ PipesFree z9.t.mat (MatOp.lclr (BitVec.toNat (z9.rdS (Reg.s 1)))) ∧
    BitVec.toNat (z9.rdS x) % 16 ≠ 0 :=
  ⟨rfl, by simp -failIfUnchanged only [PipesFree, ↓opt_all, ↓opt_all2, ↓opt_ex, ↓opt_is, ↓list_all_bv, ↓list_all_bv2] <;> decide +kernel⟩

theorem met_MatrixOpsQueue_222212 :
    matIssue z10 (Instr.ladd p false (Reg.s 1) (Reg.v 3)) = some (p, MatOp.ladd (BitVec.toNat (z10.rdS (Reg.s 1))) false (z10.rdV 32 (Reg.v 3)) (z10.t.enables p), 0) ∧
    ∃ (x : Reg), wideOp (Instr.ladd p false (Reg.s 1) (Reg.v 3)) = some x ∧
    PipesFree z10.t.mat (MatOp.ladd (BitVec.toNat (z10.rdS (Reg.s 1))) false (z10.rdV 32 (Reg.v 3)) (z10.t.enables p)) ∧
    BitVec.toNat (z10.rdS x) % 16 = 0 ∧ z10.t.outside ↑(BitVec.toNat (z10.rdS x)) (80 : Int) = true :=
  ⟨rfl, by simp -failIfUnchanged only [PipesFree, ↓opt_all, ↓opt_all2, ↓opt_ex, ↓opt_is, ↓list_all_bv, ↓list_all_bv2] <;> decide +kernel⟩

theorem met_MatrixOpsQueue_22222 :
    PipesFree z11.t.mat (MatOp.lmerge 0 0) ∧ WideThere z11 (Reg.s 1) ∧ WideThere z11 (Reg.s 2) ∧
    BitVec.toNat (z11.rdS (Reg.s 1)) ≠ BitVec.toNat (z11.rdS (Reg.s 2)) ∧
    BitVec.toNat (z11.rdS (Reg.s 1)) < BitVec.toNat (z11.rdS (Reg.s 2)) + 80 ∧
    BitVec.toNat (z11.rdS (Reg.s 2)) < BitVec.toNat (z11.rdS (Reg.s 1)) + 80 :=
  ⟨by simp -failIfUnchanged only [PipesFree, ↓opt_all, ↓opt_all2, ↓list_all_bv, ↓list_all_bv2] <;> decide +kernel,
   by simp -failIfUnchanged only [WideThere] <;> decide +kernel, by simp -failIfUnchanged only [WideThere] <;> decide +kernel,
   by decide +kernel, by decide +kernel, by decide +kernel⟩

end Queue

namespace Pipe

def rec_ (base et : Nat) (ext : List Nat) (str : List Int) (pad : Bool := false) (pv : Nat := 0) : List Byte :=
  bytesOf (base + 2^20*et + 2^24*(ext.length-1) + (if pad then 2^26 else 0) + (ext.zipIdx.map fun p => 2^(32+16*p.2)*p.1).sum + (str.zipIdx.map fun p => 2^(96+32*p.2)*(p.1 % 2^32).toNat).sum + 2^224*pv) 32

def shp (base et : Nat) (ext : List Nat) (str : List Int) : Shape := Shape.of (ofBytes (rec_ base et ext str))
def bfs (n : Nat) : List Byte := (List.range n).flatMap fun i => bytesOf (0x3F80 + (i * 37) % 128 + 0x8000 * (i % 3 % 2)) 2

def accs : Assoc W32 := (List.range 300).foldl (fun a i => a.put (3*4096 + i) (BitVec.ofNat 32 (0x3F800000 + i * 77777))) []
def wb : Assoc W16 := (List.range 1000).foldl (fun a i => a.put i (BitVec.ofNat 16 (0x3F80 + i * 3))) []

def sb : Assoc W16 := (List.range 512).foldl (fun a i => a.put i (BitVec.ofNat 16 (0x3F00 + i))) []
def qT (o : MatOp) (fmt : BitVec 11 := 0x22) (more : List PipeOp := []) (integer := false): Tile := let t := tile
  { t with spm := Mem.write [] 0x2000 (bfs 300), mat := { t.mat.setPipe o.pipe (⟨o, fmt, 1, 0, some 990, 0, false⟩ :: more) with acc := accs, w := t.mat.w.set 1 ⟨wb, sb, integer, true⟩ } }

def other : List PipeOp := [⟨.mzero 1, 0x22, 2,0, none, 0, false⟩]
def q0 (o : MatOp) : Tile := { tile with mat := { tile.mat.setPipe o.pipe [⟨o, 0x22, 1, 0, none, 0, false⟩] with acc := accs, w := tile.mat.w.set 1 ⟨wb, sb, false, true⟩ } }

def z1 : State := (st (q0 (.mma 3 1 (shp 0x2000 2 [5,3] [2,32]))))
def z2 : State := (st (qT (.mzero 3)))

def z3 : State := (st (qT (.mzero 3) 0x22 other))
def z4 : State := (st (qT (.mma 3 1 (shp 0x2000 2 [5,3] [2,32])) 0x22 other))

def z5 : State := (st (qT (.mld 3 (shp 0x2000 2 [5,3] [2,32])) 0x22 other))
def z6 : State := (st (qT (.mst 3 (shp 0x2000 2 [5,3] [2,32])) 0x22 other))

def z7 : State := (st (qT (.wld 1 true 0x2000) 0x22 other))
def z8 : State := (st (qT (.lclr 0x2000)))

theorem met_MatrixPipesRun_1 :
    ∃ (x : PipeOp) (x1 : List PipeOp), z1.t.mat.pipe Pipe.array = x :: x1 ∧ x.done = 0 ∧ x.start = none ∧
    z1.t.thr.preempt = Preempt.none :=
  by simp -failIfUnchanged only [↓cons_ex, ↓cons_is] <;> decide +kernel

theorem met_MatrixPipesRun_21 :
    ∃ (x : PipeOp) (x1 : List PipeOp), z2.t.mat.pipe Pipe.array = x :: x1 ∧ (x.start ≠ none ∨ z2.t.thr.preempt ≠ Preempt.none) :=
  by simp -failIfUnchanged only [↓cons_ex, ↓cons_is] <;> decide +kernel

theorem met_MatrixPipesRun_221 :
    PipeHead z3 Pipe.array { op := MatOp.mzero 3, fmt := 34, tag := 1, ready := 0, start := some 990, done := 0, spec := false : PipeOp } other (MatOp.mzero 3) :=
  by simp -failIfUnchanged only [PipeHead] <;> decide +kernel

theorem met_MatrixPipesRun_2221 :
    PipeHead z4 Pipe.array { op := MatOp.mma 3 1 (shp 8192 2 [5, 3] [(2 : Int), (32 : Int)]), fmt := 34, tag := 1, ready := 0, start := some 990, done := 0, spec := false : PipeOp } other (match none with | none => MatOp.mma 3 1 (shp 8192 2 [5, 3] [(2 : Int), (32 : Int)]) | some gs => MatOp.mmaw 3 1 gs (shp 8192 2 [5, 3] [(2 : Int), (32 : Int)])) ∧
    (1 : Nat) ≤ (shp 8192 2 [5, 3] [(2 : Int), (32 : Int)]).ext[0] ∧ (shp 8192 2 [5, 3] [(2 : Int), (32 : Int)]).ext[0] ≤ 128 ∧
    (shp 8192 2 [5, 3] [(2 : Int), (32 : Int)]).ext[1] ≤ 32 :=
  ⟨by simp -failIfUnchanged only [PipeHead] <;> decide +kernel, by decide +kernel, by decide +kernel, by decide +kernel⟩

theorem met_MatrixPipesRun_22221 :
    PipeHead z5 Pipe.array { op := MatOp.mld 3 (shp 8192 2 [5, 3] [(2 : Int), (32 : Int)]), fmt := 34, tag := 1, ready := 0, start := some 990, done := 0, spec := false : PipeOp } other (MatOp.mld 3 (shp 8192 2 [5, 3] [(2 : Int), (32 : Int)])) ∧
    (shp 8192 2 [5, 3] [(2 : Int), (32 : Int)]).ext[0] ≤ 128 ∧ (shp 8192 2 [5, 3] [(2 : Int), (32 : Int)]).ext[1] ≤ 32 :=
  ⟨by simp -failIfUnchanged only [PipeHead] <;> decide +kernel, by decide +kernel, by decide +kernel⟩

theorem met_MatrixPipesRun_222221 :
    PipeHead z6 Pipe.array { op := MatOp.mst 3 (shp 8192 2 [5, 3] [(2 : Int), (32 : Int)]), fmt := 34, tag := 1, ready := 0, start := some 990, done := 0, spec := false : PipeOp } other (MatOp.mst 3 (shp 8192 2 [5, 3] [(2 : Int), (32 : Int)])) ∧
    (1 : Nat) ≤ (shp 8192 2 [5, 3] [(2 : Int), (32 : Int)]).ext[0] ∧ (shp 8192 2 [5, 3] [(2 : Int), (32 : Int)]).ext[0] ≤ 128 ∧
    (shp 8192 2 [5, 3] [(2 : Int), (32 : Int)]).ext[1] ≤ 32 ∧ (shp 8192 2 [5, 3] [(2 : Int), (32 : Int)]).ndm1 = 1 ∧
    z6.t.spanBad (shp 8192 2 [5, 3] [(2 : Int), (32 : Int)]) = none :=
  ⟨by simp -failIfUnchanged only [PipeHead] <;> decide +kernel, by decide +kernel, by decide +kernel, by decide +kernel,
   by decide +kernel, by decide +kernel⟩

theorem met_MatrixPipesRun_2222221 :
    PipeHead z7 Pipe.weight { op := MatOp.wld 1 true 8192, fmt := 34, tag := 1, ready := 0, start := some 990, done := 0, spec := false : PipeOp } other (MatOp.wld 1 true 8192) :=
  by simp -failIfUnchanged only [PipeHead] <;> decide +kernel

theorem met_MatrixPipesRun_2222222 :
    PipeHead z8 Pipe.wide { op := MatOp.lclr 8192, fmt := 34, tag := 1, ready := 0, start := some 990, done := 0, spec := false : PipeOp } [] (MatOp.lclr 8192) ∧
    z8.t.isSpec = false :=
  ⟨by simp -failIfUnchanged only [PipeHead] <;> decide +kernel, by decide +kernel⟩

end Pipe

end Sys2Proof.Tests
end

