-- ==== Sys2Proof/Tests/MetMemory.lean ====
section
/-!
SUPPORT. States that meet the hypotheses of the statements about loads, stores and copies: `met_<Obligation>_<path>` meets those of the
clause at that place of the statement (1: the left side of a conjunction, 2: the right side).
-/

set_option linter.unusedVariables false
set_option linter.unusedSimpArgs false

namespace Sys2Proof.Tests

set_option Elab.async false

open Machine

namespace Access

def bytes (n : Nat) : List Byte := (List.range n).map fun i => BitVec.ofNat 8 (i*7+3)

def memT : Tile := { tile with spm := Mem.write [] 64 (bytes 300), csr := { tile.csr with hampbase := 0x4000, hampsize := 0x4000, swapbase := 0x10000 }, regs := { tile.regs with s := ((tile.regs.s.set 1 96).set 2 0x10010).set 3 0xFFFFFFFFFFFFFFF0, v := (tile.regs.v.set 1 (BitVec.ofNat 512 ((List.range 16).foldr (fun j a => (j*4 % 40) + 2^32 * a) 0))).set 2 (BitVec.ofNat 512 (2^511+12345678901234567890)), m := tile.regs.m.set 2 0x00000000000055AA } }
def ld (s : State) (sp : Bool) (a n : Nat) : W512 := BitVec.ofNat 512 (s.t.spmNat sp a n)

def m2 : Attr := ⟨0,0,3,0,0,2,false⟩
def gat (s : State) (a : Attr) (n : Nat) : W512 := BitVec.ofNat 512 (((List.range 16).map fun j => if (s.t.enables a).getLsbD j then s.t.spmNat false ((s.rdS (.s 1)).toNat + srcLane s 32 (.v 1) j) n else 0).foldr (fun x a => x + 2^(8*n) * a) 0)

def at1 (a : W64) : State := st { memT with regs := { memT.regs with s := memT.regs.s.set 1 a } }
def z1 : State := (st memT)

def z2 : State := (at1 0xFFFC0)
def z3 : State := (at1 0x3001)

def z4 : State := (at1 0xFFFF0)
def z5 : State := (at1 0x3002)

theorem met_LoadsIssue_11 :
    Accessible z1.t (BitVec.toInt (z1.rdS (Reg.s 1)) + BitVec.toInt (1 : BitVec 12) * (16 : Int)) 64 16 ∧
    z1.t.badWord (BitVec.toInt (z1.rdS (Reg.s 1)) + BitVec.toInt (1 : BitVec 12) * (16 : Int)).toNat 64 = none ∧
    z1.t.loadCount < 16 ∧
    (∀ (j : Nat), j < 64 → laneAt 8 (ld z1 false 112 64) j = BitVec.toNat (z1.t.spmByte z1.t.isSpec ((BitVec.toInt (z1.rdS (Reg.s 1)) + BitVec.toInt (1 : BitVec 12) * (16 : Int)).toNat + j))) :=
  ⟨by simp -failIfUnchanged only [Accessible] <;> decide +kernel, by decide +kernel, by decide +kernel, by decide +kernel⟩

theorem met_LoadsIssue_121 :
    Accessible z1.t (BitVec.toInt (z1.rdS (Reg.s 1)) + BitVec.toInt (2 : BitVec 9) * ↑(2 ^ BitVec.toNat (0 : BitVec 2))) (2 ^ BitVec.toNat (0 : BitVec 2)) (2 ^ BitVec.toNat (0 : BitVec 2)) ∧
    z1.t.badWord (BitVec.toInt (z1.rdS (Reg.s 1)) + BitVec.toInt (2 : BitVec 9) * ↑(2 ^ BitVec.toNat (0 : BitVec 2))).toNat (2 ^ BitVec.toNat (0 : BitVec 2)) = none ∧
    z1.t.loadCount < 16 ∧
    (∀ (j : Nat), j < 8 → (BitVec.signExtend 64 (memT.spmByte false 98)).toNat / 2 ^ (8 * j) % 256 = if j < 2 ^ BitVec.toNat (0 : BitVec 2) then BitVec.toNat (z1.t.spmByte z1.t.isSpec ((BitVec.toInt (z1.rdS (Reg.s 1)) + BitVec.toInt (2 : BitVec 9) * ↑(2 ^ BitVec.toNat (0 : BitVec 2))).toNat + j)) else if (true && BitVec.msb (z1.t.spmByte z1.t.isSpec ((BitVec.toInt (z1.rdS (Reg.s 1)) + BitVec.toInt (2 : BitVec 9) * ↑(2 ^ BitVec.toNat (0 : BitVec 2))).toNat + (2 ^ BitVec.toNat (0 : BitVec 2) - 1)))) = true then 255 else 0) ∧
    Reg.s 9 = Reg.s 9 :=
  ⟨by simp -failIfUnchanged only [Accessible] <;> decide +kernel, by decide +kernel, by decide +kernel, by decide +kernel,
   by decide +kernel⟩

theorem met_LoadsIssue_1221 :
    Accessible z1.t (BitVec.toInt (z1.rdS (Reg.s 1)) + BitVec.toInt (2 : BitVec 9) * ↑(2 ^ BitVec.toNat (1 : BitVec 2))) (2 ^ BitVec.toNat (1 : BitVec 2)) (2 ^ BitVec.toNat (1 : BitVec 2)) ∧
    z1.t.badWord (BitVec.toInt (z1.rdS (Reg.s 1)) + BitVec.toInt (2 : BitVec 9) * ↑(2 ^ BitVec.toNat (1 : BitVec 2))).toNat (2 ^ BitVec.toNat (1 : BitVec 2)) = none ∧
    z1.t.loadCount < 16 ∧
    (∀ (j : Nat), j < 8 → (BitVec.signExtend 64 (BitVec.ofNat 16 (memT.spmNat false 100 2))).toNat / 2 ^ (8 * j) % 256 = if j < 2 ^ BitVec.toNat (1 : BitVec 2) then BitVec.toNat (z1.t.spmByte z1.t.isSpec ((BitVec.toInt (z1.rdS (Reg.s 1)) + BitVec.toInt (2 : BitVec 9) * ↑(2 ^ BitVec.toNat (1 : BitVec 2))).toNat + j)) else if (true && BitVec.msb (z1.t.spmByte z1.t.isSpec ((BitVec.toInt (z1.rdS (Reg.s 1)) + BitVec.toInt (2 : BitVec 9) * ↑(2 ^ BitVec.toNat (1 : BitVec 2))).toNat + (2 ^ BitVec.toNat (1 : BitVec 2) - 1)))) = true then 255 else 0) ∧
    Reg.q 0 = Reg.q 0 :=
  ⟨by simp -failIfUnchanged only [Accessible] <;> decide +kernel, by decide +kernel, by decide +kernel, by decide +kernel,
   by decide +kernel⟩

theorem met_LoadsIssue_1222 :
    Accessible z1.t (BitVec.toInt (z1.rdS (Reg.s 1)) + BitVec.toInt (2 : BitVec 9) * ↑(2 ^ BitVec.toNat (2 : BitVec 2))) (2 ^ BitVec.toNat (2 : BitVec 2)) (2 ^ BitVec.toNat (2 : BitVec 2)) ∧
    z1.t.badWord (BitVec.toInt (z1.rdS (Reg.s 1)) + BitVec.toInt (2 : BitVec 9) * ↑(2 ^ BitVec.toNat (2 : BitVec 2))).toNat (2 ^ BitVec.toNat (2 : BitVec 2)) = none ∧
    z1.t.loadCount < 16 ∧
    (∀ (j : Nat), j < 8 → (BitVec.ofNat 64 (memT.spmNat false 104 4)).toNat / 2 ^ (8 * j) % 256 = if j < 2 ^ BitVec.toNat (2 : BitVec 2) then BitVec.toNat (z1.t.spmByte z1.t.isSpec ((BitVec.toInt (z1.rdS (Reg.s 1)) + BitVec.toInt (2 : BitVec 9) * ↑(2 ^ BitVec.toNat (2 : BitVec 2))).toNat + j)) else if (false && BitVec.msb (z1.t.spmByte z1.t.isSpec ((BitVec.toInt (z1.rdS (Reg.s 1)) + BitVec.toInt (2 : BitVec 9) * ↑(2 ^ BitVec.toNat (2 : BitVec 2))).toNat + (2 ^ BitVec.toNat (2 : BitVec 2) - 1)))) = true then 255 else 0) ∧
    Reg.zero = Reg.zero :=
  ⟨by simp -failIfUnchanged only [Accessible] <;> decide +kernel, by decide +kernel, by decide +kernel, by decide +kernel,
   by decide +kernel⟩

theorem met_LoadsIssue_2 :
    (∀ (j : Nat), j < 16 → (fun (j : Nat) => BitVec.getLsbD (z1.t.enables m2) j) j = true → Accessible z1.t ((fun (j : Nat) => BitVec.toInt (z1.rdS (Reg.s 1)) + ↑(srcLane z1 32 (Reg.v 1) j)) j) (widBytes Wid.n32) (widBytes Wid.n32) ∧ z1.t.badWord ((fun (j : Nat) => BitVec.toInt (z1.rdS (Reg.s 1)) + ↑(srcLane z1 32 (Reg.v 1) j)) j).toNat (widBytes Wid.n32) = none) ∧
    z1.t.loadCount < 16 ∧
    (∀ (j : Nat), j < 64 → laneAt 8 (gat z1 m2 4) j = if j < 16 * widBytes Wid.n32 ∧ (fun (j : Nat) => BitVec.getLsbD (z1.t.enables m2) j) (j / widBytes Wid.n32) = true then BitVec.toNat (z1.t.spmByte z1.t.isSpec (((fun (j : Nat) => BitVec.toInt (z1.rdS (Reg.s 1)) + ↑(srcLane z1 32 (Reg.v 1) j)) (j / widBytes Wid.n32)).toNat + j % widBytes Wid.n32)) else 0) :=
  ⟨by simp -failIfUnchanged only [Accessible] <;> decide +kernel, by decide +kernel, by decide +kernel⟩

theorem met_StoresWrite_11 :
    Accessible z1.t (BitVec.toInt (z1.rdS (Reg.s 1)) + BitVec.toInt (1 : BitVec 12) * (16 : Int)) 64 16 ∧
    MayStore z1.t [((BitVec.toInt (z1.rdS (Reg.s 1)) + BitVec.toInt (1 : BitVec 12) * (16 : Int)).toNat, 64)] :=
  ⟨by simp -failIfUnchanged only [Accessible] <;> decide +kernel,
   by simp -failIfUnchanged only [MayStore, ↓list_all_bv, ↓list_all_bv2] <;> decide +kernel⟩

theorem met_StoresWrite_12 :
    Accessible z1.t (BitVec.toInt (z1.rdS (Reg.s 1)) + BitVec.toInt (1 : BitVec 9) * ↑(2 ^ BitVec.toNat (2 : BitVec 2))) (2 ^ BitVec.toNat (2 : BitVec 2)) (2 ^ BitVec.toNat (2 : BitVec 2)) ∧
    MayStore z1.t [((BitVec.toInt (z1.rdS (Reg.s 1)) + BitVec.toInt (1 : BitVec 9) * ↑(2 ^ BitVec.toNat (2 : BitVec 2))).toNat, 2 ^ BitVec.toNat (2 : BitVec 2))] :=
  ⟨by simp -failIfUnchanged only [Accessible] <;> decide +kernel,
   by simp -failIfUnchanged only [MayStore, ↓list_all_bv, ↓list_all_bv2] <;> decide +kernel⟩

theorem met_StoresWrite_21 :
    Accessible z1.t (BitVec.toInt (z1.rdS (Reg.s 1)) + BitVec.toInt (1 : BitVec 10) * (16 : Int)) 64 16 ∧
    MayStore z1.t (List.map (fun (j : Nat) => ((BitVec.toInt (z1.rdS (Reg.s 1)) + BitVec.toInt (1 : BitVec 10) * (16 : Int)).toNat + widBytes Wid.n16 * j, widBytes Wid.n16)) (List.filter (fun (j : Nat) => BitVec.getLsbD (z1.t.enables m2) j) (List.range (64 / widBytes Wid.n16)))) :=
  ⟨by simp -failIfUnchanged only [Accessible] <;> decide +kernel,
   by simp -failIfUnchanged only [MayStore, ↓list_all_bv, ↓list_all_bv2] <;> decide +kernel⟩

theorem met_StoresWrite_22 :
    (∀ (j : Nat), j ∈ List.filter (fun (j : Nat) => BitVec.getLsbD (z1.t.enables m2) j) (List.range 16) → Accessible z1.t ((fun (j : Nat) => BitVec.toInt (z1.rdS (Reg.s 1)) + ↑(srcLane z1 32 (Reg.v 1) j)) j) (widBytes Wid.n16) (widBytes Wid.n16)) ∧
    MayStore z1.t (List.map (fun (j : Nat) => (((fun (j : Nat) => BitVec.toInt (z1.rdS (Reg.s 1)) + ↑(srcLane z1 32 (Reg.v 1) j)) j).toNat, widBytes Wid.n16)) (List.filter (fun (j : Nat) => BitVec.getLsbD (z1.t.enables m2) j) (List.range 16))) :=
  ⟨by simp -failIfUnchanged only [Accessible] <;> decide +kernel,
   by simp -failIfUnchanged only [MayStore, ↓list_all_bv, ↓list_all_bv2] <;> decide +kernel⟩

theorem met_AccessTraps_11 :
    ((1048528 : Int) < (0 : Int) ∨ (1048576 : Int) < (1048528 : Int) + 64 ∨ z2.t.hitsHamper (1048528 : Int) 64 = true) :=
  by decide +kernel

theorem met_AccessTraps_12 :
    (0 : Int) ≤ (12291 : Int) ∧ (12291 : Int) + ↑(2 : Nat) ≤ (1048576 : Int) ∧ z3.t.hitsHamper (12291 : Int) 2 = false ∧
    (12291 : Int) % 2 ≠ (0 : Int) :=
  by decide +kernel

theorem met_AccessTraps_21 :
    5 < 16 ∧ BitVec.getLsbD (z4.t.enables m2) 5 = true ∧
    (∀ (k : Nat), k < 5 → BitVec.getLsbD (z4.t.enables m2) k = true → Accessible z4.t ((fun (k : Nat) => BitVec.toInt (z4.rdS (Reg.s 1)) + ↑(srcLane z4 32 (Reg.v 1) k)) k) (widBytes Wid.n16) (widBytes Wid.n16)) ∧
    ((1048576 : Int) < (fun (k : Nat) => BitVec.toInt (z4.rdS (Reg.s 1)) + ↑(srcLane z4 32 (Reg.v 1) k)) 5 + ↑(widBytes Wid.n16) ∨ (fun (k : Nat) => BitVec.toInt (z4.rdS (Reg.s 1)) + ↑(srcLane z4 32 (Reg.v 1) k)) 5 < (0 : Int) ∨ z4.t.hitsHamper ((fun (k : Nat) => BitVec.toInt (z4.rdS (Reg.s 1)) + ↑(srcLane z4 32 (Reg.v 1) k)) 5) ↑(widBytes Wid.n16) = true) :=
  ⟨by decide +kernel, by decide +kernel, by simp -failIfUnchanged only [Accessible] <;> decide +kernel, by decide +kernel⟩

theorem met_AccessTraps_221 :
    1 < 16 ∧ BitVec.getLsbD (z5.t.enables m2) 1 = true ∧
    (∀ (k : Nat), k < 1 → BitVec.getLsbD (z5.t.enables m2) k = true → Accessible z5.t ((fun (k : Nat) => BitVec.toInt (z5.rdS (Reg.s 1)) + ↑(srcLane z5 32 (Reg.v 1) k)) k) (widBytes Wid.n32) (widBytes Wid.n32)) ∧
    (0 : Int) ≤ (fun (k : Nat) => BitVec.toInt (z5.rdS (Reg.s 1)) + ↑(srcLane z5 32 (Reg.v 1) k)) 1 ∧
    (fun (k : Nat) => BitVec.toInt (z5.rdS (Reg.s 1)) + ↑(srcLane z5 32 (Reg.v 1) k)) 1 + ↑(widBytes Wid.n32) ≤ (1048576 : Int) ∧
    z5.t.hitsHamper ((fun (k : Nat) => BitVec.toInt (z5.rdS (Reg.s 1)) + ↑(srcLane z5 32 (Reg.v 1) k)) 1) ↑(widBytes Wid.n32) = false ∧
    (fun (k : Nat) => BitVec.toInt (z5.rdS (Reg.s 1)) + ↑(srcLane z5 32 (Reg.v 1) k)) 1 % ↑(widBytes Wid.n32) ≠ (0 : Int) :=
  ⟨by decide +kernel, by decide +kernel, by simp -failIfUnchanged only [Accessible] <;> decide +kernel, by decide +kernel,
   by decide +kernel, by decide +kernel, by decide +kernel⟩

theorem met_AccessTraps_2221 :
    5 < 16 ∧ BitVec.getLsbD (z4.t.enables m2) 5 = true ∧
    (∀ (k : Nat), k < 5 → BitVec.getLsbD (z4.t.enables m2) k = true → Accessible z4.t ((fun (k : Nat) => BitVec.toInt (z4.rdS (Reg.s 1)) + ↑(srcLane z4 32 (Reg.v 1) k)) k) (widBytes Wid.n16) (widBytes Wid.n16)) ∧
    (∀ (k : Nat), k < 5 → BitVec.getLsbD (z4.t.enables m2) k = true → z4.t.badWord ((fun (k : Nat) => BitVec.toInt (z4.rdS (Reg.s 1)) + ↑(srcLane z4 32 (Reg.v 1) k)) k).toNat (widBytes Wid.n16) = none) ∧
    ((1048576 : Int) < (fun (k : Nat) => BitVec.toInt (z4.rdS (Reg.s 1)) + ↑(srcLane z4 32 (Reg.v 1) k)) 5 + ↑(widBytes Wid.n16) ∨ (fun (k : Nat) => BitVec.toInt (z4.rdS (Reg.s 1)) + ↑(srcLane z4 32 (Reg.v 1) k)) 5 < (0 : Int) ∨ z4.t.hitsHamper ((fun (k : Nat) => BitVec.toInt (z4.rdS (Reg.s 1)) + ↑(srcLane z4 32 (Reg.v 1) k)) 5) ↑(widBytes Wid.n16) = true) :=
  ⟨by decide +kernel, by decide +kernel, by simp -failIfUnchanged only [Accessible] <;> decide +kernel, by decide +kernel,
   by decide +kernel⟩

theorem met_AccessTraps_2222 :
    1 < 16 ∧ BitVec.getLsbD (z5.t.enables m2) 1 = true ∧
    (∀ (k : Nat), k < 1 → BitVec.getLsbD (z5.t.enables m2) k = true → Accessible z5.t ((fun (k : Nat) => BitVec.toInt (z5.rdS (Reg.s 1)) + ↑(srcLane z5 32 (Reg.v 1) k)) k) (widBytes Wid.n32) (widBytes Wid.n32)) ∧
    (∀ (k : Nat), k < 1 → BitVec.getLsbD (z5.t.enables m2) k = true → z5.t.badWord ((fun (k : Nat) => BitVec.toInt (z5.rdS (Reg.s 1)) + ↑(srcLane z5 32 (Reg.v 1) k)) k).toNat (widBytes Wid.n32) = none) ∧
    (0 : Int) ≤ (fun (k : Nat) => BitVec.toInt (z5.rdS (Reg.s 1)) + ↑(srcLane z5 32 (Reg.v 1) k)) 1 ∧
    (fun (k : Nat) => BitVec.toInt (z5.rdS (Reg.s 1)) + ↑(srcLane z5 32 (Reg.v 1) k)) 1 + ↑(widBytes Wid.n32) ≤ (1048576 : Int) ∧
    z5.t.hitsHamper ((fun (k : Nat) => BitVec.toInt (z5.rdS (Reg.s 1)) + ↑(srcLane z5 32 (Reg.v 1) k)) 1) ↑(widBytes Wid.n32) = false ∧
    (fun (k : Nat) => BitVec.toInt (z5.rdS (Reg.s 1)) + ↑(srcLane z5 32 (Reg.v 1) k)) 1 % ↑(widBytes Wid.n32) ≠ (0 : Int) :=
  ⟨by decide +kernel, by decide +kernel, by simp -failIfUnchanged only [Accessible] <;> decide +kernel, by decide +kernel,
   by decide +kernel, by decide +kernel, by decide +kernel, by decide +kernel⟩

end Access

namespace Copies

def rec_ (base et : Nat) (ext : List Nat) (str : List Int) (pad : Bool := false) (pv : Nat := 0) : List Byte :=
  bytesOf (base + 2^20*et + 2^24*(ext.length-1) + (if pad then 2^26 else 0) + (ext.zipIdx.map fun p => 2^(32+16*p.2)*p.1).sum + (str.zipIdx.map fun p => 2^(96+32*p.2)*(p.1 % 2^32).toNat).sum + 2^224*pv) 32

def cw (op r1 r2 r3 : Nat) (recs : List (Nat × List Byte)) (uli := true) : Tile :=
  { tile with spm := recs.foldl (fun m r => Mem.write m r.1 r.2) (Mem.write [] 0x2000 ((List.range 300).map fun i => BitVec.ofNat 8 (i*5+1)))
              cpl := tile.cpl.set 3 { slot .cgo 1 with uli := uli }
              copy := ⟨Vector.replicate 4 0, [⟨#v[BitVec.ofNat 64 op, BitVec.ofNat 64 r1, BitVec.ofNat 64 r2, BitVec.ofNat 64 r3], 0x43, false, none, none, 0⟩]⟩ }

def c1 : Tile := cw 0 0x100 0x120 0 [(0x100, rec_ 0x2000 7 [5,3] [4,24]), (0x120, rec_ 0x3000 7 [6,4] [4,-32] true 0x77665544)]
def list4 (l : List Nat) : List Byte := l.flatMap fun x => bytesOf x 4

def c4 : Tile := cw 3 0x100 0x120 0x200 [(0x100, rec_ 0x2000 7 [5,3] [4,24]), (0x120, rec_ 0x3000 7 [5,4] [4,32] true 5),(0x200, list4 [2,7,0,1])]
def W (t : Tile) : WorkSet := (t.copy.ws.headD ⟨Vector.replicate 4 0, 0, false, none, none, 0⟩)

def S (t : Tile) (a : Nat) : Shape := Shape.of (t.spmNat false a 32)
def rd (t : Tile) (a b : Nat) (l : Option (List Nat)) (nx : Nat := 0) (bits : W64 := 0) : Tile := let w := { W t with recs := some (S t a, S t b), list := l, next := nx }; { t with copy := ⟨t.copy.sh, [w]⟩, cpl := t.cpl.set 3 { t.cpl[3] with bits := bits, geom := some ((if w.regs[0].toNat % 8 = 4 then S t a else S t b).count * (if w.regs[0].toNat % 8 = 4 then S t a else S t b).size) } }

def cbad : Tile := cw 0 0x100 0x120 0 [(0x100, rec_ 0x2000 7 [5,3] [4,24]), (0x120, rec_ 0x3000 7 [6,4] [4,-32] false 0x77665544),(0x124,[0xFF,0xFF,0xFF,0xFF,0xFF,0xFF])]
def cq (t : Tile) (r0 r1 r2 r3 : W64) : Tile := { t with copy := ⟨#v[r0,r1,r2,r3], t.copy.ws⟩ }

def c0 : Tile := let t := c1; { t with copy := ⟨Vector.replicate 4 0, []⟩, csr := { t.csr with hampbase := 0x40000, hampsize := 0x4000 } }
def z1 : State := (st (cq { c0 with copy := ⟨c0.copy.sh, List.replicate 4 (W c1)⟩ } 2 0x100 0x120 0x200))

def z2 : State := (st (cq c0 0 0x100 0x100000 0x200))
def z3 : State := (st (cq c0 0 0x100 0x121 0x200))

def z4 : State := (st (cq c0 0 0x100 0x40010 0x200))
def z5 : State := (st (cq c0 0 0x100 0x120 0x200))

def z6 : State := (st c1)
def z7 : State := (st c4)

def z8 : State := (st (rd c1 0x100 0x120 (some []) 0 0))
def z9 : State := (st cbad)

theorem met_WorkSetsQueue_211 :
    z1.t.isSpec = false ∧ LowestFree z1.t 0 ∧ CanTake z1 p (Reg.s 9) ∧ (4 : Nat) ≤ z1.t.copy.ws.length :=
  ⟨by decide +kernel, by simp -failIfUnchanged only [LowestFree] <;> decide +kernel, ⟨_, rfl⟩, by decide +kernel⟩

theorem met_WorkSetsQueue_2121 :
    z2.t.isSpec = false ∧ LowestFree z2.t 0 ∧ CanTake z2 p (Reg.s 9) ∧ z2.t.copy.ws.length < 4 ∧
    (BitVec.toNat z2.t.copy.sh[0] / 16 ≠ 0 ∨ 2 ^ (20 : Nat) ≤ BitVec.toNat z2.t.copy.sh[1] ∨ 2 ^ (20 : Nat) ≤ BitVec.toNat z2.t.copy.sh[2] ∨ 2 ^ (20 : Nat) ≤ BitVec.toNat z2.t.copy.sh[3] ∨ (5 : Nat) ≤ BitVec.toNat z2.t.copy.sh[0] % 8) :=
  ⟨by decide +kernel, by simp -failIfUnchanged only [LowestFree] <;> decide +kernel, ⟨_, rfl⟩, by decide +kernel,
   by decide +kernel⟩

theorem met_WorkSetsQueue_21221 :
    z3.t.isSpec = false ∧ LowestFree z3.t 0 ∧ CanTake z3 p (Reg.s 9) ∧ z3.t.copy.ws.length < 4 ∧
    (¬(BitVec.toNat z3.t.copy.sh[0] / 16 ≠ 0 ∨ 2 ^ (20 : Nat) ≤ BitVec.toNat z3.t.copy.sh[1] ∨ 2 ^ (20 : Nat) ≤ BitVec.toNat z3.t.copy.sh[2] ∨ 2 ^ (20 : Nat) ≤ BitVec.toNat z3.t.copy.sh[3] ∨ (5 : Nat) ≤ BitVec.toNat z3.t.copy.sh[0] % 8)) ∧
    BitVec.toNat z3.t.copy.sh[2] % 16 ≠ 0 :=
  ⟨by decide +kernel, by simp -failIfUnchanged only [LowestFree] <;> decide +kernel, ⟨_, rfl⟩, by decide +kernel,
   by decide +kernel, by decide +kernel⟩

theorem met_WorkSetsQueue_212221 :
    z4.t.isSpec = false ∧ LowestFree z4.t 0 ∧ CanTake z4 p (Reg.s 9) ∧ z4.t.copy.ws.length < 4 ∧
    (¬(BitVec.toNat z4.t.copy.sh[0] / 16 ≠ 0 ∨ 2 ^ (20 : Nat) ≤ BitVec.toNat z4.t.copy.sh[1] ∨ 2 ^ (20 : Nat) ≤ BitVec.toNat z4.t.copy.sh[2] ∨ 2 ^ (20 : Nat) ≤ BitVec.toNat z4.t.copy.sh[3] ∨ (5 : Nat) ≤ BitVec.toNat z4.t.copy.sh[0] % 8)) ∧
    BitVec.toNat z4.t.copy.sh[2] % 16 = 0 ∧
    (1048576 < BitVec.toNat z4.t.copy.sh[2] + 32 ∨ z4.t.hitsHamper ↑(BitVec.toNat z4.t.copy.sh[2]) (32 : Int) = true) :=
  ⟨by decide +kernel, by simp -failIfUnchanged only [LowestFree] <;> decide +kernel, ⟨_, rfl⟩, by decide +kernel,
   by decide +kernel, by decide +kernel, by decide +kernel⟩

theorem met_WorkSetsQueue_212222 :
    z5.t.isSpec = false ∧ LowestFree z5.t 0 ∧ CanTake z5 p (Reg.s 9) ∧ z5.t.copy.ws.length < 4 ∧
    (¬(BitVec.toNat z5.t.copy.sh[0] / 16 ≠ 0 ∨ 2 ^ (20 : Nat) ≤ BitVec.toNat z5.t.copy.sh[1] ∨ 2 ^ (20 : Nat) ≤ BitVec.toNat z5.t.copy.sh[2] ∨ 2 ^ (20 : Nat) ≤ BitVec.toNat z5.t.copy.sh[3] ∨ (5 : Nat) ≤ BitVec.toNat z5.t.copy.sh[0] % 8)) ∧
    (fun (x : Nat) => x % 16 = 0 ∧ x + (32 : Nat) ≤ 1048576 ∧ z5.t.hitsHamper ↑x (32 : Int) = false) (BitVec.toNat z5.t.copy.sh[2]) ∧
    (BitVec.toNat z5.t.copy.sh[0] % 8 ≠ 1 → (fun (x : Nat) => x % 16 = 0 ∧ x + (32 : Nat) ≤ 1048576 ∧ z5.t.hitsHamper ↑x (32 : Int) = false) (BitVec.toNat z5.t.copy.sh[1])) ∧
    (BitVec.toNat z5.t.copy.sh[0] % 8 = 3 ∨ BitVec.toNat z5.t.copy.sh[0] % 8 = 4 → BitVec.toNat z5.t.copy.sh[3] % 4 = 0 ∧ BitVec.toNat z5.t.copy.sh[3] + (4 : Nat) ≤ 1048576) :=
  ⟨by decide +kernel, by simp -failIfUnchanged only [LowestFree] <;> decide +kernel, ⟨_, rfl⟩, by decide +kernel,
   by decide +kernel, by decide +kernel, by decide +kernel, by decide +kernel⟩

theorem met_WorkSetsQueue_22 :
    ∃ (x : WorkSet) (x1 : List WorkSet), z6.t.copy.ws = x :: x1 ∧ InProgress z6.t x.xid z6.t.cpl[slotIx x.xid] :=
  by simp -failIfUnchanged only [InProgress, ↓cons_ex, ↓cons_is, exists_eq_left'] <;> decide +kernel

theorem met_CopiesMove_11 :
    CopyReady z6 (W c1) [] c1.cpl[3] (S c1 256) (S c1 288) ∧
    listLen (BitVec.toNat (W c1).regs[0] % 8) (S c1 256) (S c1 288) = 0 :=
  ⟨by constructor <;> simp -failIfUnchanged only [InProgress, records_iff, exists_eq_left'] <;> decide +kernel,
   by decide +kernel⟩

theorem met_CopiesMove_12 :
    CopyReady z7 (W c4) [] c4.cpl[(3 : Nat)] (S c4 (256 : Nat)) (S c4 (288 : Nat)) ∧
    listLen (BitVec.toNat (W c4).regs[(0 : Nat)] % (8 : Nat)) (S c4 (256 : Nat)) (S c4 (288 : Nat)) ≠ (0 : Nat) ∧
    z7.t.outside (↑(BitVec.toNat (W c4).regs[(3 : Nat)] % (2 : Nat) ^ (20 : Nat))) ((4 : Int) * ↑(listLen (BitVec.toNat (W c4).regs[(0 : Nat)] % (8 : Nat)) (S c4 (256 : Nat)) (S c4 (288 : Nat)))) = false ∧
    (BitVec.toNat (W c4).regs[(0 : Nat)] % (8 : Nat) = (3 : Nat) ∨ (S c4 (288 : Nat)).count = (0 : Nat) ∨ overlaps (S c4 (288 : Nat)).spanLo ((S c4 (288 : Nat)).spanHi - (S c4 (288 : Nat)).spanLo) (↑(BitVec.toNat (W c4).regs[(3 : Nat)] % (2 : Nat) ^ (20 : Nat))) ((4 : Int) * ↑(listLen (BitVec.toNat (W c4).regs[(0 : Nat)] % (8 : Nat)) (S c4 (256 : Nat)) (S c4 (288 : Nat)))) = false) :=
  ⟨by constructor <;> simp -failIfUnchanged only [InProgress, records_iff, exists_eq_left'] <;> decide +kernel,
   by decide +kernel, by decide +kernel, by decide +kernel⟩

theorem met_CopiesMove_21 :
    CopyRuns z8 (W (rd c1 256 288 (some []))) [] (rd c1 256 288 (some [])).cpl[3] (S c1 256) (S c1 288) [] :=
  by constructor <;> simp -failIfUnchanged only [InProgress, records_iff, exists_eq_left'] <;> decide +kernel

theorem met_CopiesMove_22 :
    z9.t.copy.ws = [W cbad] ∧ InProgress z9.t (W cbad).xid cbad.cpl[3] ∧ (W cbad).recs = none ∧ (W cbad).spec = false ∧
    z9.t.spmBad = [] ∧ (Shape.of (z9.t.spmNat false (BitVec.toNat (W cbad).regs[2] % 2 ^ 20) 32)).rsv = true :=
  ⟨by decide +kernel, by simp -failIfUnchanged only [InProgress, exists_eq_left'] <;> decide +kernel, by decide +kernel,
   by decide +kernel, by decide +kernel, by decide +kernel⟩

end Copies

end Sys2Proof.Tests
end

