-- ==== Sys2Proof/Tests/MetMessages.lean ====
section
/-!
SUPPORT. States that meet the hypotheses of the statements about messages of the tiles: `met_<Obligation>_<path>` meets those of the
clause at that place of the statement (1: the left side of a conjunction, 2: the right side).
-/

set_option linter.unusedVariables false
set_option linter.unusedSimpArgs false

namespace Sys2Proof.Tests

set_option Elab.async false

open Machine

namespace Posting

def gmv (t : Tile) : Tile := { t with csr := { t.csr with gm := (tile.csr.gm.set 1 0x1000A), hampbase := 0x40000, hampsize := 0x4000 } }

def buf (a l : Nat) : W64 := BitVec.ofNat 64 (a + 2^20*l)
def eT (s1 s2 s3 : W64) : Tile := let t := gmv (withS [s1,s2,s3] tile); { t with spm := Mem.write [] 64 ((List.range 200).map fun i => BitVec.ofNat 8 (i+1)), cpl := t.cpl.set 0 (slot .mget 7) }

def keptT (t : Tile) (q : Packet) : Tile := { t with msg := { t.msg with kept := [⟨q, true, 0⟩] } }
def specOf (t : Tile) (l : List HeldSend) : Tile := { t with spec := some { spec0 with sends := l } }

def pk (d : Nat) : Packet := mkPacket 5 (BitVec.ofNat 32 d) 0 0xA 0 0 0 []
def pst (src tag mask : W32) (cap : Nat) (xid : W16) : Posted := ⟨src, tag, mask, 0xA, 0x1000, cap, xid⟩

def recvT (l : List HeldEnv) (s2 : W64 := buf 256 40) : Tile := let t := eT 0x300000007 s2 0xF; { t with msg := { t.msg with hamper := l } }
def hcT (cap len : Nat) : Tile := let t := recvT [⟨.eager, env0 8 3 64, none, 0,1,64,none,0⟩,⟨.eager, env0 7 3 len, none, 2,1,len,some 0x43,0⟩]; { t with cpl := t.cpl.set 3 { slot .recv 1 with x := { Xfer.empty with buf := 0x1000, len := cap }, uli := true }, spm := Mem.write t.spm (0x40000+128) ((List.range 200).map fun i => BitVec.ofNat 8 (i+7)) }

def cancT : Tile := let t := eT 0x43 0x44 0x45; { t with cpl := ((t.cpl.set 3 { slot .recv 1 with uli := true }).set 4 { slot .recv 1 with state := 1 }), msg := { t.msg with posted := [pst 1 2 3 4 0x42, pst 1 2 3 4 0x43] } }
def hcT2 (copied : Nat) (bad : List Nat) : Tile := let t := hcT 150 150; { t with msg := { t.msg with hamper := t.msg.hamper.map fun h => if h.taken = some 0x43 then { h with copied := copied } else h }, spmBad := bad }

def z1 : State := (st specT)
def z2 : State := (st { recvT [] with cpl := Vector.replicate 64 (slot .mget 7) })

def z3 : State := (st (recvT []))
def z4 : State := (st (eT 7 (buf 64 64) 3))

def z5 : State := (st (keptT (eT 0x3500000407 (buf 64 65) 3) (pk 0x407)))
def z6 : State := (st (specOf (eT 0x3500000407 (buf 64 65) 3) [⟨3,pk 8,65000⟩]))

def z7 : State := (st (specOf (eT 0x3500000407 (buf 64 65) 3) [⟨3,pk 8,65500⟩]))
def z8 : State := (st (specOf (eT 0x3500000407 (buf 64 65537) 3) []))

def z9 : State := (st (recvT [⟨.eager, env0 8 3 64, none, 0,1,64,none,0⟩]))
def z10 : State := (st { recvT [] with msg := { tile.msg with posted := List.replicate 256 (pst 0 0 0 0 0) } })

def z11 : State := (st (recvT [⟨.eager, env0 8 3 64, none, 0,1,64,none,0⟩,⟨.rts, env0 7 3 64, none, 0,0,0,none,0⟩,⟨.rts, env0 7 3 65, none, 0,0,0,none,0⟩]))
def z12 : State := (st (recvT [⟨.eager, env0 8 3 64, none, 0,1,64,none,0⟩,⟨.eager, env0 7 3 64, none, 2,1,64,none,0⟩,⟨.rts, env0 7 3 65, none, 0,0,0,none,0⟩]))

def z13 : State := (st (recvT [⟨.eager, env0 8 3 64, none, 0,1,64,none,0⟩,⟨.eager, env0 7 3 64, none, 2,1,64,none,0⟩,⟨.rts, env0 7 3 65, none, 0,0,0,none,0⟩] (buf 64 0)))
def z14 : State := (st (hcT 40 64))

def z15 : State := (st (hcT2 0 []))
def z16 : State := (st (hcT2 64 [0x400D0]))

def z17 : State := (st (recvT [⟨.eager, env0 8 3 64, none, 0,1,64,none,0⟩,⟨.rts, env0 7 3 64, none, 0,0,0,none,0⟩]))
def z18 : State := (st cancT)

theorem met_EngineOpsIssue_1 :
    waitsForResolution (Instr.recv p 1 true (Reg.s 9) (Reg.s 1) (Reg.s 2) (Reg.s 3)) = true ∧ z1.t.isSpec = true :=
  by decide +kernel

theorem met_EngineOpsIssue_211 :
    ∃ (x : EngOp), engOp z2 (Instr.recv p 1 true (Reg.s 9) (Reg.s 1) (Reg.s 2) (Reg.s 3)) = some x ∧ z2.t.isSpec = false ∧
    (∀ (k : Fin 64), z2.t.cpl[k].used = true) :=
  ⟨_, rfl, by decide +kernel, by decide +kernel⟩

theorem met_EngineOpsIssue_212 :
    ∃ (x : EngOp), engOp z3 (Instr.recv p 1 true (Reg.s 9) (Reg.s 1) (Reg.s 2) (Reg.s 3)) = some x ∧ z3.t.isSpec = false ∧
    LowestFree z3.t 1 ∧ CanTake z3 x.a x.d :=
  ⟨_, rfl, by decide +kernel, by simp -failIfUnchanged only [LowestFree] <;> decide +kernel, ⟨_, rfl⟩⟩

theorem met_EngineOpsIssue_22 :
    ∃ (x : EngOp), engOp z3 (Instr.recv p 2 true (Reg.s 9) (Reg.s 1) (Reg.s 2) (Reg.s 3)) = some x ∧ z3.t.isSpec = false ∧
    LowestFree z3.t 1 ∧ CanTake z3 x.a x.d ∧ ∃ (x1 : Nat), x.reason = some x1 :=
  ⟨_, rfl, by decide +kernel, by simp -failIfUnchanged only [LowestFree] <;> decide +kernel, ⟨_, rfl⟩,
   by simp -failIfUnchanged only [↓opt_is] <;> decide +kernel⟩

theorem met_SendsLeave_1 :
    ∃ (x : EngOp), engOp z4 (Instr.send p Ety.f32 1 true (Reg.s 9) (Reg.s 1) (Reg.s 2)) = some x ∧
    sendOf (Instr.send p Ety.f32 1 true (Reg.s 9) (Reg.s 1) (Reg.s 2)) = some (false, Ety.f32, 1, Reg.s 1, Reg.s 2) ∧
    LowestFree z4.t 1 ∧ CanTake z4 x.a x.d ∧ x.reason = none ∧ isHostKey z4.cur = false ∧ z4.t.isSpec = false ∧
    (∀ (q : Kept), q ∈ z4.t.msg.kept → q.pkt.dst ≠ (sendEnv z4 false Ety.f32 1 (Reg.s 1) (Reg.s 2) (nextXid z4.t 1)).dst) :=
  ⟨_, rfl, by decide +kernel, by simp -failIfUnchanged only [LowestFree] <;> decide +kernel, ⟨_, rfl⟩, by decide +kernel,
   by decide +kernel, by decide +kernel, by decide +kernel⟩

theorem met_SendsLeave_21 :
    ∃ (x : EngOp), engOp z5 (Instr.send p Ety.raw 1 true Reg.zero (Reg.s 1) (Reg.s 2)) = some x ∧
    sendOf (Instr.send p Ety.raw 1 true Reg.zero (Reg.s 1) (Reg.s 2)) = some (false, Ety.raw, 1, Reg.s 1, Reg.s 2) ∧
    LowestFree z5.t 1 ∧ CanTake z5 x.a x.d ∧ x.reason = none ∧ isHostKey z5.cur = false ∧ z5.t.isSpec = false ∧
    (∃ (q : Kept), q ∈ z5.t.msg.kept ∧ q.pkt.dst = (sendEnv z5 false Ety.raw 1 (Reg.s 1) (Reg.s 2) (nextXid z5.t 1)).dst) :=
  ⟨_, rfl, by decide +kernel, by simp -failIfUnchanged only [LowestFree] <;> decide +kernel, ⟨_, rfl⟩, by decide +kernel,
   by decide +kernel, by decide +kernel, by decide +kernel⟩

theorem met_SendsLeave_221 :
    ∃ (x : EngOp), engOp z6 (Instr.send p Ety.raw 1 true Reg.zero (Reg.s 1) (Reg.s 2)) = some x ∧
    sendOf (Instr.send p Ety.raw 1 true Reg.zero (Reg.s 1) (Reg.s 2)) = some (false, Ety.raw, 1, Reg.s 1, Reg.s 2) ∧
    LowestFree z6.t 1 ∧ CanTake z6 x.a x.d ∧ x.reason = none ∧ isHostKey z6.cur = false ∧ ∃ (sp : Spec), z6.t.spec = some sp ∧
    sp.wait = false ∧ bufLen (z6.rdS (Reg.s 2)) ≤ 65536 ∧ sp.sends.length < 16 ∧
    (List.map HeldSend.bytes sp.sends).sum + bufLen (z6.rdS (Reg.s 2)) ≤ 65536 :=
  ⟨_, rfl, by decide +kernel, by simp -failIfUnchanged only [LowestFree] <;> decide +kernel, ⟨_, rfl⟩, by decide +kernel,
   by decide +kernel, by simp -failIfUnchanged only [↓opt_ex, ↓opt_is] <;> decide +kernel⟩

theorem met_SendsLeave_2221 :
    ∃ (x : EngOp), engOp z7 (Instr.send p Ety.raw 1 true Reg.zero (Reg.s 1) (Reg.s 2)) = some x ∧
    sendOf (Instr.send p Ety.raw 1 true Reg.zero (Reg.s 1) (Reg.s 2)) = some (false, Ety.raw, 1, Reg.s 1, Reg.s 2) ∧
    LowestFree z7.t 1 ∧ CanTake z7 x.a x.d ∧ x.reason = none ∧ isHostKey z7.cur = false ∧ ∃ (sp : Spec), z7.t.spec = some sp ∧
    sp.wait = false ∧ bufLen (z7.rdS (Reg.s 2)) ≤ 65536 ∧
    ((16 : Nat) ≤ sp.sends.length ∨ 65536 < (List.map HeldSend.bytes sp.sends).sum + bufLen (z7.rdS (Reg.s 2))) :=
  ⟨_, rfl, by decide +kernel, by simp -failIfUnchanged only [LowestFree] <;> decide +kernel, ⟨_, rfl⟩, by decide +kernel,
   by decide +kernel, by simp -failIfUnchanged only [↓opt_ex, ↓opt_is] <;> decide +kernel⟩

theorem met_SendsLeave_2222 :
    ∃ (x : EngOp), engOp z8 (Instr.send p Ety.raw 1 true Reg.zero (Reg.s 1) (Reg.s 2)) = some x ∧
    sendOf (Instr.send p Ety.raw 1 true Reg.zero (Reg.s 1) (Reg.s 2)) = some (false, Ety.raw, 1, Reg.s 1, Reg.s 2) ∧
    LowestFree z8.t 1 ∧ CanTake z8 x.a x.d ∧ x.reason = none ∧ isHostKey z8.cur = false ∧ z8.t.isSpec = true ∧
    65536 < bufLen (z8.rdS (Reg.s 2)) :=
  ⟨_, rfl, by decide +kernel, by simp -failIfUnchanged only [LowestFree] <;> decide +kernel, ⟨_, rfl⟩, by decide +kernel,
   by decide +kernel, by decide +kernel, by decide +kernel⟩

theorem met_ReceivesPost_11 :
    ∃ (x : EngOp), engOp z9 (Instr.recv p 1 true (Reg.s 9) (Reg.s 1) (Reg.s 2) (Reg.s 3)) = some x ∧ z9.t.isSpec = false ∧
    LowestFree z9.t 1 ∧ CanTake z9 p (Reg.s 9) ∧ x.reason = none ∧
    (∀ (h : HeldEnv), h ∈ z9.t.msg.hamper → ¬Takes (recvPost z9 1 (Reg.s 1) (Reg.s 2) (Reg.s 3) (nextXid z9.t 1)) h) ∧
    z9.t.msg.posted.length < 256 :=
  ⟨_, rfl, by decide +kernel, by simp -failIfUnchanged only [LowestFree] <;> decide +kernel, ⟨_, rfl⟩, by decide +kernel,
   by simp -failIfUnchanged only [Takes, Matches] <;> decide +kernel, by decide +kernel⟩

theorem met_ReceivesPost_121 :
    ∃ (x : EngOp), engOp z10 (Instr.recv p 1 true (Reg.s 9) (Reg.s 1) (Reg.s 2) (Reg.s 3)) = some x ∧ z10.t.isSpec = false ∧
    LowestFree z10.t 1 ∧ CanTake z10 p (Reg.s 9) ∧ x.reason = none ∧
    (∀ (h : HeldEnv), h ∈ z10.t.msg.hamper → ¬Takes (recvPost z10 1 (Reg.s 1) (Reg.s 2) (Reg.s 3) (nextXid z10.t 1)) h) ∧
    (256 : Nat) ≤ z10.t.msg.posted.length :=
  ⟨_, rfl, by decide +kernel, by simp -failIfUnchanged only [LowestFree] <;> decide +kernel, ⟨_, rfl⟩, by decide +kernel,
   by simp -failIfUnchanged only [Takes, Matches] <;> decide +kernel, by decide +kernel⟩

theorem met_ReceivesPost_1221 :
    ∃ (x : EngOp), engOp z11 (Instr.recv p 1 true (Reg.s 9) (Reg.s 1) (Reg.s 2) (Reg.s 3)) = some x ∧ z11.t.isSpec = false ∧
    LowestFree z11.t 1 ∧ CanTake z11 p (Reg.s 9) ∧ x.reason = none ∧
    ∃ (h1 : HeldEnv), IsFirst z11.t.msg.hamper (Takes (recvPost z11 1 (Reg.s 1) (Reg.s 2) (Reg.s 3) (nextXid z11.t 1))) h1 ∧
    h1.kind = HeldKind.rts ∧ 0 < min h1.env.len (recvPost z11 1 (Reg.s 1) (Reg.s 2) (Reg.s 3) (nextXid z11.t 1)).cap :=
  ⟨_, rfl, by decide +kernel, by simp -failIfUnchanged only [LowestFree] <;> decide +kernel, ⟨_, rfl⟩, by decide +kernel,
   by simp -failIfUnchanged only [Takes, Matches, first_iff, ↓first_ex, ↓first_is] <;> decide +kernel⟩

theorem met_ReceivesPost_12221 :
    ∃ (x : EngOp), engOp z12 (Instr.recv p 1 true (Reg.s 9) (Reg.s 1) (Reg.s 2) (Reg.s 3)) = some x ∧ z12.t.isSpec = false ∧
    LowestFree z12.t 1 ∧ CanTake z12 p (Reg.s 9) ∧ x.reason = none ∧
    ∃ (h1 : HeldEnv), IsFirst z12.t.msg.hamper (Takes (recvPost z12 1 (Reg.s 1) (Reg.s 2) (Reg.s 3) (nextXid z12.t 1))) h1 ∧
    h1.kind = HeldKind.eager ∧ 0 < min h1.env.len (recvPost z12 1 (Reg.s 1) (Reg.s 2) (Reg.s 3) (nextXid z12.t 1)).cap :=
  ⟨_, rfl, by decide +kernel, by simp -failIfUnchanged only [LowestFree] <;> decide +kernel, ⟨_, rfl⟩, by decide +kernel,
   by simp -failIfUnchanged only [Takes, Matches, first_iff, ↓first_ex, ↓first_is] <;> decide +kernel⟩

theorem met_ReceivesPost_12222 :
    ∃ (x : EngOp), engOp z13 (Instr.recv p 1 true (Reg.s 9) (Reg.s 1) (Reg.s 2) (Reg.s 3)) = some x ∧ z13.t.isSpec = false ∧
    LowestFree z13.t 1 ∧ CanTake z13 p (Reg.s 9) ∧ x.reason = none ∧
    ∃ (h1 : HeldEnv), IsFirst z13.t.msg.hamper (Takes (recvPost z13 1 (Reg.s 1) (Reg.s 2) (Reg.s 3) (nextXid z13.t 1))) h1 ∧
    min h1.env.len (recvPost z13 1 (Reg.s 1) (Reg.s 2) (Reg.s 3) (nextXid z13.t 1)).cap = 0 :=
  ⟨_, rfl, by decide +kernel, by simp -failIfUnchanged only [LowestFree] <;> decide +kernel, ⟨_, rfl⟩, by decide +kernel,
   by simp -failIfUnchanged only [Takes, Matches, first_iff, ↓first_ex, ↓first_is] <;> decide +kernel⟩

theorem met_ReceivesPost_21 :
    ∃ (x : HeldEnv), IsFirst z14.t.msg.hamper (fun (x : HeldEnv) => x.taken = some 67) x ∧
    InProgress z14.t 67 z14.t.cpl[slotIx 67] ∧ EngineWorks z14.t ∧
    z14.t.badWord (z14.t.csr.hampbase.toNat + 64 * x.gran + x.copied) (min 64 (min x.env.len z14.t.cpl[slotIx 67].x.len - x.copied)) false = none ∧
    min x.env.len z14.t.cpl[slotIx 67].x.len ≤ x.copied + min 64 (min x.env.len z14.t.cpl[slotIx 67].x.len - x.copied) :=
  by simp -failIfUnchanged only [EngineWorks, InProgress, first_iff, ↓first_ex, ↓first_is, ↓list_all_bv, ↓list_all_bv2, exists_eq_left'] <;> decide +kernel

theorem met_ReceivesPost_221 :
    ∃ (x : HeldEnv), IsFirst z15.t.msg.hamper (fun (x : HeldEnv) => x.taken = some 67) x ∧
    InProgress z15.t 67 z15.t.cpl[slotIx 67] ∧ EngineWorks z15.t ∧
    z15.t.badWord (z15.t.csr.hampbase.toNat + 64 * x.gran + x.copied) (min 64 (min x.env.len z15.t.cpl[slotIx 67].x.len - x.copied)) false = none ∧
    x.copied + min 64 (min x.env.len z15.t.cpl[slotIx 67].x.len - x.copied) < min x.env.len z15.t.cpl[slotIx 67].x.len :=
  by simp -failIfUnchanged only [EngineWorks, InProgress, first_iff, ↓first_ex, ↓first_is, ↓list_all_bv, ↓list_all_bv2, exists_eq_left'] <;> decide +kernel

theorem met_ReceivesPost_222 :
    ∃ (x : HeldEnv), IsFirst z16.t.msg.hamper (fun (x : HeldEnv) => x.taken = some 67) x ∧
    InProgress z16.t 67 z16.t.cpl[slotIx 67] ∧ EngineWorks z16.t ∧
    z16.t.badWord (z16.t.csr.hampbase.toNat + 64 * x.gran + x.copied) (min 64 (min x.env.len z16.t.cpl[slotIx 67].x.len - x.copied)) false ≠ none :=
  by simp -failIfUnchanged only [EngineWorks, InProgress, first_iff, ↓first_ex, ↓first_is, ↓list_all_bv, ↓list_all_bv2, exists_eq_left'] <;> decide +kernel

theorem met_ProbesAndCancels_11 :
    z17.t.isSpec = false ∧ notJoined z17 1 = false ∧
    ∃ (h1 : HeldEnv), IsFirst z17.t.msg.hamper (Takes (recvPost z17 1 (Reg.s 1) (Reg.s 1) (Reg.s 3) 0)) h1 :=
  ⟨by decide +kernel, by decide +kernel,
   by simp -failIfUnchanged only [Takes, Matches, first_iff, ↓first_ex, ↓first_is] <;> decide +kernel⟩

theorem met_ProbesAndCancels_12 :
    z17.t.isSpec = false ∧
    (notJoined z17 2 = true ∨ ∀ (h : HeldEnv), h ∈ z17.t.msg.hamper → ¬Takes (recvPost z17 2 (Reg.s 1) (Reg.s 1) (Reg.s 3) 0) h) :=
  ⟨by decide +kernel, by simp -failIfUnchanged only [Takes, Matches] <;> decide +kernel⟩

theorem met_ProbesAndCancels_21 :
    z18.t.isSpec = false ∧
    (¬(z18.t.cpl[slotIx (BitVec.setWidth 16 (z18.rdS (Reg.s 3)))].used = true ∧ z18.t.cpl[slotIx (BitVec.setWidth 16 (z18.rdS (Reg.s 3)))].seq = xidSeq (BitVec.setWidth 16 (z18.rdS (Reg.s 3))) ∧ z18.t.cpl[slotIx (BitVec.setWidth 16 (z18.rdS (Reg.s 3)))].op = SlotOp.recv)) ∧
    ∃ (t : State), z18.wrS p 1 (Reg.s 9) 2 = Except.ok t :=
  ⟨by decide +kernel, by decide +kernel, by simp -failIfUnchanged only [↓ok_is, ok_iff] <;> decide +kernel⟩

theorem met_ProbesAndCancels_221 :
    z18.t.isSpec = false ∧ z18.t.cpl[slotIx (BitVec.setWidth 16 (z18.rdS (Reg.s 2)))].used = true ∧
    z18.t.cpl[slotIx (BitVec.setWidth 16 (z18.rdS (Reg.s 2)))].seq = xidSeq (BitVec.setWidth 16 (z18.rdS (Reg.s 2))) ∧
    z18.t.cpl[slotIx (BitVec.setWidth 16 (z18.rdS (Reg.s 2)))].op = SlotOp.recv ∧
    (∀ (q : Posted), q ∈ z18.t.msg.posted → q.xid ≠ BitVec.setWidth 16 (z18.rdS (Reg.s 2))) ∧
    ∃ (t : State), z18.wrS p 1 (Reg.s 9) 1 = Except.ok t :=
  ⟨by decide +kernel, by decide +kernel, by decide +kernel, by decide +kernel, by decide +kernel,
   by simp -failIfUnchanged only [↓ok_is, ok_iff] <;> decide +kernel⟩

theorem met_ProbesAndCancels_222 :
    z18.t.isSpec = false ∧
    InProgress z18.t (BitVec.setWidth 16 (z18.rdS (Reg.s 1))) z18.t.cpl[slotIx (BitVec.setWidth 16 (z18.rdS (Reg.s 1)))] ∧
    z18.t.cpl[slotIx (BitVec.setWidth 16 (z18.rdS (Reg.s 1)))].op = SlotOp.recv ∧
    ∃ (q : Posted), IsFirst z18.t.msg.posted (fun (q : Posted) => q.xid = BitVec.setWidth 16 (z18.rdS (Reg.s 1))) q ∧
    CanTake z18 p (Reg.s 9) :=
  ⟨by decide +kernel, by simp -failIfUnchanged only [InProgress, exists_eq_left'] <;> decide +kernel, by decide +kernel,
   by simp -failIfUnchanged only [CanTake, ↓ok_is, ok_iff, first_iff, ↓first_ex, ↓first_is] <;> decide +kernel⟩

end Posting

namespace Moving

def gmv (t : Tile) : Tile := { t with csr := { t.csr with gm := (tile.csr.gm.set 1 0x1000A), hampbase := 0x40000, hampsize := 0x4000 } }

def ev (src : Rank) (tag : W32) (len : Nat) (rdv : Bool := false) (nan := false) : Env := { env0 src tag len with rdv := rdv, nan := nan }
def byt (n : Nat) : List Byte := (List.range n).map fun i => BitVec.ofNat 8 (i+1)

def arr (e : Env) : Packet := mkPacket e.src e.dst (if e.rdv then 1 else 0) e.group e.sxid 0 0 (e.bytes ++ if e.rdv then [] else byt e.len)
def arrI (e : Env) : Instr := if e.rdv then .rts (arr e) else .eager (arr e)

def pst (src tag mask : W32) (cap : Nat) (xid : W16) : Posted := ⟨src, tag, mask, 0xA, 0x1000, cap, xid⟩
def aT (post : List Posted) (held : List HeldEnv := []) : Tile := let t := gmv tile; { t with cpl := (t.cpl.set 3 { slot .recv 1 with uli := true, x := { Xfer.empty with buf := 0x1000, len := 40 } }).set 4 (slot .recv 1), msg := { t.msg with posted := post, hamper := held } }

def hd (g n : Nat) : HeldEnv := ⟨.eager, env0 8 3 64, none, g, n, 64, none,0⟩
def sT (op : SlotOp) (env : Option Env) : Tile := let t := gmv tile; { t with cpl := t.cpl.set 1 { slot op 2 with uli := true, length := 300, x := { Xfer.empty with buf := 64, len := 300, peer := 7, env := env } }, spm := Mem.write [] 64 ((List.range 400).map fun i => BitVec.ofNat 8 (i*7+1)) }

def cp (kind : Nat) (aux off : Nat) (data : List Byte := []) : Packet := mkPacket 7 5 kind 0xA 0x81 aux off data
def rdT (n len : Nat) : Tile := let t := aT []; { t with msg := { t.msg with pulls := [⟨ev 9 3 50, 0x44, 50, 0⟩, ⟨ev 7 3 len true, 0x43, n, 0⟩] } }

def sE : Tile := sT .ssend (some (ev 5 3 300 true))
def sW (str : Bool) : Tile := let t := sE; { t with cpl := t.cpl.set 1 { t.cpl[1] with x := { t.cpl[1].x with streaming := str } } }

def cx (aux : Nat) : Packet := { cp 8 aux 0 with ext := 1 }
def obT (x : W64) (m : W64) : Tile := let t := withS [x, m] tile; { t with cpl := ((((t.cpl.set 3 { slot .recv 1 with length := 8, bits := 6 }).set 4 { slot .recv 1 with state := 3, bits := -1, src := 7, length := 99 }).set 5 { slot .recv 1 with state := 1, nanMis := true })) }

def z1 : State := (st (aT []))
def z2 : State := (st { aT [] with msg := { tile.msg with ingress := List.replicate 16 (ev 1023 3 4) } })

def z3 : State := (st (aT [pst 9 3 1 40 0x44, pst 7 7 3 40 0x43, pst 7 7 3 40 0x44]))
def z4 : State := (st (aT [pst 9 3 1 40 0x44, pst 0xFFFFFFFF 7 3 40 0x43, pst 7 7 3 40 0x44]))

def z5 : State := (st (aT [pst 7 3 0 0 0x43]))
def z6 : State := (st (aT [pst 9 3 1 40 0x44] [hd 0 1]))

def z7 : State := (st (aT [pst 9 3 1 40 0x44] [hd 1 255]))
def z8 : State := (st (aT [pst 9 3 1 40 0x44] (List.replicate 256 (hd 0 0))))

def z9 : State := (st (sT .send none))
def z10 : State := (st (sT .ssend none))

def z11 : State := (st (sT .ssend (some (ev 5 3 300))))
def z12 : State := (st (sT .ssend (some (ev 5 3 300 true))))

def z13 : State := (st (sW true))
def z14 : State := (st (sT .recv none))

def z15 : State := (st (rdT 40 50))
def z16 : State := (st (rdT 40 40))

def z17 : State := (st { aT [] with msg := { tile.msg with kept := [⟨arr (ev 5 3 20), false, 999⟩] } })
def z18 : State := (st (obT 0x83 5))

def z19 : State := (st (obT 0x45 5))
def z20 : State := (st (obT 0x43 0))

def z21 : State := (st (obT 0x44 5))

theorem met_MessagesArrive_1 :
    Arriving z1 (arrI (ev 1023 3 40 true)) (ev 1023 3 40 true) [] ∧ Receives z1 (ev 1023 3 40 true) ∧
    keyOf (ev 1023 3 40 true).src % 1024 = 1023 ∧ z1.t.msg.ingress.length < 16 :=
  ⟨by refine arriving_of (arr (ev 1023 3 40 true)) rfl ?_ ?_ ?_ ?_ <;> simp -failIfUnchanged only [Plain] <;> decide +kernel,
   by constructor <;> simp -failIfUnchanged only [EngineActs, Expelled, EngineWorks, ↓list_all_bv, ↓list_all_bv2] <;> decide +kernel,
   by decide +kernel, by decide +kernel⟩

theorem met_MessagesArrive_21 :
    Arriving z2 (arrI (ev 1023 3 40 true)) (ev 1023 3 40 true) [] ∧ Receives z2 (ev 1023 3 40 true) ∧
    keyOf (ev 1023 3 40 true).src % 1024 = 1023 ∧ (16 : Nat) ≤ z2.t.msg.ingress.length :=
  ⟨by refine arriving_of (arr (ev 1023 3 40 true)) rfl ?_ ?_ ?_ ?_ <;> simp -failIfUnchanged only [Plain] <;> decide +kernel,
   by constructor <;> simp -failIfUnchanged only [EngineActs, Expelled, EngineWorks, ↓list_all_bv, ↓list_all_bv2] <;> decide +kernel,
   by decide +kernel, by decide +kernel⟩

theorem met_MessagesArrive_221 :
    Arriving z3 (arrI (ev 7 3 40)) (ev 7 3 40) (byt 40) ∧ Receives z3 (ev 7 3 40) ∧ keyOf (ev 7 3 40).src % 1024 ≠ 1023 ∧
    ∃ (r : Posted), IsFirst z3.t.msg.posted (fun (r : Posted) => Matches r (ev 7 3 40)) r ∧
    InProgress z3.t r.xid z3.t.cpl[slotIx r.xid] ∧ (ev 7 3 40).rdv = false ∧ (byt 40).length = (ev 7 3 40).len :=
  ⟨by refine arriving_of (arr (ev 7 3 40)) rfl ?_ ?_ ?_ ?_ <;> simp -failIfUnchanged only [Plain] <;> decide +kernel,
   by constructor <;> simp -failIfUnchanged only [EngineActs, Expelled, EngineWorks, ↓list_all_bv, ↓list_all_bv2] <;> decide +kernel,
   by decide +kernel,
   by simp -failIfUnchanged only [Matches, InProgress, first_iff, ↓first_ex, ↓first_is, exists_eq_left'] <;> decide +kernel⟩

theorem met_MessagesArrive_2221 :
    Arriving z4 (arrI (ev 7 3 41 true true)) (ev 7 3 41 true true) (byt 0) ∧ Receives z4 (ev 7 3 41 true true) ∧
    keyOf (ev 7 3 41 true true).src % 1024 ≠ 1023 ∧
    ∃ (r : Posted), IsFirst z4.t.msg.posted (fun (r : Posted) => Matches r (ev 7 3 41 true true)) r ∧
    InProgress z4.t r.xid z4.t.cpl[slotIx r.xid] ∧ (ev 7 3 41 true true).rdv = true ∧ 0 < min (ev 7 3 41 true true).len r.cap :=
  ⟨by refine arriving_of (arr (ev 7 3 41 true true)) rfl ?_ ?_ ?_ ?_ <;> simp -failIfUnchanged only [Plain] <;> decide +kernel,
   by constructor <;> simp -failIfUnchanged only [EngineActs, Expelled, EngineWorks, ↓list_all_bv, ↓list_all_bv2] <;> decide +kernel,
   by decide +kernel,
   by simp -failIfUnchanged only [Matches, InProgress, first_iff, ↓first_ex, ↓first_is, exists_eq_left'] <;> decide +kernel⟩

theorem met_MessagesArrive_22221 :
    Arriving z5 (arrI (ev 7 3 41 true)) (ev 7 3 41 true) (byt 0) ∧ Receives z5 (ev 7 3 41 true) ∧
    keyOf (ev 7 3 41 true).src % 1024 ≠ 1023 ∧
    ∃ (r : Posted), IsFirst z5.t.msg.posted (fun (r : Posted) => Matches r (ev 7 3 41 true)) r ∧
    InProgress z5.t r.xid z5.t.cpl[slotIx r.xid] ∧ (ev 7 3 41 true).rdv = true ∧ min (ev 7 3 41 true).len r.cap = 0 :=
  ⟨by refine arriving_of (arr (ev 7 3 41 true)) rfl ?_ ?_ ?_ ?_ <;> simp -failIfUnchanged only [Plain] <;> decide +kernel,
   by constructor <;> simp -failIfUnchanged only [EngineActs, Expelled, EngineWorks, ↓list_all_bv, ↓list_all_bv2] <;> decide +kernel,
   by decide +kernel,
   by simp -failIfUnchanged only [Matches, InProgress, first_iff, ↓first_ex, ↓first_is, exists_eq_left'] <;> decide +kernel⟩

theorem met_MessagesArrive_222221 :
    Arriving z6 (arrI (ev 7 3 41 true)) (ev 7 3 41 true) (byt 0) ∧ Receives z6 (ev 7 3 41 true) ∧
    keyOf (ev 7 3 41 true).src % 1024 ≠ 1023 ∧ (∀ (r : Posted), r ∈ z6.t.msg.posted → ¬Matches r (ev 7 3 41 true)) ∧
    z6.t.msg.hamper.length < 256 ∧ (ev 7 3 41 true).rdv = true :=
  ⟨by refine arriving_of (arr (ev 7 3 41 true)) rfl ?_ ?_ ?_ ?_ <;> simp -failIfUnchanged only [Plain] <;> decide +kernel,
   by constructor <;> simp -failIfUnchanged only [EngineActs, Expelled, EngineWorks, ↓list_all_bv, ↓list_all_bv2] <;> decide +kernel,
   by decide +kernel, by simp -failIfUnchanged only [Matches] <;> decide +kernel, by decide +kernel, by decide +kernel⟩

theorem met_MessagesArrive_2222221 :
    Arriving z6 (arrI (ev 7 3 65)) (ev 7 3 65) (byt 65) ∧ Receives z6 (ev 7 3 65) ∧ keyOf (ev 7 3 65).src % 1024 ≠ 1023 ∧
    (∀ (r : Posted), r ∈ z6.t.msg.posted → ¬Matches r (ev 7 3 65)) ∧ z6.t.msg.hamper.length < 256 ∧ (ev 7 3 65).rdv = false ∧
    ∃ (g : Nat), z6.t.findGran (((ev 7 3 65).len + 63) / 64) = some g :=
  ⟨by refine arriving_of (arr (ev 7 3 65)) rfl ?_ ?_ ?_ ?_ <;> simp -failIfUnchanged only [Plain] <;> decide +kernel,
   by constructor <;> simp -failIfUnchanged only [EngineActs, Expelled, EngineWorks, ↓list_all_bv, ↓list_all_bv2] <;> decide +kernel,
   by decide +kernel, by simp -failIfUnchanged only [Matches] <;> decide +kernel, by decide +kernel, by decide +kernel,
   by simp -failIfUnchanged only [↓opt_is] <;> decide +kernel⟩

theorem met_MessagesArrive_22222221 :
    Arriving z7 (arrI (ev 7 3 65)) (ev 7 3 65) (byt 65) ∧ Receives z7 (ev 7 3 65) ∧ keyOf (ev 7 3 65).src % 1024 ≠ 1023 ∧
    (∀ (r : Posted), r ∈ z7.t.msg.posted → ¬Matches r (ev 7 3 65)) ∧ z7.t.msg.hamper.length < 256 ∧ (ev 7 3 65).rdv = false ∧
    z7.t.findGran (((ev 7 3 65).len + 63) / 64) = none :=
  ⟨by refine arriving_of (arr (ev 7 3 65)) rfl ?_ ?_ ?_ ?_ <;> simp -failIfUnchanged only [Plain] <;> decide +kernel,
   by constructor <;> simp -failIfUnchanged only [EngineActs, Expelled, EngineWorks, ↓list_all_bv, ↓list_all_bv2] <;> decide +kernel,
   by decide +kernel, by simp -failIfUnchanged only [Matches] <;> decide +kernel, by decide +kernel, by decide +kernel,
   by decide +kernel⟩

theorem met_MessagesArrive_22222222 :
    Arriving z8 (arrI (ev 7 3 1)) (ev 7 3 1) (byt 1) ∧ Receives z8 (ev 7 3 1) ∧ keyOf (ev 7 3 1).src % 1024 ≠ 1023 ∧
    (∀ (r : Posted), r ∈ z8.t.msg.posted → ¬Matches r (ev 7 3 1)) ∧ (256 : Nat) ≤ z8.t.msg.hamper.length :=
  ⟨by refine arriving_of (arr (ev 7 3 1)) rfl ?_ ?_ ?_ ?_ <;> simp -failIfUnchanged only [Plain] <;> decide +kernel,
   by constructor <;> simp -failIfUnchanged only [EngineActs, Expelled, EngineWorks, ↓list_all_bv, ↓list_all_bv2] <;> decide +kernel,
   by decide +kernel, by simp -failIfUnchanged only [Matches] <;> decide +kernel, by decide +kernel⟩

theorem met_TransfersProceed_11 :
    isHostKey z9.cur = false ∧ EngineActs z9.t (cp 4 0 0).group ∧ z9.t.msg.kept = [] ∧
    InProgress z9.t (cp 4 0 0).xid z9.t.cpl[slotIx (cp 4 0 0).xid] ∧
    (z9.t.cpl[slotIx (cp 4 0 0).xid].op = SlotOp.send ∨ z9.t.cpl[slotIx (cp 4 0 0).xid].op = SlotOp.ssend) ∧ Plain (cp 4 0 0) 4 :=
  ⟨by decide +kernel, by simp -failIfUnchanged only [EngineActs, EngineWorks, ↓list_all_bv, ↓list_all_bv2] <;> decide +kernel,
   by decide +kernel, by simp -failIfUnchanged only [InProgress, exists_eq_left'] <;> decide +kernel, by decide +kernel,
   by simp -failIfUnchanged only [Plain] <;> decide +kernel⟩

theorem met_TransfersProceed_121 :
    isHostKey z10.cur = false ∧ EngineActs z10.t (cp 7 0 0).group ∧ z10.t.msg.kept = [] ∧
    InProgress z10.t (cp 7 0 0).xid z10.t.cpl[slotIx (cp 7 0 0).xid] ∧
    (z10.t.cpl[slotIx (cp 7 0 0).xid].op = SlotOp.send ∨ z10.t.cpl[slotIx (cp 7 0 0).xid].op = SlotOp.ssend) ∧
    Plain (cp 7 0 0) 7 :=
  ⟨by decide +kernel, by simp -failIfUnchanged only [EngineActs, EngineWorks, ↓list_all_bv, ↓list_all_bv2] <;> decide +kernel,
   by decide +kernel, by simp -failIfUnchanged only [InProgress, exists_eq_left'] <;> decide +kernel, by decide +kernel,
   by simp -failIfUnchanged only [Plain] <;> decide +kernel⟩

theorem met_TransfersProceed_1221 :
    isHostKey z10.cur = false ∧ EngineActs z10.t (cp 6 0 0).group ∧ z10.t.msg.kept = [] ∧
    InProgress z10.t (cp 6 0 0).xid z10.t.cpl[slotIx (cp 6 0 0).xid] ∧
    (z10.t.cpl[slotIx (cp 6 0 0).xid].op = SlotOp.send ∨ z10.t.cpl[slotIx (cp 6 0 0).xid].op = SlotOp.ssend) ∧
    Plain (cp 6 0 0) 6 :=
  ⟨by decide +kernel, by simp -failIfUnchanged only [EngineActs, EngineWorks, ↓list_all_bv, ↓list_all_bv2] <;> decide +kernel,
   by decide +kernel, by simp -failIfUnchanged only [InProgress, exists_eq_left'] <;> decide +kernel, by decide +kernel,
   by simp -failIfUnchanged only [Plain] <;> decide +kernel⟩

theorem met_TransfersProceed_12221 :
    isHostKey z11.cur = false ∧ EngineActs z11.t (cp 5 0 0).group ∧ z11.t.msg.kept = [] ∧
    InProgress z11.t (cp 5 0 0).xid z11.t.cpl[slotIx (cp 5 0 0).xid] ∧
    (z11.t.cpl[slotIx (cp 5 0 0).xid].op = SlotOp.send ∨ z11.t.cpl[slotIx (cp 5 0 0).xid].op = SlotOp.ssend) ∧
    Plain (cp 5 0 0) 5 :=
  ⟨by decide +kernel, by simp -failIfUnchanged only [EngineActs, EngineWorks, ↓list_all_bv, ↓list_all_bv2] <;> decide +kernel,
   by decide +kernel, by simp -failIfUnchanged only [InProgress, exists_eq_left'] <;> decide +kernel, by decide +kernel,
   by simp -failIfUnchanged only [Plain] <;> decide +kernel⟩

theorem met_TransfersProceed_122221 :
    isHostKey (st sE).cur = false ∧ EngineActs (st sE).t (cp 2 0 300).group ∧ (st sE).t.msg.kept = [] ∧
    InProgress (st sE).t (cp 2 0 300).xid (st sE).t.cpl[slotIx (cp 2 0 300).xid] ∧
    ((st sE).t.cpl[slotIx (cp 2 0 300).xid].op = SlotOp.send ∨ (st sE).t.cpl[slotIx (cp 2 0 300).xid].op = SlotOp.ssend) ∧
    Plain (cp 2 0 300) 2 ∧ (st sE).t.cpl[slotIx (cp 2 0 300).xid].x.env = some (ev 5 3 300 true) ∧
    (st sE).t.cpl[slotIx (cp 2 0 300).xid].x.hold = none ∧ (¬(cp 2 0 300).xid ∈ (st sE).t.msg.streams) ∧
    NextPiece (cp 2 0 300).ext (cp 2 0 300).off.toNat 0 0 300 ∧
    (st sE).t.badWord ((st sE).t.cpl[slotIx (cp 2 0 300).xid].x.buf + 0) 300 false = none :=
  ⟨by decide +kernel, by simp -failIfUnchanged only [EngineActs, EngineWorks, ↓list_all_bv, ↓list_all_bv2] <;> decide +kernel,
   by decide +kernel, by simp -failIfUnchanged only [InProgress, exists_eq_left'] <;> decide +kernel, by decide +kernel,
   by simp -failIfUnchanged only [Plain] <;> decide +kernel, by decide +kernel, by decide +kernel, by decide +kernel,
   by constructor <;> simp -failIfUnchanged only [↓between_all] <;> decide +kernel, by decide +kernel⟩

theorem met_TransfersProceed_1222221 :
    isHostKey z12.cur = false ∧ EngineActs z12.t (cp 8 3 0).group ∧ z12.t.msg.kept = [] ∧
    InProgress z12.t (cp 8 3 0).xid z12.t.cpl[slotIx (cp 8 3 0).xid] ∧
    (z12.t.cpl[slotIx (cp 8 3 0).xid].op = SlotOp.send ∨ z12.t.cpl[slotIx (cp 8 3 0).xid].op = SlotOp.ssend) ∧
    Plain (cp 8 3 0) 8 ∧ BitVec.getLsbD (cp 8 3 0).ext 0 = false ∧ z12.t.cpl[slotIx (cp 8 3 0).xid].x.peer = (cp 8 3 0).src ∧
    (cp 8 3 0).aux = 3 :=
  ⟨by decide +kernel, by simp -failIfUnchanged only [EngineActs, EngineWorks, ↓list_all_bv, ↓list_all_bv2] <;> decide +kernel,
   by decide +kernel, by simp -failIfUnchanged only [InProgress, exists_eq_left'] <;> decide +kernel, by decide +kernel,
   by simp -failIfUnchanged only [Plain] <;> decide +kernel, by decide +kernel, by decide +kernel, by decide +kernel⟩

theorem met_TransfersProceed_12222221 :
    isHostKey z12.cur = false ∧ EngineActs z12.t (cp 8 4 0).group ∧ z12.t.msg.kept = [] ∧
    InProgress z12.t (cp 8 4 0).xid z12.t.cpl[slotIx (cp 8 4 0).xid] ∧
    (z12.t.cpl[slotIx (cp 8 4 0).xid].op = SlotOp.send ∨ z12.t.cpl[slotIx (cp 8 4 0).xid].op = SlotOp.ssend) ∧
    Plain (cp 8 4 0) 8 ∧ BitVec.getLsbD (cp 8 4 0).ext 0 = false ∧ z12.t.cpl[slotIx (cp 8 4 0).xid].x.peer = (cp 8 4 0).src ∧
    (cp 8 4 0).aux = 4 :=
  ⟨by decide +kernel, by simp -failIfUnchanged only [EngineActs, EngineWorks, ↓list_all_bv, ↓list_all_bv2] <;> decide +kernel,
   by decide +kernel, by simp -failIfUnchanged only [InProgress, exists_eq_left'] <;> decide +kernel, by decide +kernel,
   by simp -failIfUnchanged only [Plain] <;> decide +kernel, by decide +kernel, by decide +kernel, by decide +kernel⟩

theorem met_TransfersProceed_122222221 :
    isHostKey z12.cur = false ∧ EngineActs z12.t (cp 8 5 0).group ∧ z12.t.msg.kept = [] ∧
    InProgress z12.t (cp 8 5 0).xid z12.t.cpl[slotIx (cp 8 5 0).xid] ∧
    (z12.t.cpl[slotIx (cp 8 5 0).xid].op = SlotOp.send ∨ z12.t.cpl[slotIx (cp 8 5 0).xid].op = SlotOp.ssend) ∧
    Plain (cp 8 5 0) 8 ∧ BitVec.getLsbD (cp 8 5 0).ext 0 = false ∧ z12.t.cpl[slotIx (cp 8 5 0).xid].x.peer = (cp 8 5 0).src ∧
    (cp 8 5 0).aux = 5 :=
  ⟨by decide +kernel, by simp -failIfUnchanged only [EngineActs, EngineWorks, ↓list_all_bv, ↓list_all_bv2] <;> decide +kernel,
   by decide +kernel, by simp -failIfUnchanged only [InProgress, exists_eq_left'] <;> decide +kernel, by decide +kernel,
   by simp -failIfUnchanged only [Plain] <;> decide +kernel, by decide +kernel, by decide +kernel, by decide +kernel⟩

theorem met_TransfersProceed_1222222221 :
    isHostKey z12.cur = false ∧ EngineActs z12.t (cp 8 6 0).group ∧ z12.t.msg.kept = [] ∧
    InProgress z12.t (cp 8 6 0).xid z12.t.cpl[slotIx (cp 8 6 0).xid] ∧
    (z12.t.cpl[slotIx (cp 8 6 0).xid].op = SlotOp.send ∨ z12.t.cpl[slotIx (cp 8 6 0).xid].op = SlotOp.ssend) ∧
    Plain (cp 8 6 0) 8 ∧ BitVec.getLsbD (cp 8 6 0).ext 0 = false ∧ z12.t.cpl[slotIx (cp 8 6 0).xid].x.peer = (cp 8 6 0).src ∧
    (cp 8 6 0).aux = 6 :=
  ⟨by decide +kernel, by simp -failIfUnchanged only [EngineActs, EngineWorks, ↓list_all_bv, ↓list_all_bv2] <;> decide +kernel,
   by decide +kernel, by simp -failIfUnchanged only [InProgress, exists_eq_left'] <;> decide +kernel, by decide +kernel,
   by simp -failIfUnchanged only [Plain] <;> decide +kernel, by decide +kernel, by decide +kernel, by decide +kernel⟩

theorem met_TransfersProceed_12222222221 :
    isHostKey z13.cur = false ∧ EngineActs z13.t (cp 8 1 0).group ∧ z13.t.msg.kept = [] ∧
    InProgress z13.t (cp 8 1 0).xid z13.t.cpl[slotIx (cp 8 1 0).xid] ∧
    (z13.t.cpl[slotIx (cp 8 1 0).xid].op = SlotOp.send ∨ z13.t.cpl[slotIx (cp 8 1 0).xid].op = SlotOp.ssend) ∧
    Plain (cp 8 1 0) 8 ∧ BitVec.getLsbD (cp 8 1 0).ext 0 = false ∧ z13.t.cpl[slotIx (cp 8 1 0).xid].x.peer = (cp 8 1 0).src ∧
    z13.t.cpl[slotIx (cp 8 1 0).xid].x.streaming = true ∧ ((cp 8 1 0).aux = 1 ∨ (cp 8 1 0).aux = 2) :=
  ⟨by decide +kernel, by simp -failIfUnchanged only [EngineActs, EngineWorks, ↓list_all_bv, ↓list_all_bv2] <;> decide +kernel,
   by decide +kernel, by simp -failIfUnchanged only [InProgress, exists_eq_left'] <;> decide +kernel, by decide +kernel,
   by simp -failIfUnchanged only [Plain] <;> decide +kernel, by decide +kernel, by decide +kernel, by decide +kernel,
   by decide +kernel⟩

theorem met_TransfersProceed_12222222222 :
    isHostKey z12.cur = false ∧ EngineActs z12.t (cp 8 1 0).group ∧ z12.t.msg.kept = [] ∧
    InProgress z12.t (cp 8 1 0).xid z12.t.cpl[slotIx (cp 8 1 0).xid] ∧
    (z12.t.cpl[slotIx (cp 8 1 0).xid].op = SlotOp.send ∨ z12.t.cpl[slotIx (cp 8 1 0).xid].op = SlotOp.ssend) ∧
    Plain (cp 8 1 0) 8 ∧ BitVec.getLsbD (cp 8 1 0).ext 0 = false ∧ z12.t.cpl[slotIx (cp 8 1 0).xid].x.peer = (cp 8 1 0).src ∧
    z12.t.cpl[slotIx (cp 8 1 0).xid].x.streaming = false ∧ ((cp 8 1 0).aux = 1 ∨ (cp 8 1 0).aux = 2) ∧
    ∃ (m : Packet), z12.t.message z12.t.cpl[slotIx (cp 8 1 0).xid] = some m :=
  ⟨by decide +kernel, by simp -failIfUnchanged only [EngineActs, EngineWorks, ↓list_all_bv, ↓list_all_bv2] <;> decide +kernel,
   by decide +kernel, by simp -failIfUnchanged only [InProgress, exists_eq_left'] <;> decide +kernel, by decide +kernel,
   by simp -failIfUnchanged only [Plain] <;> decide +kernel, by decide +kernel, by decide +kernel, by decide +kernel,
   by decide +kernel, by simp -failIfUnchanged only [↓opt_is] <;> decide +kernel⟩

theorem met_TransfersProceed_21 :
    Plain (cp 2 0 33) 2 ∧ isHostKey z14.cur = false ∧ EngineActs z14.t (cp 2 0 33).group ∧ NoSend z14.t (cp 2 0 33).xid :=
  ⟨by simp -failIfUnchanged only [Plain] <;> decide +kernel, by decide +kernel,
   by simp -failIfUnchanged only [EngineActs, EngineWorks, ↓list_all_bv, ↓list_all_bv2] <;> decide +kernel,
   by simp -failIfUnchanged only [NoSend] <;> decide +kernel⟩

theorem met_TransfersProceed_221 :
    Plain (cx 3) 8 ∧ isHostKey z15.cur = false ∧ EngineActs z15.t (cx 3).group ∧ BitVec.getLsbD (cx 3).ext 0 = true ∧
    ∃ (x : Pulling), IsFirst z15.t.msg.pulls (fun (q : Pulling) => q.env.src = (cx 3).src ∧ q.env.sxid = (cx 3).xid) x ∧
    InProgress z15.t x.xid z15.t.cpl[slotIx x.xid] :=
  ⟨by simp -failIfUnchanged only [Plain] <;> decide +kernel, by decide +kernel,
   by simp -failIfUnchanged only [EngineActs, EngineWorks, ↓list_all_bv, ↓list_all_bv2] <;> decide +kernel, by decide +kernel,
   by simp -failIfUnchanged only [InProgress, first_iff, ↓first_ex, ↓first_is, exists_eq_left'] <;> decide +kernel⟩

theorem met_TransfersProceed_2221 :
    Plain (cp 3 0 0 (byt 40)) 3 ∧ isHostKey z16.cur = false ∧ EngineActs z16.t (cp 3 0 0 (byt 40)).group ∧
    ∃ (x : Pulling), IsFirst z16.t.msg.pulls (fun (q : Pulling) => q.env.src = (cp 3 0 0 (byt 40)).src ∧ q.env.sxid = (cp 3 0 0 (byt 40)).xid) x ∧
    InProgress z16.t x.xid z16.t.cpl[slotIx x.xid] ∧ x.n ≤ (cp 3 0 0 (byt 40)).off.toNat + (cp 3 0 0 (byt 40)).payload.length :=
  ⟨by simp -failIfUnchanged only [Plain] <;> decide +kernel, by decide +kernel,
   by simp -failIfUnchanged only [EngineActs, EngineWorks, ↓list_all_bv, ↓list_all_bv2] <;> decide +kernel,
   by simp -failIfUnchanged only [InProgress, first_iff, ↓first_ex, ↓first_is, exists_eq_left'] <;> decide +kernel⟩

theorem met_TransfersProceed_2222 :
    isHostKey z17.cur = false ∧ EngineWorks z17.t ∧
    z17.t.msg.kept = [{ pkt := arr (ev 5 3 20), away := false, due := 999 : Kept }] ∧
    { pkt := arr (ev 5 3 20), away := false, due := 999 : Kept }.away = false ∧
    { pkt := arr (ev 5 3 20), away := false, due := 999 : Kept }.due ≤ z17.now ∧
    pktEvent { pkt := arr (ev 5 3 20), away := false, due := 999 : Kept }.pkt ≠ none :=
  ⟨by decide +kernel, by simp -failIfUnchanged only [EngineWorks, ↓list_all_bv, ↓list_all_bv2] <;> decide +kernel, by decide +kernel,
   by decide +kernel, by decide +kernel, by decide +kernel⟩

theorem met_TransfersAreObserved_1 :
    (¬(z18.t.cpl[slotIx (BitVec.setWidth 16 (z18.rdS (Reg.s 1)))].used = true ∧ z18.t.cpl[slotIx (BitVec.setWidth 16 (z18.rdS (Reg.s 1)))].seq = xidSeq (BitVec.setWidth 16 (z18.rdS (Reg.s 1))))) :=
  by decide +kernel

theorem met_TransfersAreObserved_21 :
    z19.t.cpl[slotIx (BitVec.setWidth 16 (z19.rdS (Reg.s 1)))].used = true ∧
    z19.t.cpl[slotIx (BitVec.setWidth 16 (z19.rdS (Reg.s 1)))].seq = xidSeq (BitVec.setWidth 16 (z19.rdS (Reg.s 1))) ∧
    z19.t.cpl[slotIx (BitVec.setWidth 16 (z19.rdS (Reg.s 1)))].state ≠ 0 ∧
    z19.t.cpl[slotIx (BitVec.setWidth 16 (z19.rdS (Reg.s 1)))].nanMis = true :=
  by decide +kernel

theorem met_TransfersAreObserved_221 :
    z20.t.cpl[slotIx (BitVec.setWidth 16 (z20.rdS (Reg.s 1)))].used = true ∧
    z20.t.cpl[slotIx (BitVec.setWidth 16 (z20.rdS (Reg.s 1)))].seq = xidSeq (BitVec.setWidth 16 (z20.rdS (Reg.s 1))) ∧
    (¬(z20.t.cpl[slotIx (BitVec.setWidth 16 (z20.rdS (Reg.s 1)))].state ≠ 0 ∧ z20.t.cpl[slotIx (BitVec.setWidth 16 (z20.rdS (Reg.s 1)))].nanMis = true)) ∧
    ∃ (t : State), z20.wrS Attr.plain 1 (Reg.s 1) (BitVec.ofNat 64 (((if z20.t.cpl[slotIx (BitVec.setWidth 16 (z20.rdS (Reg.s 1)))].bits &&& z20.rdS (Reg.s 1) = z20.rdS (Reg.s 1) then 1 else 0) + if z20.t.cpl[slotIx (BitVec.setWidth 16 (z20.rdS (Reg.s 1)))].state = 0 then 0 else 2) + 2 ^ 4 * z20.t.cpl[slotIx (BitVec.setWidth 16 (z20.rdS (Reg.s 1)))].state.toNat)) = Except.ok t :=
  ⟨by decide +kernel, by decide +kernel, by decide +kernel, by simp -failIfUnchanged only [↓ok_is, ok_iff] <;> decide +kernel⟩

theorem met_TransfersAreObserved_22211 :
    z21.t.cpl[slotIx (BitVec.setWidth 16 (z21.rdS (Reg.s 1)))].used = true ∧
    z21.t.cpl[slotIx (BitVec.setWidth 16 (z21.rdS (Reg.s 1)))].seq = xidSeq (BitVec.setWidth 16 (z21.rdS (Reg.s 1))) ∧
    (¬(z21.t.cpl[slotIx (BitVec.setWidth 16 (z21.rdS (Reg.s 1)))].state ≠ 0 ∧ z21.t.cpl[slotIx (BitVec.setWidth 16 (z21.rdS (Reg.s 1)))].nanMis = true)) ∧
    (z21.t.cpl[slotIx (BitVec.setWidth 16 (z21.rdS (Reg.s 1)))].state ≠ 0 ∨ z21.rdS (Reg.s 1) ≠ 0 ∧ z21.t.cpl[slotIx (BitVec.setWidth 16 (z21.rdS (Reg.s 1)))].bits &&& z21.rdS (Reg.s 1) = z21.rdS (Reg.s 1)) :=
  by decide +kernel

theorem met_TransfersAreObserved_22212 :
    z20.t.cpl[slotIx (BitVec.setWidth 16 (z20.rdS (Reg.s 1)))].used = true ∧
    z20.t.cpl[slotIx (BitVec.setWidth 16 (z20.rdS (Reg.s 1)))].seq = xidSeq (BitVec.setWidth 16 (z20.rdS (Reg.s 1))) ∧
    (¬(z20.t.cpl[slotIx (BitVec.setWidth 16 (z20.rdS (Reg.s 1)))].state ≠ 0 ∧ z20.t.cpl[slotIx (BitVec.setWidth 16 (z20.rdS (Reg.s 1)))].nanMis = true)) ∧
    z20.t.cpl[slotIx (BitVec.setWidth 16 (z20.rdS (Reg.s 1)))].state = 0 ∧
    (z20.rdS (Reg.s 1) = 0 ∨ z20.t.cpl[slotIx (BitVec.setWidth 16 (z20.rdS (Reg.s 1)))].bits &&& z20.rdS (Reg.s 1) ≠ z20.rdS (Reg.s 1)) :=
  by decide +kernel

theorem met_TransfersAreObserved_22221 :
    z20.t.cpl[slotIx (BitVec.setWidth 16 (z20.rdS (Reg.s 1)))].used = true ∧
    z20.t.cpl[slotIx (BitVec.setWidth 16 (z20.rdS (Reg.s 1)))].seq = xidSeq (BitVec.setWidth 16 (z20.rdS (Reg.s 1))) ∧
    (¬(z20.t.cpl[slotIx (BitVec.setWidth 16 (z20.rdS (Reg.s 1)))].state ≠ 0 ∧ z20.t.cpl[slotIx (BitVec.setWidth 16 (z20.rdS (Reg.s 1)))].nanMis = true)) ∧
    ∃ (t : State), z20.delay.snd.wrS Attr.plain (2 + min 4 z20.delay.fst) (Reg.s 1) (BitVec.ofNat 64 (if true = true then z20.t.cpl[slotIx (BitVec.setWidth 16 (z20.rdS (Reg.s 1)))].status.toNat / 2 ^ 64 else z20.t.cpl[slotIx (BitVec.setWidth 16 (z20.rdS (Reg.s 1)))].status.toNat)) = Except.ok t :=
  ⟨by decide +kernel, by decide +kernel, by decide +kernel, by simp -failIfUnchanged only [↓ok_is, ok_iff] <;> decide +kernel⟩

theorem met_TransfersAreObserved_222221 :
    z20.t.cpl[slotIx (BitVec.setWidth 16 (z20.rdS (Reg.s 1)))].used = true ∧
    z20.t.cpl[slotIx (BitVec.setWidth 16 (z20.rdS (Reg.s 1)))].seq = xidSeq (BitVec.setWidth 16 (z20.rdS (Reg.s 1))) ∧
    z20.t.cpl[slotIx (BitVec.setWidth 16 (z20.rdS (Reg.s 1)))].state = 0 :=
  by decide +kernel

theorem met_TransfersAreObserved_222222 :
    z21.t.cpl[slotIx (BitVec.setWidth 16 (z21.rdS (Reg.s 1)))].used = true ∧
    z21.t.cpl[slotIx (BitVec.setWidth 16 (z21.rdS (Reg.s 1)))].seq = xidSeq (BitVec.setWidth 16 (z21.rdS (Reg.s 1))) ∧
    z21.t.cpl[slotIx (BitVec.setWidth 16 (z21.rdS (Reg.s 1)))].state ≠ 0 :=
  by decide +kernel

end Moving

end Sys2Proof.Tests
end

