-- ==== Sys2Proof/Tests/MetMoons.lean ====
section
/-!
SUPPORT. States that meet the hypotheses of the statements about moon transfers: `met_<Obligation>_<path>` meets those of the
clause at that place of the statement (1: the left side of a conjunction, 2: the right side).
-/

set_option linter.unusedVariables false
set_option linter.unusedSimpArgs false

namespace Sys2Proof.Tests

set_option Elab.async false

open Machine

namespace Request

def gmv (t : Tile) : Tile := { t with csr := { t.csr with gm := (tile.csr.gm.set 1 0x1000A), hampbase := 0x40000, hampsize := 0x4000 } }

def buf (a l : Nat) : W64 := BitVec.ofNat 64 (a + 2^20*l)
def eT (s1 s2 s3 : W64) : Tile := let t := gmv (withS [s1,s2,s3] tile); { t with spm := Mem.write [] 64 ((List.range 200).map fun i => BitVec.ofNat 8 (i+1)), cpl := t.cpl.set 0 (slot .mget 7) }

def atT (moon : Nat) (addr a b : Nat) (s1 : W64 := 0x100) : Tile := let t := withS [s1] tile; { t with spm := Mem.write [] 0x100 (bytesOf (moon + 2^64*addr+2^128*a+2^192*b) 48), thr := { t.thr with asid := 9 } }
def exS (ent : ErtEnt) (s1 s2 s3 : W64) : State := let t := withS [s1,s2,s3] tile; { st { t with thr := { t.thr with asid := 9 } } with ert := { Ert.reset with ent := [(4, ent)] } }

def ent (st : BitVec 3) : ErtEnt := { ErtEnt.reset with state := st, asid := 9, moon := 3, pdie := 1, base := 77, size := 6, splitm1 := 0, readers := 5 }
def pcs (l : List (Option Byte)) : List Piece := l.zipIdx.map fun q => ⟨16*q.2, 16, 0x120, 0x1000, true, q.1⟩

def mrT (op : SlotOp) (l : List (Option Byte)) (ex : Option W16 := none) : State := let t := tile; { st { t with cpl := t.cpl.set 3 { slot op 1 with uli := true, length := 16 * l.length, x := { Xfer.empty with buf := 0x1000, len := 16 * l.length, pieces := pcs l, expert := ex } } } with ert := { Ert.reset with ent := [(4, ent 2)] } }
def mrp (status reason chunk : Nat) (val : Nat) (data : List Byte) : Packet := mkPacket 0x120 5 0x11 0 0x43 0 0 (bytesOf (status + 2^8*reason+2^16*chunk+2^32*0x43+2^64*val) 16 ++ data)

def byt (n : Nat) : List Byte := (List.range n).map fun i => BitVec.ofNat 8 (i+1)
def z1 : State := (st (eT 0xFFF0 (buf 0x1000 0) 0x120))

def z2 : State := (st (eT 0xFFF0 (buf 0x1000 40) 0x120))
def z3 : State := (st (eT 0xFFF0 (buf 64 0) 0x120))

def z4 : State := (st (eT 0xFFF0 (buf 64 40) 0x120))
def z5 : State := (st (atT 0x120 0x12345678 5 0))

def z6 : State := (st (atT 0x120 0x12345678 5 8))
def z7 : State := (exS (ent 4) 4 (buf 65 5000) 0x100005F00)

def z8 : State := (exS (ent 1) 4 (buf 64 5000) 0x1FF00)
def z9 : State := (exS (ent 2) 4 (buf 64 5000) 0x1FF00)

def z10 : State := (mrT .mget [some 0, none, some 0])
def z11 : State := (mrT .mput [some 0, none, some 0])

def z12 : State := (mrT .matom [none])
def z13 : State := (mrT .mput [some 0, none, none])

def z14 : State := (mrT .exget [some 0, none, some 0] (some 4))

theorem met_MoonTransfersRequest_1211 :
    ∃ (x : EngOp), engOp z1 (Instr.mget p true (Reg.s 9) (Reg.s 1) (Reg.s 2) (Reg.s 3)) = some x ∧ z1.t.isSpec = false ∧
    LowestFree z1.t 1 ∧ CanTake z1 p (Reg.s 9) ∧ x.reason = none ∧ bufLen (z1.rdS (Reg.s 2)) = 0 :=
  ⟨_, rfl, by decide +kernel, by simp -failIfUnchanged only [LowestFree] <;> decide +kernel, ⟨_, rfl⟩, by decide +kernel,
   by decide +kernel⟩

theorem met_MoonTransfersRequest_1212 :
    ∃ (x : EngOp), engOp z2 (Instr.mget p true (Reg.s 9) (Reg.s 1) (Reg.s 2) (Reg.s 3)) = some x ∧ z2.t.isSpec = false ∧
    LowestFree z2.t 1 ∧ CanTake z2 p (Reg.s 9) ∧ x.reason = none ∧ 0 < bufLen (z2.rdS (Reg.s 2)) :=
  ⟨_, rfl, by decide +kernel, by simp -failIfUnchanged only [LowestFree] <;> decide +kernel, ⟨_, rfl⟩, by decide +kernel,
   by decide +kernel⟩

theorem met_MoonTransfersRequest_1221 :
    ∃ (x : EngOp), engOp z3 (Instr.mput p true (Reg.s 9) (Reg.s 1) (Reg.s 2) (Reg.s 3)) = some x ∧ z3.t.isSpec = false ∧
    LowestFree z3.t 1 ∧ CanTake z3 p (Reg.s 9) ∧ x.reason = none ∧ bufLen (z3.rdS (Reg.s 2)) = 0 :=
  ⟨_, rfl, by decide +kernel, by simp -failIfUnchanged only [LowestFree] <;> decide +kernel, ⟨_, rfl⟩, by decide +kernel,
   by decide +kernel⟩

theorem met_MoonTransfersRequest_1222 :
    ∃ (x : EngOp), engOp z4 (Instr.mput p true (Reg.s 9) (Reg.s 1) (Reg.s 2) (Reg.s 3)) = some x ∧ z4.t.isSpec = false ∧
    LowestFree z4.t 1 ∧ CanTake z4 p (Reg.s 9) ∧ x.reason = none ∧ 0 < bufLen (z4.rdS (Reg.s 2)) :=
  ⟨_, rfl, by decide +kernel, by simp -failIfUnchanged only [LowestFree] <;> decide +kernel, ⟨_, rfl⟩, by decide +kernel,
   by decide +kernel⟩

theorem met_MoonTransfersRequest_2111 :
    z5.t.isSpec = false ∧ LowestFree z5.t 0 ∧ CanTake z5 p (Reg.s 9) ∧ atomReason z5 AtomOp.add true (Reg.s 1) = none :=
  ⟨by decide +kernel, by simp -failIfUnchanged only [LowestFree] <;> decide +kernel, ⟨_, rfl⟩, by decide +kernel⟩

theorem met_MoonTransfersRequest_2112 :
    z6.t.isSpec = false ∧ LowestFree z6.t 0 ∧ CanTake z6 p (Reg.s 9) ∧
    ∃ (q : Nat), atomReason z6 AtomOp.smin false (Reg.s 1) = some q :=
  ⟨by decide +kernel, by simp -failIfUnchanged only [LowestFree] <;> decide +kernel, ⟨_, rfl⟩,
   by simp -failIfUnchanged only [↓opt_is] <;> decide +kernel⟩

theorem met_MoonTransfersRequest_2121 :
    z7.t.isSpec = false ∧ LowestFree z7.t 0 ∧ CanTake z7 p (Reg.s 9) ∧
    z7.isFrozen 0 (BitVec.setWidth 16 (z7.rdS (Reg.s 1))).toNat = false ∧
    (bufBad z7 (z7.rdS (Reg.s 2)) = true ∨ 2 ^ (16 : Nat) ≤ BitVec.toNat (z7.rdS (Reg.s 1)) ∨ 2 ^ (32 : Nat) ≤ BitVec.toNat (z7.rdS (Reg.s 3))) :=
  ⟨by decide +kernel, by simp -failIfUnchanged only [LowestFree] <;> decide +kernel, ⟨_, rfl⟩, by decide +kernel,
   by decide +kernel⟩

theorem met_MoonTransfersRequest_21221 :
    z8.t.isSpec = false ∧ LowestFree z8.t 0 ∧ CanTake z8 p (Reg.s 9) ∧
    z8.isFrozen 0 (BitVec.setWidth 16 (z8.rdS (Reg.s 1))).toNat = false ∧
    (¬(bufBad z8 (z8.rdS (Reg.s 2)) = true ∨ 2 ^ (16 : Nat) ≤ BitVec.toNat (z8.rdS (Reg.s 1)) ∨ 2 ^ (32 : Nat) ≤ BitVec.toNat (z8.rdS (Reg.s 3)))) ∧
    (¬(BitVec.setWidth 16 (z8.rdS (Reg.s 1)) ≠ 65535 ∧ ((z8.ertEnt (BitVec.setWidth 16 (z8.rdS (Reg.s 1)))).state = 2 ∨ (z8.ertEnt (BitVec.setWidth 16 (z8.rdS (Reg.s 1)))).state = 3 ∨ (z8.ertEnt (BitVec.setWidth 16 (z8.rdS (Reg.s 1)))).state = 4) ∧ (z8.ertEnt (BitVec.setWidth 16 (z8.rdS (Reg.s 1)))).asid = z8.t.thr.asid ∧ (z8.ertEnt (BitVec.setWidth 16 (z8.rdS (Reg.s 1)))).readers ≠ 65535 ∧ BitVec.toNat (z8.rdS (Reg.s 3)) % 2 ^ 32 + bufLen (z8.rdS (Reg.s 2)) ≤ BitVec.toNat (z8.ertEnt (BitVec.setWidth 16 (z8.rdS (Reg.s 1)))).size * 65536)) :=
  ⟨by decide +kernel, by simp -failIfUnchanged only [LowestFree] <;> decide +kernel, ⟨_, rfl⟩, by decide +kernel,
   by decide +kernel, by decide +kernel⟩

theorem met_MoonTransfersRequest_212221 :
    z9.t.isSpec = false ∧ LowestFree z9.t 0 ∧ CanTake z9 p (Reg.s 9) ∧
    z9.isFrozen 0 (BitVec.setWidth 16 (z9.rdS (Reg.s 1))).toNat = false ∧
    (¬(bufBad z9 (z9.rdS (Reg.s 2)) = true ∨ 2 ^ (16 : Nat) ≤ BitVec.toNat (z9.rdS (Reg.s 1)) ∨ 2 ^ (32 : Nat) ≤ BitVec.toNat (z9.rdS (Reg.s 3)))) ∧
    BitVec.setWidth 16 (z9.rdS (Reg.s 1)) ≠ 65535 ∧
    ((z9.ertEnt (BitVec.setWidth 16 (z9.rdS (Reg.s 1)))).state = 2 ∨ (z9.ertEnt (BitVec.setWidth 16 (z9.rdS (Reg.s 1)))).state = 3 ∨ (z9.ertEnt (BitVec.setWidth 16 (z9.rdS (Reg.s 1)))).state = 4) ∧
    (z9.ertEnt (BitVec.setWidth 16 (z9.rdS (Reg.s 1)))).asid = z9.t.thr.asid ∧
    (z9.ertEnt (BitVec.setWidth 16 (z9.rdS (Reg.s 1)))).readers ≠ 65535 ∧
    BitVec.toNat (z9.rdS (Reg.s 3)) % 2 ^ 32 + bufLen (z9.rdS (Reg.s 2)) ≤ BitVec.toNat (z9.ertEnt (BitVec.setWidth 16 (z9.rdS (Reg.s 1)))).size * 65536 ∧
    0 < bufLen (z9.rdS (Reg.s 2)) :=
  ⟨by decide +kernel, by simp -failIfUnchanged only [LowestFree] <;> decide +kernel, ⟨_, rfl⟩, by decide +kernel,
   by decide +kernel, by decide +kernel, by decide +kernel, by decide +kernel, by decide +kernel, by decide +kernel,
   by decide +kernel⟩

theorem met_MoonTransfersRequest_212222 :
    z9.t.isSpec = false ∧ LowestFree z9.t 0 ∧ CanTake z9 p (Reg.s 9) ∧
    z9.isFrozen 0 (BitVec.setWidth 16 (z9.rdS (Reg.s 1))).toNat = false ∧
    (¬(bufBad z9 (z9.rdS (Reg.s 2)) = true ∨ 2 ^ (16 : Nat) ≤ BitVec.toNat (z9.rdS (Reg.s 1)) ∨ 2 ^ (32 : Nat) ≤ BitVec.toNat (z9.rdS (Reg.s 3)))) ∧
    BitVec.setWidth 16 (z9.rdS (Reg.s 1)) ≠ 65535 ∧
    ((z9.ertEnt (BitVec.setWidth 16 (z9.rdS (Reg.s 1)))).state = 2 ∨ (z9.ertEnt (BitVec.setWidth 16 (z9.rdS (Reg.s 1)))).state = 3 ∨ (z9.ertEnt (BitVec.setWidth 16 (z9.rdS (Reg.s 1)))).state = 4) ∧
    (z9.ertEnt (BitVec.setWidth 16 (z9.rdS (Reg.s 1)))).asid = z9.t.thr.asid ∧
    (z9.ertEnt (BitVec.setWidth 16 (z9.rdS (Reg.s 1)))).readers ≠ 65535 ∧
    BitVec.toNat (z9.rdS (Reg.s 3)) % 2 ^ 32 + bufLen (z9.rdS (Reg.s 2)) ≤ BitVec.toNat (z9.ertEnt (BitVec.setWidth 16 (z9.rdS (Reg.s 1)))).size * 65536 ∧
    0 < bufLen (z9.rdS (Reg.s 2)) ∧ (z9.ertEnt (BitVec.setWidth 16 (z9.rdS (Reg.s 1)))).splitm1 = 0 :=
  ⟨by decide +kernel, by simp -failIfUnchanged only [LowestFree] <;> decide +kernel, ⟨_, rfl⟩, by decide +kernel,
   by decide +kernel, by decide +kernel, by decide +kernel, by decide +kernel, by decide +kernel, by decide +kernel,
   by decide +kernel, by decide +kernel⟩

theorem met_MoonTransfersRequest_221 :
    Plain (mrp 1 0 1 0 (byt 16)) 17 ∧
    (¬((mrp 1 0 1 0 (byt 16)).src, BitVec.ofNat 16 (ofBytes (List.take 16 (mrp 1 0 1 0 (byt 16)).payload) / 2 ^ 32 % 2 ^ 16), 1) ∈ z10.t.msg.orphans) ∧
    (∀ (j : Job), j ∈ z10.jobs → ¬(j.owner = (mrp 1 0 1 0 (byt 16)).dst ∧ j.xid = BitVec.ofNat 16 (ofBytes (List.take 16 (mrp 1 0 1 0 (byt 16)).payload) / 2 ^ 32 % 2 ^ 16))) ∧
    InProgress z10.t (BitVec.ofNat 16 (ofBytes (List.take 16 (mrp 1 0 1 0 (byt 16)).payload) / 2 ^ 32 % 2 ^ 16)) z10.t.cpl[slotIx (BitVec.ofNat 16 (ofBytes (List.take 16 (mrp 1 0 1 0 (byt 16)).payload) / 2 ^ 32 % 2 ^ 16))] ∧
    z10.t.isSpec = false ∧ ofBytes (List.take 16 (mrp 1 0 1 0 (byt 16)).payload) / 2 ^ 16 % 2 ^ 16 = 1 ∧
    ∃ (x : Piece), z10.t.cpl[slotIx (BitVec.ofNat 16 (ofBytes (List.take 16 (mrp 1 0 1 0 (byt 16)).payload) / 2 ^ 32 % 2 ^ 16))].x.pieces[1]? = some x ∧
    x.reply = none ∧
    (z10.t.cpl[slotIx (BitVec.ofNat 16 (ofBytes (List.take 16 (mrp 1 0 1 0 (byt 16)).payload) / 2 ^ 32 % 2 ^ 16))].x.expert = none ∨ z10.t.cpl[slotIx (BitVec.ofNat 16 (ofBytes (List.take 16 (mrp 1 0 1 0 (byt 16)).payload) / 2 ^ 32 % 2 ^ 16))].op = SlotOp.exget) ∧
    ofBytes (List.take 16 (mrp 1 0 1 0 (byt 16)).payload) % 16 = 1 ∧
    z10.t.cpl[slotIx (BitVec.ofNat 16 (ofBytes (List.take 16 (mrp 1 0 1 0 (byt 16)).payload) / 2 ^ 32 % 2 ^ 16))].op = SlotOp.mget ∧
    (∀ (j : Nat) (r : Piece), j ≠ 1 → z10.t.cpl[slotIx (BitVec.ofNat 16 (ofBytes (List.take 16 (mrp 1 0 1 0 (byt 16)).payload) / 2 ^ 32 % 2 ^ 16))].x.pieces[j]? = some r → r.reply = some 0) :=
  ⟨by simp -failIfUnchanged only [Plain] <;> decide +kernel, by decide +kernel, by decide +kernel,
   by simp -failIfUnchanged only [InProgress, exists_eq_left'] <;> decide +kernel, by decide +kernel, by decide +kernel,
   by simp -failIfUnchanged only [↓opt_all, ↓opt_ex, ↓opt_is, ↓others_all] <;> decide +kernel⟩

theorem met_MoonTransfersRequest_2221 :
    Plain (mrp 1 0 1 0 []) 17 ∧
    (¬((mrp 1 0 1 0 []).src, BitVec.ofNat 16 (ofBytes (List.take 16 (mrp 1 0 1 0 []).payload) / 2 ^ 32 % 2 ^ 16), 1) ∈ z11.t.msg.orphans) ∧
    (∀ (j : Job), j ∈ z11.jobs → ¬(j.owner = (mrp 1 0 1 0 []).dst ∧ j.xid = BitVec.ofNat 16 (ofBytes (List.take 16 (mrp 1 0 1 0 []).payload) / 2 ^ 32 % 2 ^ 16))) ∧
    InProgress z11.t (BitVec.ofNat 16 (ofBytes (List.take 16 (mrp 1 0 1 0 []).payload) / 2 ^ 32 % 2 ^ 16)) z11.t.cpl[slotIx (BitVec.ofNat 16 (ofBytes (List.take 16 (mrp 1 0 1 0 []).payload) / 2 ^ 32 % 2 ^ 16))] ∧
    z11.t.isSpec = false ∧ ofBytes (List.take 16 (mrp 1 0 1 0 []).payload) / 2 ^ 16 % 2 ^ 16 = 1 ∧
    ∃ (x : Piece), z11.t.cpl[slotIx (BitVec.ofNat 16 (ofBytes (List.take 16 (mrp 1 0 1 0 []).payload) / 2 ^ 32 % 2 ^ 16))].x.pieces[1]? = some x ∧
    x.reply = none ∧
    (z11.t.cpl[slotIx (BitVec.ofNat 16 (ofBytes (List.take 16 (mrp 1 0 1 0 []).payload) / 2 ^ 32 % 2 ^ 16))].x.expert = none ∨ z11.t.cpl[slotIx (BitVec.ofNat 16 (ofBytes (List.take 16 (mrp 1 0 1 0 []).payload) / 2 ^ 32 % 2 ^ 16))].op = SlotOp.exget) ∧
    ofBytes (List.take 16 (mrp 1 0 1 0 []).payload) % 16 = 1 ∧
    z11.t.cpl[slotIx (BitVec.ofNat 16 (ofBytes (List.take 16 (mrp 1 0 1 0 []).payload) / 2 ^ 32 % 2 ^ 16))].op = SlotOp.mput ∧
    (∀ (j : Nat) (r : Piece), j ≠ 1 → z11.t.cpl[slotIx (BitVec.ofNat 16 (ofBytes (List.take 16 (mrp 1 0 1 0 []).payload) / 2 ^ 32 % 2 ^ 16))].x.pieces[j]? = some r → r.reply = some 0) :=
  ⟨by simp -failIfUnchanged only [Plain] <;> decide +kernel, by decide +kernel, by decide +kernel,
   by simp -failIfUnchanged only [InProgress, exists_eq_left'] <;> decide +kernel, by decide +kernel, by decide +kernel,
   by simp -failIfUnchanged only [↓opt_all, ↓opt_ex, ↓opt_is, ↓others_all] <;> decide +kernel⟩

theorem met_MoonTransfersRequest_22221 :
    Plain (mrp 1 0 0 78187493520 []) 17 ∧
    (¬((mrp 1 0 0 78187493520 []).src, BitVec.ofNat 16 (ofBytes (List.take 16 (mrp 1 0 0 78187493520 []).payload) / 2 ^ 32 % 2 ^ 16), 0) ∈ z12.t.msg.orphans) ∧
    (∀ (j : Job), j ∈ z12.jobs → ¬(j.owner = (mrp 1 0 0 78187493520 []).dst ∧ j.xid = BitVec.ofNat 16 (ofBytes (List.take 16 (mrp 1 0 0 78187493520 []).payload) / 2 ^ 32 % 2 ^ 16))) ∧
    InProgress z12.t (BitVec.ofNat 16 (ofBytes (List.take 16 (mrp 1 0 0 78187493520 []).payload) / 2 ^ 32 % 2 ^ 16)) z12.t.cpl[slotIx (BitVec.ofNat 16 (ofBytes (List.take 16 (mrp 1 0 0 78187493520 []).payload) / 2 ^ 32 % 2 ^ 16))] ∧
    z12.t.isSpec = false ∧ ofBytes (List.take 16 (mrp 1 0 0 78187493520 []).payload) / 2 ^ 16 % 2 ^ 16 = 0 ∧
    ∃ (x : Piece), z12.t.cpl[slotIx (BitVec.ofNat 16 (ofBytes (List.take 16 (mrp 1 0 0 78187493520 []).payload) / 2 ^ 32 % 2 ^ 16))].x.pieces[0]? = some x ∧
    x.reply = none ∧
    (z12.t.cpl[slotIx (BitVec.ofNat 16 (ofBytes (List.take 16 (mrp 1 0 0 78187493520 []).payload) / 2 ^ 32 % 2 ^ 16))].x.expert = none ∨ z12.t.cpl[slotIx (BitVec.ofNat 16 (ofBytes (List.take 16 (mrp 1 0 0 78187493520 []).payload) / 2 ^ 32 % 2 ^ 16))].op = SlotOp.exget) ∧
    ofBytes (List.take 16 (mrp 1 0 0 78187493520 []).payload) % 16 = 1 ∧
    z12.t.cpl[slotIx (BitVec.ofNat 16 (ofBytes (List.take 16 (mrp 1 0 0 78187493520 []).payload) / 2 ^ 32 % 2 ^ 16))].op = SlotOp.matom ∧
    (∀ (j : Nat) (r : Piece), j ≠ 0 → z12.t.cpl[slotIx (BitVec.ofNat 16 (ofBytes (List.take 16 (mrp 1 0 0 78187493520 []).payload) / 2 ^ 32 % 2 ^ 16))].x.pieces[j]? = some r → r.reply = some 0) :=
  ⟨by simp -failIfUnchanged only [Plain] <;> decide +kernel, by decide +kernel, by decide +kernel,
   by simp -failIfUnchanged only [InProgress, exists_eq_left'] <;> decide +kernel, by decide +kernel, by decide +kernel,
   by simp -failIfUnchanged only [↓opt_all, ↓opt_ex, ↓opt_is, ↓others_all] <;> decide +kernel⟩

theorem met_MoonTransfersRequest_222221 :
    Plain (mrp 1 0 1 0 []) 17 ∧
    (¬((mrp 1 0 1 0 []).src, BitVec.ofNat 16 (ofBytes (List.take 16 (mrp 1 0 1 0 []).payload) / 2 ^ 32 % 2 ^ 16), 1) ∈ z13.t.msg.orphans) ∧
    (∀ (j : Job), j ∈ z13.jobs → ¬(j.owner = (mrp 1 0 1 0 []).dst ∧ j.xid = BitVec.ofNat 16 (ofBytes (List.take 16 (mrp 1 0 1 0 []).payload) / 2 ^ 32 % 2 ^ 16))) ∧
    InProgress z13.t (BitVec.ofNat 16 (ofBytes (List.take 16 (mrp 1 0 1 0 []).payload) / 2 ^ 32 % 2 ^ 16)) z13.t.cpl[slotIx (BitVec.ofNat 16 (ofBytes (List.take 16 (mrp 1 0 1 0 []).payload) / 2 ^ 32 % 2 ^ 16))] ∧
    z13.t.isSpec = false ∧ ofBytes (List.take 16 (mrp 1 0 1 0 []).payload) / 2 ^ 16 % 2 ^ 16 = 1 ∧
    ∃ (x : Piece), z13.t.cpl[slotIx (BitVec.ofNat 16 (ofBytes (List.take 16 (mrp 1 0 1 0 []).payload) / 2 ^ 32 % 2 ^ 16))].x.pieces[1]? = some x ∧
    x.reply = none ∧
    (z13.t.cpl[slotIx (BitVec.ofNat 16 (ofBytes (List.take 16 (mrp 1 0 1 0 []).payload) / 2 ^ 32 % 2 ^ 16))].x.expert = none ∨ z13.t.cpl[slotIx (BitVec.ofNat 16 (ofBytes (List.take 16 (mrp 1 0 1 0 []).payload) / 2 ^ 32 % 2 ^ 16))].op = SlotOp.exget) ∧
    ofBytes (List.take 16 (mrp 1 0 1 0 []).payload) % 16 = 1 ∧
    z13.t.cpl[slotIx (BitVec.ofNat 16 (ofBytes (List.take 16 (mrp 1 0 1 0 []).payload) / 2 ^ 32 % 2 ^ 16))].op = SlotOp.mput ∧
    (∃ (j : Nat), ∃ (r : Piece), j ≠ 1 ∧ z13.t.cpl[slotIx (BitVec.ofNat 16 (ofBytes (List.take 16 (mrp 1 0 1 0 []).payload) / 2 ^ 32 % 2 ^ 16))].x.pieces[j]? = some r ∧ r.reply = none) :=
  ⟨by simp -failIfUnchanged only [Plain] <;> decide +kernel, by decide +kernel, by decide +kernel,
   by simp -failIfUnchanged only [InProgress, exists_eq_left'] <;> decide +kernel, by decide +kernel, by decide +kernel,
   by simp -failIfUnchanged only [↓opt_ex, ↓opt_is, ↓others_ex] <;> decide +kernel⟩

theorem met_MoonTransfersRequest_2222221 :
    Plain (mrp 2 5 1 0 []) 17 ∧
    (¬((mrp 2 5 1 0 []).src, BitVec.ofNat 16 (ofBytes (List.take 16 (mrp 2 5 1 0 []).payload) / 2 ^ 32 % 2 ^ 16), 1) ∈ z10.t.msg.orphans) ∧
    (∀ (j : Job), j ∈ z10.jobs → ¬(j.owner = (mrp 2 5 1 0 []).dst ∧ j.xid = BitVec.ofNat 16 (ofBytes (List.take 16 (mrp 2 5 1 0 []).payload) / 2 ^ 32 % 2 ^ 16))) ∧
    InProgress z10.t (BitVec.ofNat 16 (ofBytes (List.take 16 (mrp 2 5 1 0 []).payload) / 2 ^ 32 % 2 ^ 16)) z10.t.cpl[slotIx (BitVec.ofNat 16 (ofBytes (List.take 16 (mrp 2 5 1 0 []).payload) / 2 ^ 32 % 2 ^ 16))] ∧
    z10.t.isSpec = false ∧ ofBytes (List.take 16 (mrp 2 5 1 0 []).payload) / 2 ^ 16 % 2 ^ 16 = 1 ∧
    ∃ (x : Piece), z10.t.cpl[slotIx (BitVec.ofNat 16 (ofBytes (List.take 16 (mrp 2 5 1 0 []).payload) / 2 ^ 32 % 2 ^ 16))].x.pieces[1]? = some x ∧
    x.reply = none ∧
    (z10.t.cpl[slotIx (BitVec.ofNat 16 (ofBytes (List.take 16 (mrp 2 5 1 0 []).payload) / 2 ^ 32 % 2 ^ 16))].x.expert = none ∨ z10.t.cpl[slotIx (BitVec.ofNat 16 (ofBytes (List.take 16 (mrp 2 5 1 0 []).payload) / 2 ^ 32 % 2 ^ 16))].op = SlotOp.exget) ∧
    ofBytes (List.take 16 (mrp 2 5 1 0 []).payload) % 16 = 2 ∧
    ofBytes (List.take 16 (mrp 2 5 1 0 []).payload) / 2 ^ 8 % 2 ^ 8 ≠ 0 ∧
    ofBytes (List.take 16 (mrp 2 5 1 0 []).payload) / 2 ^ 8 % 2 ^ 8 ≠ 255 ∧
    (z10.t.cpl[slotIx (BitVec.ofNat 16 (ofBytes (List.take 16 (mrp 2 5 1 0 []).payload) / 2 ^ 32 % 2 ^ 16))].op = SlotOp.mget ∨ z10.t.cpl[slotIx (BitVec.ofNat 16 (ofBytes (List.take 16 (mrp 2 5 1 0 []).payload) / 2 ^ 32 % 2 ^ 16))].op = SlotOp.mput ∨ z10.t.cpl[slotIx (BitVec.ofNat 16 (ofBytes (List.take 16 (mrp 2 5 1 0 []).payload) / 2 ^ 32 % 2 ^ 16))].op = SlotOp.matom) ∧
    (∀ (j : Nat) (r : Piece), j ≠ 1 → z10.t.cpl[slotIx (BitVec.ofNat 16 (ofBytes (List.take 16 (mrp 2 5 1 0 []).payload) / 2 ^ 32 % 2 ^ 16))].x.pieces[j]? = some r → r.reply = some 0) :=
  ⟨by simp -failIfUnchanged only [Plain] <;> decide +kernel, by decide +kernel, by decide +kernel,
   by simp -failIfUnchanged only [InProgress, exists_eq_left'] <;> decide +kernel, by decide +kernel, by decide +kernel,
   by simp -failIfUnchanged only [↓opt_all, ↓opt_ex, ↓opt_is, ↓others_all] <;> decide +kernel⟩

theorem met_MoonTransfersRequest_2222222 :
    Plain (mrp 1 0 1 0 (byt 16)) 17 ∧
    (¬((mrp 1 0 1 0 (byt 16)).src, BitVec.ofNat 16 (ofBytes (List.take 16 (mrp 1 0 1 0 (byt 16)).payload) / 2 ^ 32 % 2 ^ 16), 1) ∈ z14.t.msg.orphans) ∧
    (∀ (j : Job), j ∈ z14.jobs → ¬(j.owner = (mrp 1 0 1 0 (byt 16)).dst ∧ j.xid = BitVec.ofNat 16 (ofBytes (List.take 16 (mrp 1 0 1 0 (byt 16)).payload) / 2 ^ 32 % 2 ^ 16))) ∧
    InProgress z14.t (BitVec.ofNat 16 (ofBytes (List.take 16 (mrp 1 0 1 0 (byt 16)).payload) / 2 ^ 32 % 2 ^ 16)) z14.t.cpl[slotIx (BitVec.ofNat 16 (ofBytes (List.take 16 (mrp 1 0 1 0 (byt 16)).payload) / 2 ^ 32 % 2 ^ 16))] ∧
    z14.t.isSpec = false ∧ ofBytes (List.take 16 (mrp 1 0 1 0 (byt 16)).payload) / 2 ^ 16 % 2 ^ 16 = 1 ∧
    ∃ (x : Piece), z14.t.cpl[slotIx (BitVec.ofNat 16 (ofBytes (List.take 16 (mrp 1 0 1 0 (byt 16)).payload) / 2 ^ 32 % 2 ^ 16))].x.pieces[1]? = some x ∧
    x.reply = none ∧
    (z14.t.cpl[slotIx (BitVec.ofNat 16 (ofBytes (List.take 16 (mrp 1 0 1 0 (byt 16)).payload) / 2 ^ 32 % 2 ^ 16))].x.expert = none ∨ z14.t.cpl[slotIx (BitVec.ofNat 16 (ofBytes (List.take 16 (mrp 1 0 1 0 (byt 16)).payload) / 2 ^ 32 % 2 ^ 16))].op = SlotOp.exget) ∧
    ofBytes (List.take 16 (mrp 1 0 1 0 (byt 16)).payload) % 16 = 1 ∧
    z14.t.cpl[slotIx (BitVec.ofNat 16 (ofBytes (List.take 16 (mrp 1 0 1 0 (byt 16)).payload) / 2 ^ 32 % 2 ^ 16))].op = SlotOp.exget ∧
    ∃ (e : W16), z14.t.cpl[slotIx (BitVec.ofNat 16 (ofBytes (List.take 16 (mrp 1 0 1 0 (byt 16)).payload) / 2 ^ 32 % 2 ^ 16))].x.expert = some e ∧
    (∀ (j : Nat) (r : Piece), j ≠ 1 → z14.t.cpl[slotIx (BitVec.ofNat 16 (ofBytes (List.take 16 (mrp 1 0 1 0 (byt 16)).payload) / 2 ^ 32 % 2 ^ 16))].x.pieces[j]? = some r → r.reply = some 0) :=
  ⟨by simp -failIfUnchanged only [Plain] <;> decide +kernel, by decide +kernel, by decide +kernel,
   by simp -failIfUnchanged only [InProgress, exists_eq_left'] <;> decide +kernel, by decide +kernel, by decide +kernel,
   by simp -failIfUnchanged only [↓opt_all, ↓opt_ex, ↓opt_is, ↓others_all] <;> decide +kernel⟩

theorem met_MoonTransfersRequest_111 : (5000 : Nat) ≤ 2 ^ 20 ∧ (cutPieces 3 100 5000 0 cutFuel).length = 2 := by decide +kernel

theorem met_MoonTransfersRequest_1121 : ∃ q ∈ cutPieces 3 100 5000 0 cutFuel, q.off = 4096 := by decide +kernel

end Request

namespace Serve

def mreqP (op : Nat) (phys : Bool) (len addr : Nat) (data : List Byte) (rsv : Nat := 0) : Packet :=
  mkPacket 5 0x120 0x10 0 0x43 0 0 (let h := mreqHeader op phys 9 len addr 5 0x43 1; (bytesOf (ofBytes h + rsv) 32) ++ data)

def byt (n : Nat) : List Byte := (List.range n).map fun i => BitVec.ofNat 8 (i+1)
def mS (m : Moon) : State := { State.reset with now := 1000, cur := 0x120, moons := [(0, m)], mgmt := { Mgmt.reset with bootst := 6 } }

def m9 : Moon := { Moon.reset with asid := [(9, 1 + 2^15 * 2)] }   -- t1 at 65536
def hbmOf (l : List (Nat × Nat)) : Mem := l.foldl (fun m x => Mem.write m x.1 (bytesOf x.2 8)) []

def pt (leaf2 : Bool) (r : Nat) : State := let b := 65536; { mS m9 with hbm := hbmOf [(b + 8*1, 1 + 0x3000), (0x3000 + 8*3, if leaf2 then 0x400000 + 3 + r else 0x5000 + 1), (0x5000 + 8*4, 0x70000 + 1 + r)] }
def va1 : Nat := 2^30 + 3 * 2^21 + 4 * 2^16 + 77

def rq (id : Nat) (op : Nat) (wk : Bool) : MReq := { MReq.of id (mreqP op false (if op < 2 then 16 else 4 + 4*(op%2)) (va1 - 77) (byt 16)) with walking := wk }
def qS (l : List MReq) (s : State) : State := { s with moons := [(0, { m9 with queue := l, nextId := 9 })] }

def rp (op : Nat) (phys := false) (len := 16) (addr := 0x201000) (rsv := 0) : Packet := mreqP op phys len addr (if op % 2 = 1 ∨ 2 ≤ op then byt 16 else []) rsv
def ro (b : Nat) : MReq := { rq 3 1 false with own := some b }

def tl : TlbEnt := ⟨9, 0x200000, true, 0x400000, false, true⟩
def mm : Moon := { m9 with nextId := 9, tlb := [tl] }

def pq (id op : Nat) (pa len : Nat) (data : List Byte) (ph := false) : MReq := { MReq.of id (mreqP op ph len 0x201000 data) with pa := some pa }
def hb : Mem := Mem.write [] 0x5000 ((List.range 64).map fun i => BitVec.ofNat 8 (200 - i))

def pS (l : List MReq) : State := { mS { m9 with asid := [(9,3+2^15*2)], queue := l, mtrctl := 1 } with hbm := hb }
def z1 : State := (mS { mm with ingress := [rp 0], tookAt := some 1000 })

def z2 : State := (mS { mm with ingress := [rp 0] })
def z3 : State := (pt false 4)

def z4 : State := { pt false 4 with hbm := hbmOf [(65536+8,1+0x123300000000)] }
def z5 : State := (pt true 4)

def z6 : State := (pS [pq 3 0 0x5003 16 []])
def z7 : State := (pS [pq 3 1 0x5003 16 (byt 16), pq 4 0 0x5003 16 []])

def z8 : State := { pS [] with moons := [(0,{ m9 with queue := [pq 3 0 0x5003 16 [], pq 4 0 0x5003 16 []], stopped := true, restarted := true })] }
def z9 : State := { pS [] with moons := [(0,{ m9 with queue := [pq 3 0 0x5003 16 []], stopped := true, restarted := false })] }

theorem met_MoonsTranslate_111 :
    Plain (rp 0) 16 ∧
    AtMoon (mS (let __src := mm; { asid := __src.asid, tlb := __src.tlb, queue := __src.queue, nextId := __src.nextId, ring := __src.ring, mtrctl := __src.mtrctl, mfault := __src.mfault, stopped := true, restarted := __src.restarted, inval := __src.inval, ingress := __src.ingress, tookAt := __src.tookAt : Moon })) ∧
    (¬(Accepts (mS (let __src := mm; { asid := __src.asid, tlb := __src.tlb, queue := __src.queue, nextId := __src.nextId, ring := __src.ring, mtrctl := __src.mtrctl, mfault := __src.mfault, stopped := true, restarted := __src.restarted, inval := __src.inval, ingress := __src.ingress, tookAt := __src.tookAt : Moon })) ∧ (thisMoon (mS (let __src := mm; { asid := __src.asid, tlb := __src.tlb, queue := __src.queue, nextId := __src.nextId, ring := __src.ring, mtrctl := __src.mtrctl, mfault := __src.mfault, stopped := true, restarted := __src.restarted, inval := __src.inval, ingress := __src.ingress, tookAt := __src.tookAt : Moon }))).ingress = [])) :=
  ⟨by simp -failIfUnchanged only [Plain] <;> decide +kernel, by simp -failIfUnchanged only [AtMoon] <;> decide +kernel,
   by simp -failIfUnchanged only [Accepts, ReportWaits, ↓list_ex_bv] <;> decide +kernel⟩

theorem met_MoonsTranslate_1121 :
    Plain (rp 0 false 16 2101248 (2 ^ 252)) 16 ∧ AtMoon (mS mm) ∧ Accepts (mS mm) ∧ (thisMoon (mS mm)).ingress = [] ∧
    (MReq.of (thisMoon (mS mm)).nextId (rp 0 false 16 2101248 (2 ^ 252))).refusal (rp 0 false 16 2101248 (2 ^ 252)) = some 9 :=
  ⟨by simp -failIfUnchanged only [Plain] <;> decide +kernel, by simp -failIfUnchanged only [AtMoon] <;> decide +kernel,
   by simp -failIfUnchanged only [Accepts, ReportWaits, ↓list_ex_bv] <;> decide +kernel, by decide +kernel, by decide +kernel⟩

theorem met_MoonsTranslate_11221 :
    Plain (rp 0 true 16 20480) 16 ∧ AtMoon (mS mm) ∧ Accepts (mS mm) ∧ (thisMoon (mS mm)).ingress = [] ∧
    (MReq.of (thisMoon (mS mm)).nextId (rp 0 true 16 20480)).refusal (rp 0 true 16 20480) = none ∧
    (MReq.of (thisMoon (mS mm)).nextId (rp 0 true 16 20480)).phys = true ∧
    (∀ (q : MReq), q ∈ (thisMoon (mS mm)).queue → q.id < (thisMoon (mS mm)).nextId ∧ q.waits = false) ∧
    (∀ (d : Nat × Nat), d ∈ (mS mm).performDues (mS mm).moonKey → d.fst < (thisMoon (mS mm)).nextId) :=
  ⟨by simp -failIfUnchanged only [Plain] <;> decide +kernel, by simp -failIfUnchanged only [AtMoon] <;> decide +kernel,
   by simp -failIfUnchanged only [Accepts, ReportWaits, ↓list_ex_bv] <;> decide +kernel, by decide +kernel, by decide +kernel,
   by decide +kernel, by decide +kernel, by decide +kernel⟩

theorem met_MoonsTranslate_112221 :
    Plain (rp 0) 16 ∧ AtMoon (mS mm) ∧ Accepts (mS mm) ∧ (thisMoon (mS mm)).ingress = [] ∧
    (MReq.of (thisMoon (mS mm)).nextId (rp 0)).refusal (rp 0) = none ∧
    (MReq.of (thisMoon (mS mm)).nextId (rp 0)).phys = false ∧
    BitVec.getLsbD ((thisMoon (mS mm)).asidEnt (MReq.of (thisMoon (mS mm)).nextId (rp 0)).asid) 0 = true ∧
    (thisMoon (mS mm)).hit (MReq.of (thisMoon (mS mm)).nextId (rp 0)).asid (MReq.of (thisMoon (mS mm)).nextId (rp 0)).addr = some tl ∧
    tl.denies (MReq.of (thisMoon (mS mm)).nextId (rp 0)) = none ∧
    (∀ (q : MReq), q ∈ (thisMoon (mS mm)).queue → q.id < (thisMoon (mS mm)).nextId ∧ q.waits = false) ∧
    (∀ (d : Nat × Nat), d ∈ (mS mm).performDues (mS mm).moonKey → d.fst < (thisMoon (mS mm)).nextId) :=
  ⟨by simp -failIfUnchanged only [Plain] <;> decide +kernel, by simp -failIfUnchanged only [AtMoon] <;> decide +kernel,
   by simp -failIfUnchanged only [Accepts, ReportWaits, ↓list_ex_bv] <;> decide +kernel, by decide +kernel, by decide +kernel,
   by decide +kernel, by decide +kernel, by decide +kernel, by decide +kernel, by decide +kernel, by decide +kernel⟩

theorem met_MoonsTranslate_1122221 :
    Plain (rp 1) 16 ∧ AtMoon (mS mm) ∧ Accepts (mS mm) ∧ (thisMoon (mS mm)).ingress = [] ∧
    (MReq.of (thisMoon (mS mm)).nextId (rp 1)).refusal (rp 1) = none ∧
    (MReq.of (thisMoon (mS mm)).nextId (rp 1)).phys = false ∧
    BitVec.getLsbD ((thisMoon (mS mm)).asidEnt (MReq.of (thisMoon (mS mm)).nextId (rp 1)).asid) 0 = true ∧
    (thisMoon (mS mm)).hit (MReq.of (thisMoon (mS mm)).nextId (rp 1)).asid (MReq.of (thisMoon (mS mm)).nextId (rp 1)).addr = some tl ∧
    tl.denies (MReq.of (thisMoon (mS mm)).nextId (rp 1)) = some 3 ∧
    (∀ (y : MReq), y ∈ (thisMoon (mS mm)).queue → y.id < (thisMoon (mS mm)).nextId) :=
  ⟨by simp -failIfUnchanged only [Plain] <;> decide +kernel, by simp -failIfUnchanged only [AtMoon] <;> decide +kernel,
   by simp -failIfUnchanged only [Accepts, ReportWaits, ↓list_ex_bv] <;> decide +kernel, by decide +kernel, by decide +kernel,
   by decide +kernel, by decide +kernel, by decide +kernel, by decide +kernel, by decide +kernel⟩

theorem met_MoonsTranslate_11222221 :
    Plain (rp 1) 16 ∧
    AtMoon (mS (let __src := mm; { asid := [], tlb := __src.tlb, queue := __src.queue, nextId := __src.nextId, ring := __src.ring, mtrctl := __src.mtrctl, mfault := __src.mfault, stopped := __src.stopped, restarted := __src.restarted, inval := __src.inval, ingress := __src.ingress, tookAt := __src.tookAt : Moon })) ∧
    Accepts (mS (let __src := mm; { asid := [], tlb := __src.tlb, queue := __src.queue, nextId := __src.nextId, ring := __src.ring, mtrctl := __src.mtrctl, mfault := __src.mfault, stopped := __src.stopped, restarted := __src.restarted, inval := __src.inval, ingress := __src.ingress, tookAt := __src.tookAt : Moon })) ∧
    (thisMoon (mS (let __src := mm; { asid := [], tlb := __src.tlb, queue := __src.queue, nextId := __src.nextId, ring := __src.ring, mtrctl := __src.mtrctl, mfault := __src.mfault, stopped := __src.stopped, restarted := __src.restarted, inval := __src.inval, ingress := __src.ingress, tookAt := __src.tookAt : Moon }))).ingress = [] ∧
    (MReq.of (thisMoon (mS (let __src := mm; { asid := [], tlb := __src.tlb, queue := __src.queue, nextId := __src.nextId, ring := __src.ring, mtrctl := __src.mtrctl, mfault := __src.mfault, stopped := __src.stopped, restarted := __src.restarted, inval := __src.inval, ingress := __src.ingress, tookAt := __src.tookAt : Moon }))).nextId (rp 1)).refusal (rp 1) = none ∧
    (MReq.of (thisMoon (mS (let __src := mm; { asid := [], tlb := __src.tlb, queue := __src.queue, nextId := __src.nextId, ring := __src.ring, mtrctl := __src.mtrctl, mfault := __src.mfault, stopped := __src.stopped, restarted := __src.restarted, inval := __src.inval, ingress := __src.ingress, tookAt := __src.tookAt : Moon }))).nextId (rp 1)).phys = false ∧
    BitVec.getLsbD ((thisMoon (mS (let __src := mm; { asid := [], tlb := __src.tlb, queue := __src.queue, nextId := __src.nextId, ring := __src.ring, mtrctl := __src.mtrctl, mfault := __src.mfault, stopped := __src.stopped, restarted := __src.restarted, inval := __src.inval, ingress := __src.ingress, tookAt := __src.tookAt : Moon }))).asidEnt (MReq.of (thisMoon (mS (let __src := mm; { asid := [], tlb := __src.tlb, queue := __src.queue, nextId := __src.nextId, ring := __src.ring, mtrctl := __src.mtrctl, mfault := __src.mfault, stopped := __src.stopped, restarted := __src.restarted, inval := __src.inval, ingress := __src.ingress, tookAt := __src.tookAt : Moon }))).nextId (rp 1)).asid) 0 = false ∧
    (∀ (y : MReq), y ∈ (thisMoon (mS (let __src := mm; { asid := [], tlb := __src.tlb, queue := __src.queue, nextId := __src.nextId, ring := __src.ring, mtrctl := __src.mtrctl, mfault := __src.mfault, stopped := __src.stopped, restarted := __src.restarted, inval := __src.inval, ingress := __src.ingress, tookAt := __src.tookAt : Moon }))).queue → y.id < (thisMoon (mS (let __src := mm; { asid := [], tlb := __src.tlb, queue := __src.queue, nextId := __src.nextId, ring := __src.ring, mtrctl := __src.mtrctl, mfault := __src.mfault, stopped := __src.stopped, restarted := __src.restarted, inval := __src.inval, ingress := __src.ingress, tookAt := __src.tookAt : Moon }))).nextId) :=
  ⟨by simp -failIfUnchanged only [Plain] <;> decide +kernel, by simp -failIfUnchanged only [AtMoon] <;> decide +kernel,
   by simp -failIfUnchanged only [Accepts, ReportWaits, ↓list_ex_bv] <;> decide +kernel, by decide +kernel, by decide +kernel,
   by decide +kernel, by decide +kernel, by decide +kernel⟩

theorem met_MoonsTranslate_11222222 :
    Plain (rp 1) 16 ∧
    AtMoon (mS (let __src := mm; { asid := __src.asid, tlb := [], queue := __src.queue, nextId := __src.nextId, ring := __src.ring, mtrctl := __src.mtrctl, mfault := __src.mfault, stopped := __src.stopped, restarted := __src.restarted, inval := __src.inval, ingress := __src.ingress, tookAt := __src.tookAt : Moon })) ∧
    Accepts (mS (let __src := mm; { asid := __src.asid, tlb := [], queue := __src.queue, nextId := __src.nextId, ring := __src.ring, mtrctl := __src.mtrctl, mfault := __src.mfault, stopped := __src.stopped, restarted := __src.restarted, inval := __src.inval, ingress := __src.ingress, tookAt := __src.tookAt : Moon })) ∧
    (thisMoon (mS (let __src := mm; { asid := __src.asid, tlb := [], queue := __src.queue, nextId := __src.nextId, ring := __src.ring, mtrctl := __src.mtrctl, mfault := __src.mfault, stopped := __src.stopped, restarted := __src.restarted, inval := __src.inval, ingress := __src.ingress, tookAt := __src.tookAt : Moon }))).ingress = [] ∧
    (MReq.of (thisMoon (mS (let __src := mm; { asid := __src.asid, tlb := [], queue := __src.queue, nextId := __src.nextId, ring := __src.ring, mtrctl := __src.mtrctl, mfault := __src.mfault, stopped := __src.stopped, restarted := __src.restarted, inval := __src.inval, ingress := __src.ingress, tookAt := __src.tookAt : Moon }))).nextId (rp 1)).refusal (rp 1) = none ∧
    (MReq.of (thisMoon (mS (let __src := mm; { asid := __src.asid, tlb := [], queue := __src.queue, nextId := __src.nextId, ring := __src.ring, mtrctl := __src.mtrctl, mfault := __src.mfault, stopped := __src.stopped, restarted := __src.restarted, inval := __src.inval, ingress := __src.ingress, tookAt := __src.tookAt : Moon }))).nextId (rp 1)).phys = false ∧
    BitVec.getLsbD ((thisMoon (mS (let __src := mm; { asid := __src.asid, tlb := [], queue := __src.queue, nextId := __src.nextId, ring := __src.ring, mtrctl := __src.mtrctl, mfault := __src.mfault, stopped := __src.stopped, restarted := __src.restarted, inval := __src.inval, ingress := __src.ingress, tookAt := __src.tookAt : Moon }))).asidEnt (MReq.of (thisMoon (mS (let __src := mm; { asid := __src.asid, tlb := [], queue := __src.queue, nextId := __src.nextId, ring := __src.ring, mtrctl := __src.mtrctl, mfault := __src.mfault, stopped := __src.stopped, restarted := __src.restarted, inval := __src.inval, ingress := __src.ingress, tookAt := __src.tookAt : Moon }))).nextId (rp 1)).asid) 0 = true ∧
    (thisMoon (mS (let __src := mm; { asid := __src.asid, tlb := [], queue := __src.queue, nextId := __src.nextId, ring := __src.ring, mtrctl := __src.mtrctl, mfault := __src.mfault, stopped := __src.stopped, restarted := __src.restarted, inval := __src.inval, ingress := __src.ingress, tookAt := __src.tookAt : Moon }))).hit (MReq.of (thisMoon (mS (let __src := mm; { asid := __src.asid, tlb := [], queue := __src.queue, nextId := __src.nextId, ring := __src.ring, mtrctl := __src.mtrctl, mfault := __src.mfault, stopped := __src.stopped, restarted := __src.restarted, inval := __src.inval, ingress := __src.ingress, tookAt := __src.tookAt : Moon }))).nextId (rp 1)).asid (MReq.of (thisMoon (mS (let __src := mm; { asid := __src.asid, tlb := [], queue := __src.queue, nextId := __src.nextId, ring := __src.ring, mtrctl := __src.mtrctl, mfault := __src.mfault, stopped := __src.stopped, restarted := __src.restarted, inval := __src.inval, ingress := __src.ingress, tookAt := __src.tookAt : Moon }))).nextId (rp 1)).addr = none ∧
    (∀ (q : MReq), q ∈ (thisMoon (mS (let __src := mm; { asid := __src.asid, tlb := [], queue := __src.queue, nextId := __src.nextId, ring := __src.ring, mtrctl := __src.mtrctl, mfault := __src.mfault, stopped := __src.stopped, restarted := __src.restarted, inval := __src.inval, ingress := __src.ingress, tookAt := __src.tookAt : Moon }))).queue → q.id < (thisMoon (mS (let __src := mm; { asid := __src.asid, tlb := [], queue := __src.queue, nextId := __src.nextId, ring := __src.ring, mtrctl := __src.mtrctl, mfault := __src.mfault, stopped := __src.stopped, restarted := __src.restarted, inval := __src.inval, ingress := __src.ingress, tookAt := __src.tookAt : Moon }))).nextId ∧ q.waits = false ∧ q.walking = false) :=
  ⟨by simp -failIfUnchanged only [Plain] <;> decide +kernel, by simp -failIfUnchanged only [AtMoon] <;> decide +kernel,
   by simp -failIfUnchanged only [Accepts, ReportWaits, ↓list_ex_bv] <;> decide +kernel, by decide +kernel, by decide +kernel,
   by decide +kernel, by decide +kernel, by decide +kernel, by decide +kernel⟩

theorem met_MoonsTranslate_121 :
    AtMoon z1 ∧ (thisMoon z1).ingress = [rp 0] ∧ (¬Accepts z1) :=
  ⟨by simp -failIfUnchanged only [AtMoon] <;> decide +kernel, by decide +kernel,
   by simp -failIfUnchanged only [Accepts, ReportWaits, ↓list_ex_bv] <;> decide +kernel⟩

theorem met_MoonsTranslate_122 :
    AtMoon z2 ∧ (thisMoon z2).ingress = [rp 0] ∧ Accepts z2 :=
  ⟨by simp -failIfUnchanged only [AtMoon] <;> decide +kernel, by decide +kernel,
   by simp -failIfUnchanged only [Accepts, ReportWaits, ↓list_ex_bv] <;> decide +kernel⟩

theorem met_MoonsTranslate_211 :
    BitVec.toNat ((z3.moon 0).asidEnt 8) % 2 = 0 :=
  by decide +kernel

theorem met_MoonsTranslate_2121 :
    BitVec.toNat ((z3.moon 0).asidEnt 9) % 2 = 1 ∧
    (fun (base i : Nat) => base + 8 * i + (8 : Nat) ≤ 6442450944 ∧ ∀ (b : Nat), b ∈ z3.hbmBad → ¬(0 * 6442450944 + base + 8 * i ≤ b ∧ b < 0 * 6442450944 + base + 8 * i + 8)) (BitVec.toNat ((z3.moon 0).asidEnt 9) / 2 ^ 15 % 2 ^ 25 * 32768) ((va1 + 2 ^ 30) / 2 ^ 30) ∧
    (fun (base i : Nat) => z3.hbm.readNat (0 * 6442450944 + base + 8 * i) 8) (BitVec.toNat ((z3.moon 0).asidEnt 9) / 2 ^ 15 % 2 ^ 25 * 32768) ((va1 + 2 ^ 30) / 2 ^ 30) % 2 = 0 :=
  by decide +kernel

theorem met_MoonsTranslate_21221 :
    BitVec.toNat ((z4.moon 0).asidEnt 9) % 2 = 1 ∧
    (fun (base i : Nat) => (fun (base i : Nat) => base + 8 * i + (8 : Nat) ≤ 6442450944 ∧ ∀ (b : Nat), b ∈ z4.hbmBad → ¬(0 * 6442450944 + base + 8 * i ≤ b ∧ b < 0 * 6442450944 + base + 8 * i + 8)) base i ∧ (fun (base i : Nat) => z4.hbm.readNat (0 * 6442450944 + base + 8 * i) 8) base i % 2 = 1) (BitVec.toNat ((z4.moon 0).asidEnt 9) / 2 ^ 15 % 2 ^ 25 * 32768) (va1 / 2 ^ 30) ∧
    ptrOk ((fun (base i : Nat) => z4.hbm.readNat (0 * 6442450944 + base + 8 * i) 8) (BitVec.toNat ((z4.moon 0).asidEnt 9) / 2 ^ 15 % 2 ^ 25 * 32768) (va1 / 2 ^ 30)) 4096 true = false :=
  by decide +kernel

theorem met_MoonsTranslate_212221 :
    BitVec.toNat ((z3.moon 0).asidEnt 9) % 2 = 1 ∧
    (fun (base i : Nat) => (fun (base i : Nat) => base + 8 * i + (8 : Nat) ≤ 6442450944 ∧ ∀ (b : Nat), b ∈ z3.hbmBad → ¬(0 * 6442450944 + base + 8 * i ≤ b ∧ b < 0 * 6442450944 + base + 8 * i + 8)) base i ∧ (fun (base i : Nat) => z3.hbm.readNat (0 * 6442450944 + base + 8 * i) 8) base i % 2 = 1) (BitVec.toNat ((z3.moon 0).asidEnt 9) / 2 ^ 15 % 2 ^ 25 * 32768) ((va1 + 2 ^ 21) / 2 ^ 30) ∧
    ptrOk ((fun (base i : Nat) => z3.hbm.readNat (0 * 6442450944 + base + 8 * i) 8) (BitVec.toNat ((z3.moon 0).asidEnt 9) / 2 ^ 15 % 2 ^ 25 * 32768) ((va1 + 2 ^ 21) / 2 ^ 30)) 4096 true = true ∧
    (fun (base i : Nat) => base + 8 * i + (8 : Nat) ≤ 6442450944 ∧ ∀ (b : Nat), b ∈ z3.hbmBad → ¬(0 * 6442450944 + base + 8 * i ≤ b ∧ b < 0 * 6442450944 + base + 8 * i + 8)) ((fun (e : Nat) => e / 2 ^ 8 % 2 ^ 32 * 256) ((fun (base i : Nat) => z3.hbm.readNat (0 * 6442450944 + base + 8 * i) 8) (BitVec.toNat ((z3.moon 0).asidEnt 9) / 2 ^ 15 % 2 ^ 25 * 32768) ((va1 + 2 ^ 21) / 2 ^ 30))) ((va1 + 2 ^ 21) / 2 ^ 21 % 512) ∧
    (fun (base i : Nat) => z3.hbm.readNat (0 * 6442450944 + base + 8 * i) 8) ((fun (e : Nat) => e / 2 ^ 8 % 2 ^ 32 * 256) ((fun (base i : Nat) => z3.hbm.readNat (0 * 6442450944 + base + 8 * i) 8) (BitVec.toNat ((z3.moon 0).asidEnt 9) / 2 ^ 15 % 2 ^ 25 * 32768) ((va1 + 2 ^ 21) / 2 ^ 30))) ((va1 + 2 ^ 21) / 2 ^ 21 % 512) % 2 = 0 :=
  by decide +kernel

theorem met_MoonsTranslate_2122221 :
    BitVec.toNat ((z5.moon 0).asidEnt 9) % 2 = 1 ∧
    (fun (base i : Nat) => (fun (base i : Nat) => base + 8 * i + (8 : Nat) ≤ 6442450944 ∧ ∀ (b : Nat), b ∈ z5.hbmBad → ¬(0 * 6442450944 + base + 8 * i ≤ b ∧ b < 0 * 6442450944 + base + 8 * i + 8)) base i ∧ (fun (base i : Nat) => z5.hbm.readNat (0 * 6442450944 + base + 8 * i) 8) base i % 2 = 1) (BitVec.toNat ((z5.moon 0).asidEnt 9) / 2 ^ 15 % 2 ^ 25 * 32768) (va1 / 2 ^ 30) ∧
    ptrOk ((fun (base i : Nat) => z5.hbm.readNat (0 * 6442450944 + base + 8 * i) 8) (BitVec.toNat ((z5.moon 0).asidEnt 9) / 2 ^ 15 % 2 ^ 25 * 32768) (va1 / 2 ^ 30)) 4096 true = true ∧
    (fun (base i : Nat) => (fun (base i : Nat) => base + 8 * i + (8 : Nat) ≤ 6442450944 ∧ ∀ (b : Nat), b ∈ z5.hbmBad → ¬(0 * 6442450944 + base + 8 * i ≤ b ∧ b < 0 * 6442450944 + base + 8 * i + 8)) base i ∧ (fun (base i : Nat) => z5.hbm.readNat (0 * 6442450944 + base + 8 * i) 8) base i % 2 = 1) ((fun (e : Nat) => e / 2 ^ 8 % 2 ^ 32 * 256) ((fun (base i : Nat) => z5.hbm.readNat (0 * 6442450944 + base + 8 * i) 8) (BitVec.toNat ((z5.moon 0).asidEnt 9) / 2 ^ 15 % 2 ^ 25 * 32768) (va1 / 2 ^ 30))) (va1 / 2 ^ 21 % 512) ∧
    (fun (base i : Nat) => z5.hbm.readNat (0 * 6442450944 + base + 8 * i) 8) ((fun (e : Nat) => e / 2 ^ 8 % 2 ^ 32 * 256) ((fun (base i : Nat) => z5.hbm.readNat (0 * 6442450944 + base + 8 * i) 8) (BitVec.toNat ((z5.moon 0).asidEnt 9) / 2 ^ 15 % 2 ^ 25 * 32768) (va1 / 2 ^ 30))) (va1 / 2 ^ 21 % 512) / 2 % 2 = 1 ∧
    leafOk ((fun (base i : Nat) => z5.hbm.readNat (0 * 6442450944 + base + 8 * i) 8) ((fun (e : Nat) => e / 2 ^ 8 % 2 ^ 32 * 256) ((fun (base i : Nat) => z5.hbm.readNat (0 * 6442450944 + base + 8 * i) 8) (BitVec.toNat ((z5.moon 0).asidEnt 9) / 2 ^ 15 % 2 ^ 25 * 32768) (va1 / 2 ^ 30))) (va1 / 2 ^ 21 % 512)) (2 ^ 21) false = true :=
  by decide +kernel

theorem met_MoonsTranslate_21222221 :
    BitVec.toNat ((z3.moon 0).asidEnt 9) % 2 = 1 ∧
    (fun (base i : Nat) => (fun (base i : Nat) => base + 8 * i + (8 : Nat) ≤ 6442450944 ∧ ∀ (b : Nat), b ∈ z3.hbmBad → ¬(0 * 6442450944 + base + 8 * i ≤ b ∧ b < 0 * 6442450944 + base + 8 * i + 8)) base i ∧ (fun (base i : Nat) => z3.hbm.readNat (0 * 6442450944 + base + 8 * i) 8) base i % 2 = 1) (BitVec.toNat ((z3.moon 0).asidEnt 9) / 2 ^ 15 % 2 ^ 25 * 32768) (va1 / 2 ^ 30) ∧
    ptrOk ((fun (base i : Nat) => z3.hbm.readNat (0 * 6442450944 + base + 8 * i) 8) (BitVec.toNat ((z3.moon 0).asidEnt 9) / 2 ^ 15 % 2 ^ 25 * 32768) (va1 / 2 ^ 30)) 4096 true = true ∧
    (fun (base i : Nat) => (fun (base i : Nat) => base + 8 * i + (8 : Nat) ≤ 6442450944 ∧ ∀ (b : Nat), b ∈ z3.hbmBad → ¬(0 * 6442450944 + base + 8 * i ≤ b ∧ b < 0 * 6442450944 + base + 8 * i + 8)) base i ∧ (fun (base i : Nat) => z3.hbm.readNat (0 * 6442450944 + base + 8 * i) 8) base i % 2 = 1) ((fun (e : Nat) => e / 2 ^ 8 % 2 ^ 32 * 256) ((fun (base i : Nat) => z3.hbm.readNat (0 * 6442450944 + base + 8 * i) 8) (BitVec.toNat ((z3.moon 0).asidEnt 9) / 2 ^ 15 % 2 ^ 25 * 32768) (va1 / 2 ^ 30))) (va1 / 2 ^ 21 % 512) ∧
    (fun (base i : Nat) => z3.hbm.readNat (0 * 6442450944 + base + 8 * i) 8) ((fun (e : Nat) => e / 2 ^ 8 % 2 ^ 32 * 256) ((fun (base i : Nat) => z3.hbm.readNat (0 * 6442450944 + base + 8 * i) 8) (BitVec.toNat ((z3.moon 0).asidEnt 9) / 2 ^ 15 % 2 ^ 25 * 32768) (va1 / 2 ^ 30))) (va1 / 2 ^ 21 % 512) / 2 % 2 = 0 ∧
    ptrOk ((fun (base i : Nat) => z3.hbm.readNat (0 * 6442450944 + base + 8 * i) 8) ((fun (e : Nat) => e / 2 ^ 8 % 2 ^ 32 * 256) ((fun (base i : Nat) => z3.hbm.readNat (0 * 6442450944 + base + 8 * i) 8) (BitVec.toNat ((z3.moon 0).asidEnt 9) / 2 ^ 15 % 2 ^ 25 * 32768) (va1 / 2 ^ 30))) (va1 / 2 ^ 21 % 512)) 256 false = true :=
  by decide +kernel

theorem met_MoonsTranslate_212222221 :
    (fun (base i : Nat) => base + 8 * i + (8 : Nat) ≤ 6442450944 ∧ ∀ (b : Nat), b ∈ z5.hbmBad → ¬(0 * 6442450944 + base + 8 * i ≤ b ∧ b < 0 * 6442450944 + base + 8 * i + 8)) 0 (va1 / 2 ^ 16 % 32) ∧
    (fun (base i : Nat) => z5.hbm.readNat (0 * 6442450944 + base + 8 * i) 8) 0 (va1 / 2 ^ 16 % 32) % 2 = 0 :=
  by decide +kernel

theorem met_MoonsTranslate_212222222 :
    (fun (base i : Nat) => (fun (base i : Nat) => base + 8 * i + (8 : Nat) ≤ 6442450944 ∧ ∀ (b : Nat), b ∈ (pt false 4).hbmBad → ¬(0 * 6442450944 + base + 8 * i ≤ b ∧ b < 0 * 6442450944 + base + 8 * i + 8)) base i ∧ (fun (base i : Nat) => (pt false 4).hbm.readNat (0 * 6442450944 + base + 8 * i) 8) base i % 2 = 1) 20480 (va1 / 2 ^ 16 % 32) ∧
    leafOk ((fun (base i : Nat) => (pt false 4).hbm.readNat (0 * 6442450944 + base + 8 * i) 8) 20480 (va1 / 2 ^ 16 % 32)) (2 ^ 16) true = true :=
  by decide +kernel

theorem met_MoonsTranslate_2211 :
    IsFirst ((qS [ro 20480] (pt false 4)).moon 0).queue (fun (q : MReq) => q.id = (ro 20480).id ∧ (q.walking = true ∨ q.own ≠ none)) (ro 20480) ∧
    ((qS [ro 20480] (pt false 4)).moon 0).stopped = false ∧
    (¬ReportWaits { now := (qS [ro 20480] (pt false 4)).now, wclk := (qS [ro 20480] (pt false 4)).wclk, delays := (qS [ro 20480] (pt false 4)).delays, freeCtr := (qS [ro 20480] (pt false 4)).freeCtr, agenda := (qS [ro 20480] (pt false 4)).agenda, turn := (qS [ro 20480] (pt false 4)).turn, cur := rankKeyOfMoon 0, tiles := (qS [ro 20480] (pt false 4)).tiles, moons := (qS [ro 20480] (pt false 4)).moons, hbm := (qS [ro 20480] (pt false 4)).hbm, hbmBad := (qS [ro 20480] (pt false 4)).hbmBad, far := (qS [ro 20480] (pt false 4)).far, farBad := (qS [ro 20480] (pt false 4)).farBad, jobs := (qS [ro 20480] (pt false 4)).jobs, nextJob := (qS [ro 20480] (pt false 4)).nextJob, ert := (qS [ro 20480] (pt false 4)).ert, net := (qS [ro 20480] (pt false 4)).net, red := (qS [ro 20480] (pt false 4)).red, sched := (qS [ro 20480] (pt false 4)).sched, disp := (qS [ro 20480] (pt false 4)).disp, rep := (qS [ro 20480] (pt false 4)).rep, host := (qS [ro 20480] (pt false 4)).host, mgmt := (qS [ro 20480] (pt false 4)).mgmt, frozen := (qS [ro 20480] (pt false 4)).frozen, inputs := (qS [ro 20480] (pt false 4)).inputs : State }) ∧
    (ro 20480).pa = none ∧ (ro 20480).phys = false ∧
    (∀ (q : MReq), q ∈ ((qS [ro 20480] (pt false 4)).moon 0).queue → q.id = (ro 20480).id → q = ro 20480) ∧
    (ro 20480).own = some 20480 ∧
    (qS [ro 20480] (pt false 4)).leaf3 0 20480 (ro 20480).asid (ro 20480).addr = Except.ok { asid := 9, va := va1 / 65536 * 65536, big := false, pa := 458752, w := true, a := false : TlbEnt } ∧
    { asid := 9, va := va1 / 65536 * 65536, big := false, pa := 458752, w := true, a := false : TlbEnt }.denies (ro 20480) = none :=
  ⟨by simp -failIfUnchanged only [first_iff] <;> decide +kernel, by decide +kernel,
   by simp -failIfUnchanged only [ReportWaits, ↓list_ex_bv] <;> decide +kernel, by decide +kernel, by decide +kernel,
   by decide +kernel, by decide +kernel, by simp -failIfUnchanged only [ok_iff] <;> decide +kernel, by decide +kernel⟩

theorem met_MoonsTranslate_2212 :
    IsFirst ((qS [ro 20736] (pt false 4)).moon 0).queue (fun (q : MReq) => q.id = (ro 20736).id ∧ (q.walking = true ∨ q.own ≠ none)) (ro 20736) ∧
    ((qS [ro 20736] (pt false 4)).moon 0).stopped = false ∧
    (¬ReportWaits { now := (qS [ro 20736] (pt false 4)).now, wclk := (qS [ro 20736] (pt false 4)).wclk, delays := (qS [ro 20736] (pt false 4)).delays, freeCtr := (qS [ro 20736] (pt false 4)).freeCtr, agenda := (qS [ro 20736] (pt false 4)).agenda, turn := (qS [ro 20736] (pt false 4)).turn, cur := rankKeyOfMoon 0, tiles := (qS [ro 20736] (pt false 4)).tiles, moons := (qS [ro 20736] (pt false 4)).moons, hbm := (qS [ro 20736] (pt false 4)).hbm, hbmBad := (qS [ro 20736] (pt false 4)).hbmBad, far := (qS [ro 20736] (pt false 4)).far, farBad := (qS [ro 20736] (pt false 4)).farBad, jobs := (qS [ro 20736] (pt false 4)).jobs, nextJob := (qS [ro 20736] (pt false 4)).nextJob, ert := (qS [ro 20736] (pt false 4)).ert, net := (qS [ro 20736] (pt false 4)).net, red := (qS [ro 20736] (pt false 4)).red, sched := (qS [ro 20736] (pt false 4)).sched, disp := (qS [ro 20736] (pt false 4)).disp, rep := (qS [ro 20736] (pt false 4)).rep, host := (qS [ro 20736] (pt false 4)).host, mgmt := (qS [ro 20736] (pt false 4)).mgmt, frozen := (qS [ro 20736] (pt false 4)).frozen, inputs := (qS [ro 20736] (pt false 4)).inputs : State }) ∧
    (ro 20736).pa = none ∧ (ro 20736).phys = false ∧
    (∀ (q : MReq), q ∈ ((qS [ro 20736] (pt false 4)).moon 0).queue → q.id = (ro 20736).id → q = ro 20736) ∧
    (ro 20736).own = some 20736 ∧ (qS [ro 20736] (pt false 4)).leaf3 0 20736 (ro 20736).asid (ro 20736).addr = Except.error 2 :=
  ⟨by simp -failIfUnchanged only [first_iff] <;> decide +kernel, by decide +kernel,
   by simp -failIfUnchanged only [ReportWaits, ↓list_ex_bv] <;> decide +kernel, by decide +kernel, by decide +kernel,
   by decide +kernel, by decide +kernel, by simp -failIfUnchanged only [err_iff] <;> decide +kernel⟩

theorem met_MoonsTranslate_22211 :
    IsFirst ((qS [rq 3 1 true] (mS m9)).moon 0).queue (fun (q : MReq) => q.id = (rq 3 1 true).id ∧ (q.walking = true ∨ q.own ≠ none)) (rq 3 1 true) ∧
    ((qS [rq 3 1 true] (mS m9)).moon 0).stopped = false ∧
    (¬ReportWaits { now := (qS [rq 3 1 true] (mS m9)).now, wclk := (qS [rq 3 1 true] (mS m9)).wclk, delays := (qS [rq 3 1 true] (mS m9)).delays, freeCtr := (qS [rq 3 1 true] (mS m9)).freeCtr, agenda := (qS [rq 3 1 true] (mS m9)).agenda, turn := (qS [rq 3 1 true] (mS m9)).turn, cur := rankKeyOfMoon 0, tiles := (qS [rq 3 1 true] (mS m9)).tiles, moons := (qS [rq 3 1 true] (mS m9)).moons, hbm := (qS [rq 3 1 true] (mS m9)).hbm, hbmBad := (qS [rq 3 1 true] (mS m9)).hbmBad, far := (qS [rq 3 1 true] (mS m9)).far, farBad := (qS [rq 3 1 true] (mS m9)).farBad, jobs := (qS [rq 3 1 true] (mS m9)).jobs, nextJob := (qS [rq 3 1 true] (mS m9)).nextJob, ert := (qS [rq 3 1 true] (mS m9)).ert, net := (qS [rq 3 1 true] (mS m9)).net, red := (qS [rq 3 1 true] (mS m9)).red, sched := (qS [rq 3 1 true] (mS m9)).sched, disp := (qS [rq 3 1 true] (mS m9)).disp, rep := (qS [rq 3 1 true] (mS m9)).rep, host := (qS [rq 3 1 true] (mS m9)).host, mgmt := (qS [rq 3 1 true] (mS m9)).mgmt, frozen := (qS [rq 3 1 true] (mS m9)).frozen, inputs := (qS [rq 3 1 true] (mS m9)).inputs : State }) ∧
    (rq 3 1 true).pa = none ∧ (rq 3 1 true).phys = false ∧
    (∀ (q : MReq), q ∈ ((qS [rq 3 1 true] (mS m9)).moon 0).queue → q.id = (rq 3 1 true).id → q = rq 3 1 true) ∧
    (rq 3 1 true).own = none ∧
    (∀ (q : MReq), q ∈ ((qS [rq 3 1 true] (mS m9)).moon 0).queue → q.pa = none → q.own = none → q.sameWalk (rq 3 1 true) = true → q = rq 3 1 true) ∧
    (qS [rq 3 1 true] (mS m9)).walk2 (0) (rq 3 1 true).asid (rq 3 1 true).addr = Except.error 2 :=
  ⟨by simp -failIfUnchanged only [first_iff] <;> decide +kernel, by decide +kernel,
   by simp -failIfUnchanged only [ReportWaits, ↓list_ex_bv] <;> decide +kernel, by decide +kernel, by decide +kernel,
   by decide +kernel, by decide +kernel, by decide +kernel, by simp -failIfUnchanged only [err_iff] <;> decide +kernel⟩

theorem met_MoonsTranslate_222121 :
    IsFirst ((qS [rq 3 1 true] (pt true 4)).moon 0).queue (fun (q : MReq) => q.id = (rq 3 1 true).id ∧ (q.walking = true ∨ q.own ≠ none)) (rq 3 1 true) ∧
    ((qS [rq 3 1 true] (pt true 4)).moon 0).stopped = false ∧
    (¬ReportWaits { now := (qS [rq 3 1 true] (pt true 4)).now, wclk := (qS [rq 3 1 true] (pt true 4)).wclk, delays := (qS [rq 3 1 true] (pt true 4)).delays, freeCtr := (qS [rq 3 1 true] (pt true 4)).freeCtr, agenda := (qS [rq 3 1 true] (pt true 4)).agenda, turn := (qS [rq 3 1 true] (pt true 4)).turn, cur := rankKeyOfMoon 0, tiles := (qS [rq 3 1 true] (pt true 4)).tiles, moons := (qS [rq 3 1 true] (pt true 4)).moons, hbm := (qS [rq 3 1 true] (pt true 4)).hbm, hbmBad := (qS [rq 3 1 true] (pt true 4)).hbmBad, far := (qS [rq 3 1 true] (pt true 4)).far, farBad := (qS [rq 3 1 true] (pt true 4)).farBad, jobs := (qS [rq 3 1 true] (pt true 4)).jobs, nextJob := (qS [rq 3 1 true] (pt true 4)).nextJob, ert := (qS [rq 3 1 true] (pt true 4)).ert, net := (qS [rq 3 1 true] (pt true 4)).net, red := (qS [rq 3 1 true] (pt true 4)).red, sched := (qS [rq 3 1 true] (pt true 4)).sched, disp := (qS [rq 3 1 true] (pt true 4)).disp, rep := (qS [rq 3 1 true] (pt true 4)).rep, host := (qS [rq 3 1 true] (pt true 4)).host, mgmt := (qS [rq 3 1 true] (pt true 4)).mgmt, frozen := (qS [rq 3 1 true] (pt true 4)).frozen, inputs := (qS [rq 3 1 true] (pt true 4)).inputs : State }) ∧
    (rq 3 1 true).pa = none ∧ (rq 3 1 true).phys = false ∧
    (∀ (q : MReq), q ∈ ((qS [rq 3 1 true] (pt true 4)).moon 0).queue → q.id = (rq 3 1 true).id → q = rq 3 1 true) ∧
    (rq 3 1 true).own = none ∧
    (∀ (q : MReq), q ∈ ((qS [rq 3 1 true] (pt true 4)).moon 0).queue → q.pa = none → q.own = none → q.sameWalk (rq 3 1 true) = true → q = rq 3 1 true) ∧
    (qS [rq 3 1 true] (pt true 4)).walk2 (0) (rq 3 1 true).asid (rq 3 1 true).addr = Except.ok (Sum.inl { asid := 9, va := va1 / 2 ^ 21 * 2 ^ 21, big := true, pa := 4194304, w := true, a := false : TlbEnt }) ∧
    { asid := 9, va := va1 / 2 ^ 21 * 2 ^ 21, big := true, pa := 4194304, w := true, a := false : TlbEnt }.denies (rq 3 1 true) = none :=
  ⟨by simp -failIfUnchanged only [first_iff] <;> decide +kernel, by decide +kernel,
   by simp -failIfUnchanged only [ReportWaits, ↓list_ex_bv] <;> decide +kernel, by decide +kernel, by decide +kernel,
   by decide +kernel, by decide +kernel, by decide +kernel, by simp -failIfUnchanged only [ok_iff] <;> decide +kernel,
   by decide +kernel⟩

theorem met_MoonsTranslate_222122 :
    IsFirst ((qS [rq 3 1 true] (pt false 4)).moon 0).queue (fun (q : MReq) => q.id = (rq 3 1 true).id ∧ (q.walking = true ∨ q.own ≠ none)) (rq 3 1 true) ∧
    ((qS [rq 3 1 true] (pt false 4)).moon 0).stopped = false ∧
    (¬ReportWaits { now := (qS [rq 3 1 true] (pt false 4)).now, wclk := (qS [rq 3 1 true] (pt false 4)).wclk, delays := (qS [rq 3 1 true] (pt false 4)).delays, freeCtr := (qS [rq 3 1 true] (pt false 4)).freeCtr, agenda := (qS [rq 3 1 true] (pt false 4)).agenda, turn := (qS [rq 3 1 true] (pt false 4)).turn, cur := rankKeyOfMoon 0, tiles := (qS [rq 3 1 true] (pt false 4)).tiles, moons := (qS [rq 3 1 true] (pt false 4)).moons, hbm := (qS [rq 3 1 true] (pt false 4)).hbm, hbmBad := (qS [rq 3 1 true] (pt false 4)).hbmBad, far := (qS [rq 3 1 true] (pt false 4)).far, farBad := (qS [rq 3 1 true] (pt false 4)).farBad, jobs := (qS [rq 3 1 true] (pt false 4)).jobs, nextJob := (qS [rq 3 1 true] (pt false 4)).nextJob, ert := (qS [rq 3 1 true] (pt false 4)).ert, net := (qS [rq 3 1 true] (pt false 4)).net, red := (qS [rq 3 1 true] (pt false 4)).red, sched := (qS [rq 3 1 true] (pt false 4)).sched, disp := (qS [rq 3 1 true] (pt false 4)).disp, rep := (qS [rq 3 1 true] (pt false 4)).rep, host := (qS [rq 3 1 true] (pt false 4)).host, mgmt := (qS [rq 3 1 true] (pt false 4)).mgmt, frozen := (qS [rq 3 1 true] (pt false 4)).frozen, inputs := (qS [rq 3 1 true] (pt false 4)).inputs : State }) ∧
    (rq 3 1 true).pa = none ∧ (rq 3 1 true).phys = false ∧
    (∀ (q : MReq), q ∈ ((qS [rq 3 1 true] (pt false 4)).moon 0).queue → q.id = (rq 3 1 true).id → q = rq 3 1 true) ∧
    (rq 3 1 true).own = none ∧
    (∀ (q : MReq), q ∈ ((qS [rq 3 1 true] (pt false 4)).moon 0).queue → q.pa = none → q.own = none → q.sameWalk (rq 3 1 true) = true → q = rq 3 1 true) ∧
    (qS [rq 3 1 true] (pt false 4)).walk2 (0) (rq 3 1 true).asid (rq 3 1 true).addr = Except.ok (Sum.inr 20480) ∧
    (qS [rq 3 1 true] (pt false 4)).leaf3 0 20480 (rq 3 1 true).asid (rq 3 1 true).addr = Except.ok { asid := 9, va := va1 / 65536 * 65536, big := false, pa := 458752, w := true, a := false : TlbEnt } ∧
    { asid := 9, va := va1 / 65536 * 65536, big := false, pa := 458752, w := true, a := false : TlbEnt }.denies (rq 3 1 true) = none :=
  ⟨by simp -failIfUnchanged only [first_iff] <;> decide +kernel, by decide +kernel,
   by simp -failIfUnchanged only [ReportWaits, ↓list_ex_bv] <;> decide +kernel, by decide +kernel, by decide +kernel,
   by decide +kernel, by decide +kernel, by decide +kernel, by simp -failIfUnchanged only [ok_iff] <;> decide +kernel,
   by simp -failIfUnchanged only [ok_iff] <;> decide +kernel, by decide +kernel⟩

theorem met_MoonsTranslate_2222 :
    IsFirst ((qS [rq 3 1 true, let __src := rq 4 1 false; { id := __src.id, op := __src.op, phys := __src.phys, asid := __src.asid, len := __src.len, addr := va1 + 65536, reply := __src.reply, src := __src.src, xid := __src.xid, chunk := __src.chunk, data := __src.data, a := __src.a, b := __src.b, pa := __src.pa, walking := __src.walking, own := __src.own, header := __src.header, bad := __src.bad : MReq }] (pt false 4)).moon 0).queue (fun (q : MReq) => q.id = (rq 3 1 true).id ∧ (q.walking = true ∨ q.own ≠ none)) (rq 3 1 true) ∧
    ((qS [rq 3 1 true, let __src := rq 4 1 false; { id := __src.id, op := __src.op, phys := __src.phys, asid := __src.asid, len := __src.len, addr := va1 + 65536, reply := __src.reply, src := __src.src, xid := __src.xid, chunk := __src.chunk, data := __src.data, a := __src.a, b := __src.b, pa := __src.pa, walking := __src.walking, own := __src.own, header := __src.header, bad := __src.bad : MReq }] (pt false 4)).moon 0).stopped = false ∧
    (¬ReportWaits { now := (qS [rq 3 1 true, let __src := rq 4 1 false; { id := __src.id, op := __src.op, phys := __src.phys, asid := __src.asid, len := __src.len, addr := va1 + 65536, reply := __src.reply, src := __src.src, xid := __src.xid, chunk := __src.chunk, data := __src.data, a := __src.a, b := __src.b, pa := __src.pa, walking := __src.walking, own := __src.own, header := __src.header, bad := __src.bad : MReq }] (pt false 4)).now, wclk := (qS [rq 3 1 true, let __src := rq 4 1 false; { id := __src.id, op := __src.op, phys := __src.phys, asid := __src.asid, len := __src.len, addr := va1 + 65536, reply := __src.reply, src := __src.src, xid := __src.xid, chunk := __src.chunk, data := __src.data, a := __src.a, b := __src.b, pa := __src.pa, walking := __src.walking, own := __src.own, header := __src.header, bad := __src.bad : MReq }] (pt false 4)).wclk, delays := (qS [rq 3 1 true, let __src := rq 4 1 false; { id := __src.id, op := __src.op, phys := __src.phys, asid := __src.asid, len := __src.len, addr := va1 + 65536, reply := __src.reply, src := __src.src, xid := __src.xid, chunk := __src.chunk, data := __src.data, a := __src.a, b := __src.b, pa := __src.pa, walking := __src.walking, own := __src.own, header := __src.header, bad := __src.bad : MReq }] (pt false 4)).delays, freeCtr := (qS [rq 3 1 true, let __src := rq 4 1 false; { id := __src.id, op := __src.op, phys := __src.phys, asid := __src.asid, len := __src.len, addr := va1 + 65536, reply := __src.reply, src := __src.src, xid := __src.xid, chunk := __src.chunk, data := __src.data, a := __src.a, b := __src.b, pa := __src.pa, walking := __src.walking, own := __src.own, header := __src.header, bad := __src.bad : MReq }] (pt false 4)).freeCtr, agenda := (qS [rq 3 1 true, let __src := rq 4 1 false; { id := __src.id, op := __src.op, phys := __src.phys, asid := __src.asid, len := __src.len, addr := va1 + 65536, reply := __src.reply, src := __src.src, xid := __src.xid, chunk := __src.chunk, data := __src.data, a := __src.a, b := __src.b, pa := __src.pa, walking := __src.walking, own := __src.own, header := __src.header, bad := __src.bad : MReq }] (pt false 4)).agenda, turn := (qS [rq 3 1 true, let __src := rq 4 1 false; { id := __src.id, op := __src.op, phys := __src.phys, asid := __src.asid, len := __src.len, addr := va1 + 65536, reply := __src.reply, src := __src.src, xid := __src.xid, chunk := __src.chunk, data := __src.data, a := __src.a, b := __src.b, pa := __src.pa, walking := __src.walking, own := __src.own, header := __src.header, bad := __src.bad : MReq }] (pt false 4)).turn, cur := rankKeyOfMoon 0, tiles := (qS [rq 3 1 true, let __src := rq 4 1 false; { id := __src.id, op := __src.op, phys := __src.phys, asid := __src.asid, len := __src.len, addr := va1 + 65536, reply := __src.reply, src := __src.src, xid := __src.xid, chunk := __src.chunk, data := __src.data, a := __src.a, b := __src.b, pa := __src.pa, walking := __src.walking, own := __src.own, header := __src.header, bad := __src.bad : MReq }] (pt false 4)).tiles, moons := (qS [rq 3 1 true, let __src := rq 4 1 false; { id := __src.id, op := __src.op, phys := __src.phys, asid := __src.asid, len := __src.len, addr := va1 + 65536, reply := __src.reply, src := __src.src, xid := __src.xid, chunk := __src.chunk, data := __src.data, a := __src.a, b := __src.b, pa := __src.pa, walking := __src.walking, own := __src.own, header := __src.header, bad := __src.bad : MReq }] (pt false 4)).moons, hbm := (qS [rq 3 1 true, let __src := rq 4 1 false; { id := __src.id, op := __src.op, phys := __src.phys, asid := __src.asid, len := __src.len, addr := va1 + 65536, reply := __src.reply, src := __src.src, xid := __src.xid, chunk := __src.chunk, data := __src.data, a := __src.a, b := __src.b, pa := __src.pa, walking := __src.walking, own := __src.own, header := __src.header, bad := __src.bad : MReq }] (pt false 4)).hbm, hbmBad := (qS [rq 3 1 true, let __src := rq 4 1 false; { id := __src.id, op := __src.op, phys := __src.phys, asid := __src.asid, len := __src.len, addr := va1 + 65536, reply := __src.reply, src := __src.src, xid := __src.xid, chunk := __src.chunk, data := __src.data, a := __src.a, b := __src.b, pa := __src.pa, walking := __src.walking, own := __src.own, header := __src.header, bad := __src.bad : MReq }] (pt false 4)).hbmBad, far := (qS [rq 3 1 true, let __src := rq 4 1 false; { id := __src.id, op := __src.op, phys := __src.phys, asid := __src.asid, len := __src.len, addr := va1 + 65536, reply := __src.reply, src := __src.src, xid := __src.xid, chunk := __src.chunk, data := __src.data, a := __src.a, b := __src.b, pa := __src.pa, walking := __src.walking, own := __src.own, header := __src.header, bad := __src.bad : MReq }] (pt false 4)).far, farBad := (qS [rq 3 1 true, let __src := rq 4 1 false; { id := __src.id, op := __src.op, phys := __src.phys, asid := __src.asid, len := __src.len, addr := va1 + 65536, reply := __src.reply, src := __src.src, xid := __src.xid, chunk := __src.chunk, data := __src.data, a := __src.a, b := __src.b, pa := __src.pa, walking := __src.walking, own := __src.own, header := __src.header, bad := __src.bad : MReq }] (pt false 4)).farBad, jobs := (qS [rq 3 1 true, let __src := rq 4 1 false; { id := __src.id, op := __src.op, phys := __src.phys, asid := __src.asid, len := __src.len, addr := va1 + 65536, reply := __src.reply, src := __src.src, xid := __src.xid, chunk := __src.chunk, data := __src.data, a := __src.a, b := __src.b, pa := __src.pa, walking := __src.walking, own := __src.own, header := __src.header, bad := __src.bad : MReq }] (pt false 4)).jobs, nextJob := (qS [rq 3 1 true, let __src := rq 4 1 false; { id := __src.id, op := __src.op, phys := __src.phys, asid := __src.asid, len := __src.len, addr := va1 + 65536, reply := __src.reply, src := __src.src, xid := __src.xid, chunk := __src.chunk, data := __src.data, a := __src.a, b := __src.b, pa := __src.pa, walking := __src.walking, own := __src.own, header := __src.header, bad := __src.bad : MReq }] (pt false 4)).nextJob, ert := (qS [rq 3 1 true, let __src := rq 4 1 false; { id := __src.id, op := __src.op, phys := __src.phys, asid := __src.asid, len := __src.len, addr := va1 + 65536, reply := __src.reply, src := __src.src, xid := __src.xid, chunk := __src.chunk, data := __src.data, a := __src.a, b := __src.b, pa := __src.pa, walking := __src.walking, own := __src.own, header := __src.header, bad := __src.bad : MReq }] (pt false 4)).ert, net := (qS [rq 3 1 true, let __src := rq 4 1 false; { id := __src.id, op := __src.op, phys := __src.phys, asid := __src.asid, len := __src.len, addr := va1 + 65536, reply := __src.reply, src := __src.src, xid := __src.xid, chunk := __src.chunk, data := __src.data, a := __src.a, b := __src.b, pa := __src.pa, walking := __src.walking, own := __src.own, header := __src.header, bad := __src.bad : MReq }] (pt false 4)).net, red := (qS [rq 3 1 true, let __src := rq 4 1 false; { id := __src.id, op := __src.op, phys := __src.phys, asid := __src.asid, len := __src.len, addr := va1 + 65536, reply := __src.reply, src := __src.src, xid := __src.xid, chunk := __src.chunk, data := __src.data, a := __src.a, b := __src.b, pa := __src.pa, walking := __src.walking, own := __src.own, header := __src.header, bad := __src.bad : MReq }] (pt false 4)).red, sched := (qS [rq 3 1 true, let __src := rq 4 1 false; { id := __src.id, op := __src.op, phys := __src.phys, asid := __src.asid, len := __src.len, addr := va1 + 65536, reply := __src.reply, src := __src.src, xid := __src.xid, chunk := __src.chunk, data := __src.data, a := __src.a, b := __src.b, pa := __src.pa, walking := __src.walking, own := __src.own, header := __src.header, bad := __src.bad : MReq }] (pt false 4)).sched, disp := (qS [rq 3 1 true, let __src := rq 4 1 false; { id := __src.id, op := __src.op, phys := __src.phys, asid := __src.asid, len := __src.len, addr := va1 + 65536, reply := __src.reply, src := __src.src, xid := __src.xid, chunk := __src.chunk, data := __src.data, a := __src.a, b := __src.b, pa := __src.pa, walking := __src.walking, own := __src.own, header := __src.header, bad := __src.bad : MReq }] (pt false 4)).disp, rep := (qS [rq 3 1 true, let __src := rq 4 1 false; { id := __src.id, op := __src.op, phys := __src.phys, asid := __src.asid, len := __src.len, addr := va1 + 65536, reply := __src.reply, src := __src.src, xid := __src.xid, chunk := __src.chunk, data := __src.data, a := __src.a, b := __src.b, pa := __src.pa, walking := __src.walking, own := __src.own, header := __src.header, bad := __src.bad : MReq }] (pt false 4)).rep, host := (qS [rq 3 1 true, let __src := rq 4 1 false; { id := __src.id, op := __src.op, phys := __src.phys, asid := __src.asid, len := __src.len, addr := va1 + 65536, reply := __src.reply, src := __src.src, xid := __src.xid, chunk := __src.chunk, data := __src.data, a := __src.a, b := __src.b, pa := __src.pa, walking := __src.walking, own := __src.own, header := __src.header, bad := __src.bad : MReq }] (pt false 4)).host, mgmt := (qS [rq 3 1 true, let __src := rq 4 1 false; { id := __src.id, op := __src.op, phys := __src.phys, asid := __src.asid, len := __src.len, addr := va1 + 65536, reply := __src.reply, src := __src.src, xid := __src.xid, chunk := __src.chunk, data := __src.data, a := __src.a, b := __src.b, pa := __src.pa, walking := __src.walking, own := __src.own, header := __src.header, bad := __src.bad : MReq }] (pt false 4)).mgmt, frozen := (qS [rq 3 1 true, let __src := rq 4 1 false; { id := __src.id, op := __src.op, phys := __src.phys, asid := __src.asid, len := __src.len, addr := va1 + 65536, reply := __src.reply, src := __src.src, xid := __src.xid, chunk := __src.chunk, data := __src.data, a := __src.a, b := __src.b, pa := __src.pa, walking := __src.walking, own := __src.own, header := __src.header, bad := __src.bad : MReq }] (pt false 4)).frozen, inputs := (qS [rq 3 1 true, let __src := rq 4 1 false; { id := __src.id, op := __src.op, phys := __src.phys, asid := __src.asid, len := __src.len, addr := va1 + 65536, reply := __src.reply, src := __src.src, xid := __src.xid, chunk := __src.chunk, data := __src.data, a := __src.a, b := __src.b, pa := __src.pa, walking := __src.walking, own := __src.own, header := __src.header, bad := __src.bad : MReq }] (pt false 4)).inputs : State }) ∧
    (rq 3 1 true).pa = none ∧ (rq 3 1 true).phys = false ∧
    (∀ (q : MReq), q ∈ ((qS [rq 3 1 true, let __src := rq 4 1 false; { id := __src.id, op := __src.op, phys := __src.phys, asid := __src.asid, len := __src.len, addr := va1 + 65536, reply := __src.reply, src := __src.src, xid := __src.xid, chunk := __src.chunk, data := __src.data, a := __src.a, b := __src.b, pa := __src.pa, walking := __src.walking, own := __src.own, header := __src.header, bad := __src.bad : MReq }] (pt false 4)).moon 0).queue → q.id = (rq 3 1 true).id → q = rq 3 1 true) ∧
    (rq 3 1 true).own = none ∧
    (qS [rq 3 1 true, let __src := rq 4 1 false; { id := __src.id, op := __src.op, phys := __src.phys, asid := __src.asid, len := __src.len, addr := va1 + 65536, reply := __src.reply, src := __src.src, xid := __src.xid, chunk := __src.chunk, data := __src.data, a := __src.a, b := __src.b, pa := __src.pa, walking := __src.walking, own := __src.own, header := __src.header, bad := __src.bad : MReq }] (pt false 4)).walk2 (0) (rq 3 1 true).asid (rq 3 1 true).addr = Except.ok (Sum.inr 20480) ∧
    (let __src := rq 4 1 false; { id := __src.id, op := __src.op, phys := __src.phys, asid := __src.asid, len := __src.len, addr := va1 + 65536, reply := __src.reply, src := __src.src, xid := __src.xid, chunk := __src.chunk, data := __src.data, a := __src.a, b := __src.b, pa := __src.pa, walking := __src.walking, own := __src.own, header := __src.header, bad := __src.bad : MReq }) ∈ ((qS [rq 3 1 true, let __src := rq 4 1 false; { id := __src.id, op := __src.op, phys := __src.phys, asid := __src.asid, len := __src.len, addr := va1 + 65536, reply := __src.reply, src := __src.src, xid := __src.xid, chunk := __src.chunk, data := __src.data, a := __src.a, b := __src.b, pa := __src.pa, walking := __src.walking, own := __src.own, header := __src.header, bad := __src.bad : MReq }] (pt false 4)).moon 0).queue ∧
    (let __src := rq 4 1 false; { id := __src.id, op := __src.op, phys := __src.phys, asid := __src.asid, len := __src.len, addr := va1 + 65536, reply := __src.reply, src := __src.src, xid := __src.xid, chunk := __src.chunk, data := __src.data, a := __src.a, b := __src.b, pa := __src.pa, walking := __src.walking, own := __src.own, header := __src.header, bad := __src.bad : MReq }).pa = none ∧
    (let __src := rq 4 1 false; { id := __src.id, op := __src.op, phys := __src.phys, asid := __src.asid, len := __src.len, addr := va1 + 65536, reply := __src.reply, src := __src.src, xid := __src.xid, chunk := __src.chunk, data := __src.data, a := __src.a, b := __src.b, pa := __src.pa, walking := __src.walking, own := __src.own, header := __src.header, bad := __src.bad : MReq }).own = none ∧
    (let __src := rq 4 1 false; { id := __src.id, op := __src.op, phys := __src.phys, asid := __src.asid, len := __src.len, addr := va1 + 65536, reply := __src.reply, src := __src.src, xid := __src.xid, chunk := __src.chunk, data := __src.data, a := __src.a, b := __src.b, pa := __src.pa, walking := __src.walking, own := __src.own, header := __src.header, bad := __src.bad : MReq }).sameWalk (rq 3 1 true) = true ∧
    (let __src := rq 4 1 false; { id := __src.id, op := __src.op, phys := __src.phys, asid := __src.asid, len := __src.len, addr := va1 + 65536, reply := __src.reply, src := __src.src, xid := __src.xid, chunk := __src.chunk, data := __src.data, a := __src.a, b := __src.b, pa := __src.pa, walking := __src.walking, own := __src.own, header := __src.header, bad := __src.bad : MReq }).addr / 65536 ≠ (rq 3 1 true).addr / 65536 ∧
    (∀ (y : MReq), y ∈ ((qS [rq 3 1 true, let __src := rq 4 1 false; { id := __src.id, op := __src.op, phys := __src.phys, asid := __src.asid, len := __src.len, addr := va1 + 65536, reply := __src.reply, src := __src.src, xid := __src.xid, chunk := __src.chunk, data := __src.data, a := __src.a, b := __src.b, pa := __src.pa, walking := __src.walking, own := __src.own, header := __src.header, bad := __src.bad : MReq }] (pt false 4)).moon 0).queue → y.id = (let __src := rq 4 1 false; { id := __src.id, op := __src.op, phys := __src.phys, asid := __src.asid, len := __src.len, addr := va1 + 65536, reply := __src.reply, src := __src.src, xid := __src.xid, chunk := __src.chunk, data := __src.data, a := __src.a, b := __src.b, pa := __src.pa, walking := __src.walking, own := __src.own, header := __src.header, bad := __src.bad : MReq }).id → y = let __src := rq 4 1 false; { id := __src.id, op := __src.op, phys := __src.phys, asid := __src.asid, len := __src.len, addr := va1 + 65536, reply := __src.reply, src := __src.src, xid := __src.xid, chunk := __src.chunk, data := __src.data, a := __src.a, b := __src.b, pa := __src.pa, walking := __src.walking, own := __src.own, header := __src.header, bad := __src.bad : MReq }) :=
  ⟨by simp -failIfUnchanged only [first_iff] <;> decide +kernel, by decide +kernel,
   by simp -failIfUnchanged only [ReportWaits, ↓list_ex_bv] <;> decide +kernel, by decide +kernel, by decide +kernel,
   by decide +kernel, by decide +kernel, by simp -failIfUnchanged only [ok_iff] <;> decide +kernel, by decide +kernel,
   by decide +kernel, by decide +kernel, by decide +kernel, by decide +kernel, by decide +kernel⟩

theorem met_MoonsPerform_11 :
    Performs z6 0 (pq 3 0 20483 16 []) 20483 ∧ (pq 3 0 20483 16 []).op = 0 :=
  ⟨by simp -failIfUnchanged only [Performs, ReportWaits, first_iff, ↓list_all_bv, ↓list_all_bv2, ↓list_ex_bv] <;> decide +kernel,
   by decide +kernel⟩

theorem met_MoonsPerform_121 :
    Performs z7 0 (pq 3 1 20483 16 (byt 16)) 20483 ∧ (pq 3 1 20483 16 (byt 16)).op = 1 ∧
    (pq 3 1 20483 16 (byt 16)).data.length = (pq 3 1 20483 16 (byt 16)).len :=
  ⟨by simp -failIfUnchanged only [Performs, ReportWaits, first_iff, ↓list_all_bv, ↓list_all_bv2, ↓list_ex_bv] <;> decide +kernel,
   by decide +kernel, by decide +kernel⟩

theorem met_MoonsPerform_122 :
    Performs (pS [pq 3 2 20480 4 (bytesOf 1311768467463790320 16)]) 0 (pq 3 2 20480 4 (bytesOf 1311768467463790320 16)) 20480 ∧
    atomStep (Instr.moonAdd 0 3) = some (0, (pq 3 2 20480 4 (bytesOf 1311768467463790320 16)).id, 2) ∧
    ((pq 3 2 20480 4 (bytesOf 1311768467463790320 16)).op.toNat = 2 ∨ (pq 3 2 20480 4 (bytesOf 1311768467463790320 16)).op.toNat = 2 + 1) ∧
    (pq 3 2 20480 4 (bytesOf 1311768467463790320 16)).len = if (pq 3 2 20480 4 (bytesOf 1311768467463790320 16)).op.toNat = 2 then 4 else 8 :=
  ⟨by simp -failIfUnchanged only [Performs, ReportWaits, first_iff, ↓list_all_bv, ↓list_all_bv2, ↓list_ex_bv] <;> decide +kernel,
   by decide +kernel, by decide +kernel, by decide +kernel⟩

theorem met_MoonsPerform_2222221 :
    (z8.moon 0).stopped = true ∧ (z8.moon 0).restarted = true :=
  by decide +kernel

theorem met_MoonsPerform_2222222 :
    ((z9.moon 0).stopped = false ∨ (z9.moon 0).restarted = false) :=
  by decide +kernel

end Serve

end Sys2Proof.Tests
end

