-- ==== Sys2Proof/Tests/MetOperands.lean ====
section
/-!
SUPPORT. States that meet the hypotheses of the statements about operands, scalar and vector ops: `met_<Obligation>_<path>` meets those of the
clause at that place of the statement (1: the left side of a conjunction, 2: the right side).
-/

set_option linter.unusedVariables false
set_option linter.unusedSimpArgs false

namespace Sys2Proof.Tests

set_option Elab.async false

open Machine

namespace Arith

def z1 : State := (st tile)

theorem met_ScalarResults_1 :
    ∃ (x : TwoOp), twoOp (Instr.add p (Reg.s 4) (Reg.s 1) (Opd.reg (Reg.s 2))) = some x ∧
    ∃ (s1 : State), z1.popS x.ra = Except.ok s1 ∧ ∃ (s2 : State), s1.popO x.b = Except.ok s2 ∧
    ∃ (s3 : State), s2.wrS x.a x.lat x.d (x.f (s2.rdS x.ra) (s2.rdO x.b)) = Except.ok s3 :=
  by simp -failIfUnchanged only [↓opt_ex, ↓opt_is, ↓ok_ex, ↓ok_is, ok_iff] <;> decide +kernel

theorem met_ScalarResults_21 :
    ∃ (x : OneOp), oneOp (Instr.clz p (Reg.s 4) (Reg.s 1)) = some x ∧ ∃ (s1 : State), z1.popS x.ra = Except.ok s1 ∧
    ∃ (s2 : State), s1.wrS x.a 1 x.d (x.f (s1.rdS x.ra)) = Except.ok s2 :=
  by simp -failIfUnchanged only [↓opt_ex, ↓opt_is, ↓ok_ex, ↓ok_is, ok_iff] <;> decide +kernel

theorem met_ScalarResults_221 :
    ∃ (x : ConstOp), constOp (Instr.li p true (Reg.s 4) 2147483649) = some x ∧
    ∃ (s1 : State), z1.wrS x.a 1 x.d (x.x z1) = Except.ok s1 :=
  by simp -failIfUnchanged only [↓opt_ex, ↓opt_is, ↓ok_is, ok_iff] <;> decide +kernel

theorem met_VectorArithmetic_1 :
    ∃ (x : VecOp), vecArith (Instr.vadd p Ety.f32 false (Reg.v 3) (Reg.v 2) (Reg.v 1)) = some x ∧
    (Instr.vadd p Ety.f32 false (Reg.v 3) (Reg.v 2) (Reg.v 1)).wf = true ∧ ∃ (x1 : State), z1.popVs x.srcs = Except.ok x1 ∧
    (∀ (j : Nat), j < 512 / x.w → laneAt x.w (0 : W512) j = x.lane x1 j) ∧
    ∃ (x2 : State), x1.wrV x.a x.lat x.d (0 : W512) (if x.merge = true then x1.t.keepBits x.a x.w else (0 : W512)) = Except.ok x2 :=
  by simp -failIfUnchanged only [↓opt_ex, ↓opt_is, ↓ok_ex, ↓ok_is, ok_iff] <;> decide +kernel

theorem met_VectorArithmetic_21 :
    ∃ (x : VecOp), vecMove (Instr.vmov p Ety.i32 (Reg.v 3) (Reg.v 2)) = some x ∧
    (Instr.vmov p Ety.i32 (Reg.v 3) (Reg.v 2)).wf = true ∧ ∃ (x1 : State), z1.popVs x.srcs = Except.ok x1 ∧
    (∀ (j : Nat), j < 512 / x.w → laneAt x.w (0 : W512) j = x.lane x1 j) ∧
    ∃ (x2 : State), x1.wrV x.a x.lat x.d (0 : W512) (if x.merge = true then x1.t.keepBits x.a x.w else (0 : W512)) = Except.ok x2 :=
  by simp -failIfUnchanged only [↓opt_ex, ↓opt_is, ↓ok_ex, ↓ok_is, ok_iff] <;> decide +kernel

theorem met_VectorArithmetic_22 :
    ∃ (x : VecOp), vecConv (Instr.vcvt p Ety.i32 Ety.f32 false (Reg.v 3) (Reg.v 2)) = some x ∧
    (Instr.vcvt p Ety.i32 Ety.f32 false (Reg.v 3) (Reg.v 2)).wf = true ∧ ∃ (x1 : State), z1.popVs x.srcs = Except.ok x1 ∧
    (∀ (j : Nat), j < 512 / x.w → laneAt x.w (0 : W512) j = x.lane x1 j) ∧
    ∃ (x2 : State), x1.wrV x.a x.lat x.d (0 : W512) (if x.merge = true then x1.t.keepBits x.a x.w else (0 : W512)) = Except.ok x2 :=
  by simp -failIfUnchanged only [↓opt_ex, ↓opt_is, ↓ok_ex, ↓ok_is, ok_iff] <;> decide +kernel

theorem met_VectorSpecials :
    ∃ (x : VecOp), vecSpecial (Instr.vredadd p Ety.i32 false (Reg.v 3) (Reg.v 2)) = some x ∧
    (Instr.vredadd p Ety.i32 false (Reg.v 3) (Reg.v 2)).wf = true ∧ ∃ (x1 : State), z1.popVs x.srcs = Except.ok x1 ∧
    (∀ (j : Nat), j < 512 / x.w → laneAt x.w (0 : W512) j = x.lane x1 j) ∧
    ∃ (x2 : State), x1.wrV x.a x.lat x.d (0 : W512) (if x.merge = true then x1.t.keepBits x.a x.w else (0 : W512)) = Except.ok x2 :=
  by simp -failIfUnchanged only [↓opt_ex, ↓opt_is, ↓ok_ex, ↓ok_is, ok_iff] <;> decide +kernel

theorem met_MaskResults :
    ∃ (x : MaskOp), maskOp (Instr.mand p (Reg.m 2) (Reg.m 3) (Reg.m 4)) = some x ∧
    (Instr.mand p (Reg.m 2) (Reg.m 3) (Reg.m 4)).wf = true ∧ ∃ (x1 : State), z1.popVs x.srcs = Except.ok x1 ∧
    (∀ (j : Nat), j < 64 → BitVec.getLsbD (0 : W64) j = x.bit x1 j) :=
  by simp -failIfUnchanged only [↓opt_ex, ↓opt_is, ↓ok_ex, ↓ok_is, ok_iff] <;> decide +kernel

theorem met_DecodeRefuses_1 :
    Unassigned (headOpc (headWord 20)) :=
  by simp -failIfUnchanged only [Unassigned] <;> decide +kernel

theorem met_DecodeRefuses_21 :
    (headOpc (headWord 139) ∈ chb2 ∧ 1 < 2 ∨ headOpc (headWord 139) ∈ chb3 ∧ 1 < 3) :=
  by decide +kernel

theorem met_DecodeRefuses_2211 :
    (1 : Nat) ≤ 3 ∧ headOpc (headWord 29) ∈ [29, 30, 31] :=
  by decide +kernel

theorem met_DecodeRefuses_2212 :
    (1 : Nat) ≤ 3 ∧ headOpc (headWord 29) ∈ [29, 30, 31] ∧ (2 : Nat) ≤ 3 :=
  by decide +kernel

theorem met_DecodeRefuses_2221 :
    (5 < headLvl (headWord 32 + 6) ∨ headIq (headWord 32 + 6) = 0 ∧ headLvl (headWord 32 + 6) ≠ 0) :=
  by decide +kernel

theorem met_DecodeRefuses_2222 :
    headOpc (headWord 34) ∈ [34, 192, 226] ∧ (Tail.ofNat (2 ^ 13)).mask ≠ 0 :=
  by decide +kernel

end Arith

namespace Divide

def sv (x y z: W64) : State := { State.reset with now := 1000, cur := 5, tiles := [(5, { Tile.reset with regs := { Regs.reset with s := ((Regs.reset.s.set 1 x).set 2 y).set 3 z, m := Regs.reset.m.set 2 x, q1 := [7,8], q0:=[⟨y.setWidth 512 ||| (x.setWidth 512 <<< 64),false⟩] }, thr := { Thread.reset with st := .running } })] }

def p := Attr.plain
def z1 : State := (sv 1 2 3)

def z2 : State := (sv 0xFFFFFFFFFFFFFFFF 2 3)
def z3 : State := (sv 7 2 0)

theorem met_ScalarResults_2221 :
    ∃ (s1 : State), z1.popS (Reg.s 1) = Except.ok s1 ∧ ∃ (s2 : State), s1.popS (Reg.q 1) = Except.ok s2 ∧
    ∃ (s3 : State), s2.popS (Reg.s 3) = Except.ok s3 ∧
    ∃ (s4 : State), s3.wrS p 1 (Reg.s 4) (if s3.rdS (Reg.s 3) = 0 then s3.rdS (Reg.q 1) else s3.rdS (Reg.s 1)) = Except.ok s4 :=
  by simp -failIfUnchanged only [↓ok_ex, ↓ok_is, ok_iff] <;> decide +kernel

theorem met_ScalarResults_2222 :
    ∃ (s1 : State), z2.popV (Reg.q 0) = Except.ok s1 ∧ ∃ (s2 : State), s1.popO (Opd.reg (Reg.q 1)) = Except.ok s2 ∧
    ∃ (s3 : State), s2.wrS p 3 (Reg.s 4) (if Ety.i16.isSigned = true then BitVec.ofInt 64 (BitVec.ofNat Ety.i16.width (srcLane s2 Ety.i16.width (Reg.q 0) (BitVec.toNat (s2.rdO (Opd.reg (Reg.q 1))) % (512 / Ety.i16.width)))).toInt else BitVec.ofNat 64 (BitVec.ofNat Ety.i16.width (srcLane s2 Ety.i16.width (Reg.q 0) (BitVec.toNat (s2.rdO (Opd.reg (Reg.q 1))) % (512 / Ety.i16.width)))).toNat) = Except.ok s3 :=
  by simp -failIfUnchanged only [↓ok_ex, ↓ok_is, ok_iff] <;> decide +kernel

theorem met_ScalarDivision_1 :
    ∃ (x : TwoOp), divOp (Instr.div { iq := 0, lvl := 0, sba := 3, sbc := 0, pdist := 0, mask := 0, mneg := false : Attr } false (Reg.s 4) (Reg.s 1) (Opd.reg (Reg.s 2))) = some x ∧
    ∃ (s1 : State), z3.popS x.ra = Except.ok s1 ∧ ∃ (s2 : State), s1.popO x.b = Except.ok s2 ∧
    ∃ (s3 : State), s2.wrS x.a 18 x.d (x.f (s2.rdS x.ra) (s2.rdO x.b)) = Except.ok s3 :=
  by simp -failIfUnchanged only [↓opt_ex, ↓opt_is, ↓ok_ex, ↓ok_is, ok_iff] <;> decide +kernel

theorem met_ScalarDivision_2 :
    ∃ (x : TwoOp), divOp (Instr.div { iq := 0, lvl := 0, sba := 3, sbc := 0, pdist := 0, mask := 0, mneg := false : Attr } false (Reg.s 4) (Reg.s 1) (Opd.reg (Reg.s 2))) = some x ∧
    ∃ (s1 : State), z3.popS x.ra = Except.ok s1 ∧ ∃ (s2 : State), s1.popO x.b = Except.ok s2 ∧ x.d = Reg.s 4 :=
  by simp -failIfUnchanged only [↓opt_ex, ↓opt_is, ↓ok_ex, ↓ok_is, ok_iff] <;> decide +kernel

end Divide

namespace Forms

def flt : Tile := { tile with regs := { tile.regs with flight := [⟨1001,.s 3,5,0,0,false⟩,⟨1002,.s 4,5,0,0,false⟩], q1 := [1] } }

def full : Tile := { tile with regs := { tile.regs with q1 := List.replicate 32 1 } }
def qs : Tile := { tile with regs := { tile.regs with q0 := [⟨5,false⟩,⟨6,false⟩], q1 := [1,2] }, thr := { tile.thr with queue := some 2} }

def zZero : State := st { tile with regs := { tile.regs with loads := [⟨.zero, 3, 1000, 0, false⟩, ⟨.s 4, 3, 1001, 0, false⟩] } }
def z1 : State := (st flt)

def z2 : State := (st specT)
def z3 : State := (st full)

def z4 : State := (st { tile with spec := some { spec0 with vcopies := (List.range 64).map fun k => (Fin.ofNat 384 (k + 10), 7) } })
def z5 : State := (st { qs with iss := { qs.iss with q0 := some 9, q1 := some 8} })

def z6 : State := (st qs)
def z7 : State := (st { tile with thr := { qs.thr with queue := some 3} })

def z8 : State := (st { qs with thr := { qs.thr with inHandler := true} })
def z9 : State := (st { tile with regs := { tile.regs with flight := [⟨999,.s 3,5,0,0,false⟩,⟨1000,.v 4,0xFFFFFFFFF,0xFF,0,false⟩,⟨1000,.m 4,6,0,0,false⟩,⟨1000,.s 3,7,0,0,false⟩,⟨1002,.s 4,5,0,0,false⟩], v := tile.regs.v.set 4 0xABC }, bad := [0x200003] })

def z10 : State := (st { tile with regs := { tile.regs with loads := [⟨.q0, 3, 1000,0,false⟩,⟨.s 4, 3, 1001,0,false⟩]} })
def z11 : State := (st { tile with regs := { tile.regs with loads := [⟨.s 3, 3, 1000,0,false⟩,⟨.s 4, 3, 1001,0,false⟩]} })

theorem met_OperandForms_1221 :
    z1.t.isSpec = false ∧ q1Held z1.t < 32 :=
  by decide +kernel

theorem met_OperandForms_12221 :
    z2.t.isSpec = true :=
  by decide +kernel

theorem met_OperandForms_122221 :
    z3.t.isSpec = false ∧ (32 : Nat) ≤ q1Held z3.t :=
  by decide +kernel

theorem met_OperandForms_122222 :
    0 ≠ 1 :=
  by decide +kernel

theorem met_OperandForms_211 :
    z1.t.isSpec = false :=
  by decide +kernel

theorem met_OperandForms_2121 :
    ∃ (sp : Spec), z2.t.spec = some sp ∧ sp.wait = false ∧ (∀ (c : Fin 384 × W512), c ∈ sp.vcopies → c.fst ≠ 0) ∧
    sp.vcopies.length < 64 :=
  by simp -failIfUnchanged only [↓opt_ex, ↓opt_is, ↓list_all_fin] <;> decide +kernel

theorem met_OperandForms_21221 :
    ∃ (sp : Spec), z4.t.spec = some sp ∧ sp.wait = false ∧ (∀ (c : Fin 384 × W512), c ∈ sp.vcopies → c.fst ≠ 0) ∧
    (64 : Nat) ≤ sp.vcopies.length :=
  by simp -failIfUnchanged only [↓opt_ex, ↓opt_is, ↓list_all_fin] <;> decide +kernel

theorem met_OperandForms_2122221 :
    0 ≠ 3 :=
  by decide +kernel

theorem met_OperandForms_221 :
    ∃ (v : W512), z5.t.iss.q0 = some v :=
  by simp -failIfUnchanged only [↓opt_is] <;> decide +kernel

theorem met_OperandForms_2221 :
    ∃ (v : W32), z5.t.iss.q1 = some v :=
  by simp -failIfUnchanged only [↓opt_is] <;> decide +kernel

theorem met_OperandForms_22221 :
    z6.t.iss.q0 = none ∧ z6.t.thr.inHandler = false ∧ z6.t.isSpec = false ∧
    ∃ (e : Q0Ent) (r : List Q0Ent), z6.t.regs.q0 = e :: r :=
  ⟨by decide +kernel, by decide +kernel, by decide +kernel, by simp -failIfUnchanged only [↓cons_is] <;> decide +kernel⟩

theorem met_OperandForms_222221 :
    z6.t.iss.q1 = none ∧ z6.t.thr.inHandler = false ∧ z6.t.isSpec = false ∧ ∃ (e : W32) (r : List W32), z6.t.regs.q1 = e :: r :=
  ⟨by decide +kernel, by decide +kernel, by decide +kernel, by simp -failIfUnchanged only [↓cons_is] <;> decide +kernel⟩

theorem met_OperandForms_2222221 :
    z7.t.iss.q0 = none ∧ z7.t.thr.inHandler = false ∧ z7.t.regs.q0 = [] :=
  by decide +kernel

theorem met_OperandForms_22222221 :
    z7.t.iss.q1 = none ∧ z7.t.thr.inHandler = false ∧ z7.t.regs.q1 = [] :=
  by decide +kernel

theorem met_OperandForms_222222221 :
    z8.t.iss.q0 = none ∧ z8.t.thr.inHandler = true :=
  by decide +kernel

theorem met_OperandForms_2222222221 :
    z8.t.iss.q1 = none ∧ z8.t.thr.inHandler = true :=
  by decide +kernel

theorem met_ResultsLand_1 :
    z9.t.spec = none :=
  by decide +kernel

theorem met_ResultsLand_21 :
    ∃ (x : Load) (x1 : List Load), z10.t.regs.loads = x :: x1 ∧ x.due ≤ z10.now ∧ (∀ (x : Load), x ∈ x1 → z10.now < x.due) ∧
    z10.t.spec = none ∧ x.dst = LoadTo.q0 :=
  by simp -failIfUnchanged only [↓cons_ex, ↓cons_is] <;> decide +kernel

theorem met_ResultsLand_222 :
    ∃ (x : Load) (x1 : List Load), z11.t.regs.loads = x :: x1 ∧ x.due ≤ z11.now ∧ (∀ (x : Load), x ∈ x1 → z11.now < x.due) ∧
    z11.t.spec = none ∧ x.dst = LoadTo.s 3 :=
  by simp -failIfUnchanged only [↓cons_ex, ↓cons_is] <;> decide +kernel

theorem met_OperandForms_21222221 : 15 ≠ 0 := by decide

theorem met_ResultsLand_221 :
    zZero.t.regs.loads = ⟨.zero, 3, 1000, 0, false⟩ :: [⟨.s 4, 3, 1001, 0, false⟩] ∧ 1000 ≤ zZero.now ∧
      (∀ x ∈ [(⟨.s 4, 3, 1001, 0, false⟩ : Load)], zZero.now < x.due) ∧ zZero.t.spec = none :=
  ⟨rfl, by decide +kernel, by decide +kernel, rfl⟩

end Forms

namespace Frames

def q3 : Tile := { tile with regs := { tile.regs with q0 := [⟨5,false⟩,⟨6,false⟩], q1 := [3,4], flight := [⟨1005,.v 7,5,0,0,false⟩] }, msg := { tile.msg with chan := (tile.msg.chan.set 3 { Chan.invalid with v := true, recvEnd := true, qb := true, etype := 1, depth := 4, size := 64, wper := 10, wlen := 5, buf := [List.replicate 64 7] }).set 4 { Chan.invalid with v := true, recvEnd := false, qb := true, etype := 1, depth := 4, size := 64, wper := 10, wlen := 5, w := 0, credits := 3 }} }

theorem met_RegisterOpsFrame :
    regResult (.vadd p .f32 false (.q 3) (.q 2) (.q 0)) = some (.q 3) ∧
      ∃ t, exec (.vadd p .f32 false (.q 3) (.q 2) (.q 0)) (st q3) = .next t ∧ t.t.iss.verdict = .issued :=
  ⟨by decide +kernel, _, rfl, by decide +kernel⟩

end Frames

end Sys2Proof.Tests
end

