-- ==== Sys2Proof/Tests/MetSteps.lean ====
section
/-!
SUPPORT. States that meet the hypotheses of the statements about steps and encodings: `met_<Obligation>_<path>` meets those of the
clause at that place of the statement (1: the left side of a conjunction, 2: the right side).
-/

set_option linter.unusedVariables false
set_option linter.unusedSimpArgs false

namespace Sys2Proof.Tests

set_option Elab.async false

open Machine

namespace Runs

def stT (hd tl : Nat) (f : Tile → Tile := id) : Tile := f { tile with thr := { thr with base := 990 }, imem := (Mem.write [] 64 (line1 hd tl) : Mem) }

def sS (hd tl : Nat) (f : Tile → Tile := id) : State := { st (stT hd tl f) with turn := [5, 6] }
def zAb : State := { sS (headWord 32) (tailWord 385 386 387 0 0) fun t => { t with thr := { t.thr with gang := some 4 } } with
  sched := { Sched.reset with gangs := [⟨4, Klr.of [], 0, [5], false, false, false, 900, [3], []⟩] } }

def z1 : State := { sS 0 0 with agenda := [⟨3, 9, .slotAllocateWaiting⟩, ⟨5, 6, .slotAllocateWaiting⟩] }
def z2 : State := (sS (headWord 0x20) (tailWord 385 386 387 0 0))

def z3 : State := (sS (headWord 0xE2) (tailWord 0 400 0 0 0))
def z4 : State := (sS (headWord 0x12) 1 fun t => { t with cpl := t.cpl.set 3 (slot .mget 1) })

def z5 : State := (sS (headWord 0x20) (tailWord 385 386 387 0 0) fun t => { t with thr := { t.thr with base := 1000 } })
def z6 : State := (sS 0 0 fun t => { t with thr := { t.thr with st := .halted } })

def z7 : State := (sS 0 0 fun t => { t with thr := { t.thr with deferred := [⟨.align, 3, true⟩] } })
def z8 : State := { sS 0 0 with turn := [], agenda := [⟨1001, 9, .slotAllocateWaiting⟩] }

theorem met_StepRunsDecoded_1 :
    z1.mgmt.trip = none ∧
    z1.agenda = [{ due := 3, unit := 9, ev := Instr.slotAllocateWaiting : Timed }, { due := 5, unit := 6, ev := Instr.slotAllocateWaiting : Timed }] ∧
    { due := 3, unit := 9, ev := Instr.slotAllocateWaiting : Timed }.due ≤ z1.now :=
  by decide +kernel

theorem met_StepRunsDecoded_211 :
    TurnOf z2 5 [6] ∧ NotAborted z2 5 ∧ Quiet (z2.tile 5) z2.now ∧
    Fetches (z2.tile 5) 5 0 (headWord 32) (tailWord 385 386 387 0 0) Opc.add (Instr.add p (Reg.s 1) (Reg.s 2) (Opd.reg (Reg.s 3))) ∧
    (z2.tile 5).thr.base + 1 + (Tail.ofNat (tailWord 385 386 387 0 0)).pdist ≤ z2.now ∧
    exec (Instr.add p (Reg.s 1) (Reg.s 2) (Opd.reg (Reg.s 3))) (tried z2 5 [6] 0 (Instr.add p (Reg.s 1) (Reg.s 2) (Opd.reg (Reg.s 3)))) = Host.Outcome.next (((tried z2 5 [6] 0 (Instr.add p (Reg.s 1) (Reg.s 2) (Opd.reg (Reg.s 3)))).fly 1 (Dest.s 1) (BitVec.setWidth 512 ((fun (x y : W64) => x + y) ((tried z2 5 [6] 0 (Instr.add p (Reg.s 1) (Reg.s 2) (Opd.reg (Reg.s 3)))).rdS (Reg.s 2)) ((tried z2 5 [6] 0 (Instr.add p (Reg.s 1) (Reg.s 2) (Opd.reg (Reg.s 3)))).rdO (Opd.reg (Reg.s 3))))) (0 : W512) p.sba).setVerdict Verdict.issued) ∧
    (((tried z2 5 [6] 0 (Instr.add p (Reg.s 1) (Reg.s 2) (Opd.reg (Reg.s 3)))).fly 1 (Dest.s 1) (BitVec.setWidth 512 ((fun (x y : W64) => x + y) ((tried z2 5 [6] 0 (Instr.add p (Reg.s 1) (Reg.s 2) (Opd.reg (Reg.s 3)))).rdS (Reg.s 2)) ((tried z2 5 [6] 0 (Instr.add p (Reg.s 1) (Reg.s 2) (Opd.reg (Reg.s 3)))).rdO (Opd.reg (Reg.s 3))))) (0 : W512) p.sba).setVerdict Verdict.issued).t.iss.verdict = Verdict.issued :=
  ⟨by simp -failIfUnchanged only [TurnOf, ↓cons_all] <;> decide +kernel,
   by simp -failIfUnchanged only [NotAborted, ↓opt_all, ↓opt_all2] <;> decide +kernel, by constructor <;> decide +kernel,
   by apply fetches_of <;> decide +kernel, by decide +kernel, rfl, by decide +kernel⟩

theorem met_StepRunsDecoded_2121 :
    TurnOf z3 5 [6] ∧ NotAborted z3 5 ∧ Quiet (z3.tile 5) z3.now ∧
    Fetches (z3.tile 5) 5 0 (headWord 226) (tailWord 0 400 0 0 0) Opc.xfree (Instr.xfree p (Reg.s 16)) ∧
    (z3.tile 5).thr.base + 1 + (Tail.ofNat (tailWord 0 400 0 0 0)).pdist ≤ z3.now ∧
    exec (Instr.xfree p (Reg.s 16)) (tried z3 5 [6] 0 (Instr.xfree p (Reg.s 16))) = Host.Outcome.next (((tried z3 5 [6] 0 (Instr.xfree p (Reg.s 16))).takeTrap (tried z3 5 [6] 0 (Instr.xfree p (Reg.s 16))).cur Cause.engineFault (BitVec.setWidth 64 ((tried z3 5 [6] 0 (Instr.xfree p (Reg.s 16))).xidOf (Reg.s 16)))).setVerdict (Verdict.trapped Cause.engineFault (BitVec.setWidth 64 ((tried z3 5 [6] 0 (Instr.xfree p (Reg.s 16))).xidOf (Reg.s 16))))) ∧
    (((tried z3 5 [6] 0 (Instr.xfree p (Reg.s 16))).takeTrap (tried z3 5 [6] 0 (Instr.xfree p (Reg.s 16))).cur Cause.engineFault (BitVec.setWidth 64 ((tried z3 5 [6] 0 (Instr.xfree p (Reg.s 16))).xidOf (Reg.s 16)))).setVerdict (Verdict.trapped Cause.engineFault (BitVec.setWidth 64 ((tried z3 5 [6] 0 (Instr.xfree p (Reg.s 16))).xidOf (Reg.s 16))))).t.iss.verdict = Verdict.trapped Cause.engineFault (BitVec.setWidth 64 ((tried z3 5 [6] 0 (Instr.xfree p (Reg.s 16))).xidOf (Reg.s 16))) ∧
    Cause.engineFault ≠ Cause.swTrap :=
  ⟨by simp -failIfUnchanged only [TurnOf, ↓cons_all] <;> decide +kernel,
   by simp -failIfUnchanged only [NotAborted, ↓opt_all, ↓opt_all2] <;> decide +kernel, by constructor <;> decide +kernel,
   by apply fetches_of <;> decide +kernel, by decide +kernel, rfl, by decide +kernel, by decide +kernel⟩

theorem met_StepRunsDecoded_2122 :
    TurnOf z4 5 [6] ∧ NotAborted z4 5 ∧ Quiet (z4.tile 5) z4.now ∧
    Fetches (z4.tile 5) 5 0 (headWord 18) 1 Opc.fence (Instr.fenceMoon p) ∧
    (z4.tile 5).thr.base + 1 + (Tail.ofNat 1).pdist ≤ z4.now ∧
    exec (Instr.fenceMoon p) (tried z4 5 [6] 0 (Instr.fenceMoon p)) = Host.Outcome.next ((tried z4 5 [6] 0 (Instr.fenceMoon p)).stalled 0) ∧
    ((tried z4 5 [6] 0 (Instr.fenceMoon p)).stalled 0).t.iss.verdict = Verdict.waits 0 ∧ tbarGm (Instr.fenceMoon p) = none :=
  ⟨by simp -failIfUnchanged only [TurnOf, ↓cons_all] <;> decide +kernel,
   by simp -failIfUnchanged only [NotAborted, ↓opt_all, ↓opt_all2] <;> decide +kernel, by constructor <;> decide +kernel,
   by apply fetches_of <;> decide +kernel, by decide +kernel, rfl, by decide +kernel, by decide +kernel⟩

theorem met_StepRunsDecoded_221 :
    TurnOf z5 5 [6] ∧ NotAborted z5 5 ∧ Quiet (z5.tile 5) z5.now ∧
    Fetches (z5.tile 5) 5 0 (headWord 32) (tailWord 385 386 387 0 0) Opc.add (Instr.add p (Reg.s 1) (Reg.s 2) (Opd.reg (Reg.s 3))) ∧
    z5.now < (z5.tile 5).thr.base + 1 + (Tail.ofNat (tailWord 385 386 387 0 0)).pdist :=
  ⟨by simp -failIfUnchanged only [TurnOf, ↓cons_all] <;> decide +kernel,
   by simp -failIfUnchanged only [NotAborted, ↓opt_all, ↓opt_all2] <;> decide +kernel, by constructor <;> decide +kernel,
   by apply fetches_of <;> decide +kernel, by decide +kernel⟩

theorem met_StepRunsDecoded_2221 :
    TurnOf z6 5 [6] ∧ (z6.tile 5).boundary z6.now = none ∧ (z6.tile 5).thr.st ≠ ThreadSt.running :=
  ⟨by simp -failIfUnchanged only [TurnOf, ↓cons_all] <;> decide +kernel, by decide +kernel, by decide +kernel⟩

theorem met_StepRunsDecoded_222221 :
    TurnOf z7 5 [6] ∧ (z7.tile 5).boundary z7.now = some Instr.deferredTrapTake :=
  ⟨by simp -failIfUnchanged only [TurnOf, ↓cons_all] <;> decide +kernel, by decide +kernel⟩

theorem met_StepRunsDecoded_222222 :
    z8.mgmt.trip = none ∧ (∀ (e : Timed) (r : List Timed), z8.agenda = e :: r → z8.now < e.due) ∧ z8.turn = [] :=
  ⟨by decide +kernel, by simp -failIfUnchanged only [↓cons_all] <;> decide +kernel, by decide +kernel⟩

theorem met_StepRunsDecoded_22221 : TurnOf zAb 5 [6] ∧ (zAb.tile 5).boundary zAb.now = none ∧ ¬ NotAborted zAb 5 :=
  ⟨by simp only [TurnOf, ↓cons_all] <;> decide +kernel, by decide +kernel,
    by simp only [NotAborted, ↓opt_all2] <;> decide +kernel⟩

theorem met_DecodeEncode :
    (Instr.add p (.s 1) (.s 2) (.reg (.s 3))).wf = true ∧
      ∃ h t, encode true (Instr.add p (.s 1) (.s 2) (.reg (.s 3))) = some (h, t) :=
  ⟨by decide +kernel, _, _, rfl⟩

theorem met_StepsKeepMemories : memWf State.reset = true ∧ ∃ t, step State.reset = .next t := ⟨by decide +kernel, _, rfl⟩

end Runs

end Sys2Proof.Tests
end

