-- ==== Sys2Proof/Tests/MetSupervisor.lean ====
section
/-!
SUPPORT. States that meet the hypotheses of the statements about supervisors, pre-emption and management: `met_<Obligation>_<path>` meets those of the
clause at that place of the statement (1: the left side of a conjunction, 2: the right side).
-/

set_option linter.unusedVariables false
set_option linter.unusedSimpArgs false

namespace Sys2Proof.Tests

set_option Elab.async false

open Machine

namespace Control

def supS (t : Tile) (me : Tile := tile) : State := { st t with cur := 306, tiles := [(5, t), (306, me)] }

def wst (x : ThreadSt) : Tile := { tile with thr := { tile.thr with st := x }, csr := { tile.csr with gm := tile.csr.gm.set 2 0x5000A, epc := 64 } }
def gng : Gang := ⟨4, { Klr.of [] with spill := true }, 0, [5, 7], false, false,false, 900,[], []⟩

def inG (x : ThreadSt) : State := let t := { wst x with thr := { (wst x).thr with gang := some 4 } }; { supS t with tiles := [(5,t),(7,t),(306,tile)], sched := { Sched.reset with gangs := [gng], savepool := Vector.replicate 4 (0x80000000 + 2^20) } }
def sp : State := let s := supS { Tile.reset with spm := [(5,6)] }; { s with sched := { Sched.reset with spares := Sched.reset.spares.set 0 ⟨some (5, 3), none, [(5,1),(9,2)], [4]⟩ } }

def stt : State := let s := supS { wst .stopped with thr := { (wst .stopped).thr with gang := some 4 } } { tile with thr := Thread.reset }; { s with sched := { Sched.reset with gangs := [{ gng with ranks := [5] }], savepool := Vector.replicate 4 (0x80000000 + 2^20), spares := Sched.reset.spares.set 0 ⟨some (5, 3), none, [(5,1),(9,2)], [4]⟩ } }
def mg : Gang := { gng with ranks := [5] }

def mv (late : Bool) (jobs : List Job) (saves : List Saved) : State := { st { wst .stopped with thr := { (wst .stopped).thr with gang := some 4, saveSlot := some 2, preempt := .halted } } with jobs := jobs, sched := { Sched.reset with gangs := [mg], saves := saves, savepool := Vector.replicate 4 (0x80000000 + 2^20), spares := Sched.reset.spares.set 0 ⟨none, some (5, 3, late), [(5,1),(9,2)], [4]⟩ } }
def svd : Saved := ⟨0, 2, 5, (mv false [] []).t⟩

def prg : List Byte := [1,2,3]
def mvi : List Byte := [7]

def mvj (late : Bool) : State := mv late [⟨5,3,5,.saveImageWrite,0,[⟨0,16,0x120,0,true,some 0⟩],[],false⟩, ⟨5,4,5,.saveImageWrite,1,[⟨0,16,0x120,0,true,some 0⟩],[prg],false⟩, ⟨5,5,5,.saveImageWrite,2,[⟨0,16,0x120,0,true,some 0⟩],[mvi],false⟩] [svd]

theorem tile_all {P : Nat → Tile → Prop} (s : State) (h0 : ∀ k, P k Tile.reset) (h : ∀ x ∈ s.tiles, P x.1 x.2) (k : Nat) :
    P k (s.tile k) := by
  rw [State.tile]
  generalize s.tiles = l at h ⊢
  induction l with
  | nil => exact h0 k
  | cons a r ih =>
    obtain ⟨x, v⟩ := a
    rw [Assoc.find]
    split
    · next hk => exact hk ▸ h _ (List.mem_cons_self ..)
    · split
      · exact h0 k
      · exact ih fun y hy => h y (List.mem_cons_of_mem _ hy)

theorem alone_of (s : State) (h7 : ∀ x ∈ s.tiles, x.1 ≠ keyOf 5 → dieOf x.1 = dieOf (keyOf 5) → x.2.thr.st = .none ∨
      x.2.thr.domain ≠ (s.tile (keyOf 5)).thr.domain) : ∀ k, k ≠ keyOf 5 → dieOf k = dieOf (keyOf 5) → (s.tile k).thr.st = .none ∨
    (s.tile k).thr.domain ≠ (s.tile (keyOf 5)).thr.domain :=
  tile_all (P := fun k t => k ≠ keyOf 5 → dieOf k = dieOf (keyOf 5) → t.thr.st = .none ∨
      t.thr.domain ≠ (s.tile (keyOf 5)).thr.domain) s (fun _ _ _ => .inl rfl) h7

theorem spare_fits (s : State) (h1 : isCompute (keyOf 5) = true) (h2 : s.sched.spares[dieOf (keyOf 5)].armed = some (5, BitVec.ofNat 4 3))
    (h4 : ∀ u ∈ s.sched.spares[dieOf (keyOf 5)].used, u.2 ≠ 3) (h5 : 3 ∉ s.sched.spares[dieOf (keyOf 5)].bad)
    (h6 : ∀ x ∈ s.tiles, ∀ i : Fin 64, x.2.msg.chan[i].v = false)
    (h7 : (s.tile (keyOf 5)).thr.st = .none ∨ ∀ k, k ≠ keyOf 5 → dieOf k = dieOf (keyOf 5) → (s.tile k).thr.st = .none ∨
      (s.tile k).thr.domain ≠ (s.tile (keyOf 5)).thr.domain) (h8 : (s.tile (keyOf 5)).thr.preempt = .none) : SpareFits s 5 3 := by
  have hv : ∀ k, ∀ i : Fin 64, (s.tile k).msg.chan[i].v = false :=
    tile_all (P := fun _ t => ∀ i : Fin 64, t.msg.chan[i].v = false) s (fun _ i => by revert i; decide +kernel) h6
  refine ⟨h1, h2, by decide, h4, h5, hv _, fun k _ _ i hi => ?_, h7, h8⟩
  · rw [hv k i] at hi
    cases hi

def z1 : State := (supS tile)
def z2 : State := (supS (wst .running))

def z3 : State := (supS (wst .none))
def z4 : State := (let s := supS (wst .stopped); { s with rep := s.rep.set 0 { s.rep[0] with waiting := [⟨5, 3, false, false, 64, 9, 10⟩] } })

def z5 : State := (supS (wst .stopped))
def z6 : State := { inG .running with sched := { Sched.reset with gangs := [{ gng with klr := { gng.klr with spill := false } }] } }

def z7 : State := (inG .running)
def z8 : State := (supS tile (withS [0,7,8] tile))

def z9 : State := (st { tile with spec := some spec0 })

theorem met_SupervisorCommands_1 :
    (¬OwnDie z1 1029) :=
  by simp -failIfUnchanged only [OwnDie] <;> decide +kernel

theorem met_SupervisorCommands_211 :
    OwnDie z2 5 ∧ (∀ (v : Saved), v ∈ z2.sched.saves → v.rank ≠ 5) :=
  ⟨by simp -failIfUnchanged only [OwnDie] <;> decide +kernel, by decide +kernel⟩

theorem met_SupervisorCommands_2121 :
    OwnDie z3 5 ∧ (∀ (v : Saved), v ∈ z3.sched.saves → v.rank ≠ 5) ∧ (z3.tile (keyOf 5)).thr.st = ThreadSt.none :=
  ⟨by simp -failIfUnchanged only [OwnDie] <;> decide +kernel, by decide +kernel, by decide +kernel⟩

theorem met_SupervisorCommands_21221 :
    OwnDie z2 5 ∧ (∀ (v : Saved), v ∈ z2.sched.saves → v.rank ≠ 5) ∧ (z2.tile (keyOf 5)).thr.st = ThreadSt.running ∧
    (z2.tile (keyOf 5)).thr.preempt = Preempt.none ∧ (¬TrapWaits z2 5) :=
  ⟨by simp -failIfUnchanged only [OwnDie] <;> decide +kernel, by decide +kernel, by decide +kernel, by decide +kernel,
   by simp -failIfUnchanged only [TrapWaits, ↓list_ex_bv] <;> decide +kernel⟩

theorem met_SupervisorCommands_212221 :
    OwnDie z4 5 ∧ (∀ (v : Saved), v ∈ z4.sched.saves → v.rank ≠ 5) ∧
    ((z4.tile (keyOf 5)).thr.st = ThreadSt.running ∨ (z4.tile (keyOf 5)).thr.st = ThreadSt.stopped) ∧
    ((z4.tile (keyOf 5)).thr.preempt ≠ Preempt.none ∨ TrapWaits z4 5) :=
  ⟨by simp -failIfUnchanged only [OwnDie] <;> decide +kernel, by decide +kernel, by decide +kernel,
   by simp -failIfUnchanged only [TrapWaits, ↓list_ex_bv] <;> decide +kernel⟩

theorem met_SupervisorCommands_2122221 :
    OwnDie z2 5 ∧ (∀ (v : Saved), v ∈ z2.sched.saves → v.rank ≠ 5) ∧
    ((z2.tile (keyOf 5)).thr.st = ThreadSt.running ∨ (z2.tile (keyOf 5)).thr.st = ThreadSt.stopped ∨ (z2.tile (keyOf 5)).thr.st = ThreadSt.halted) :=
  ⟨by simp -failIfUnchanged only [OwnDie] <;> decide +kernel, by decide +kernel, by decide +kernel⟩

theorem met_SupervisorCommands_212222211 :
    OwnDie z5 5 ∧ (∀ (v : Saved), v ∈ z5.sched.saves → v.rank ≠ 5) ∧ (z5.tile (keyOf 5)).thr.st = ThreadSt.stopped ∧
    (z5.tile (keyOf 5)).thr.preempt = Preempt.none ∧ (¬TrapWaits z5 5) :=
  ⟨by simp -failIfUnchanged only [OwnDie] <;> decide +kernel, by decide +kernel, by decide +kernel, by decide +kernel,
   by simp -failIfUnchanged only [TrapWaits, ↓list_ex_bv] <;> decide +kernel⟩

theorem met_SupervisorCommands_2122222121 :
    OwnDie z5 5 ∧ (∀ (v : Saved), v ∈ z5.sched.saves → v.rank ≠ 5) ∧ (z5.tile (keyOf 5)).thr.st = ThreadSt.stopped ∧
    (z5.tile (keyOf 5)).thr.preempt = Preempt.none ∧ (¬TrapWaits z5 5) :=
  ⟨by simp -failIfUnchanged only [OwnDie] <;> decide +kernel, by decide +kernel, by decide +kernel, by decide +kernel,
   by simp -failIfUnchanged only [TrapWaits, ↓list_ex_bv] <;> decide +kernel⟩

theorem met_SupervisorCommands_21222221221 :
    OwnDie z5 5 ∧ (∀ (v : Saved), v ∈ z5.sched.saves → v.rank ≠ 5) ∧ (z5.tile (keyOf 5)).thr.st = ThreadSt.stopped ∧
    (z5.tile (keyOf 5)).thr.preempt = Preempt.none ∧ (¬TrapWaits z5 5) ∧ (z5.tile (keyOf 5)).spec = none :=
  ⟨by simp -failIfUnchanged only [OwnDie] <;> decide +kernel, by decide +kernel, by decide +kernel, by decide +kernel,
   by simp -failIfUnchanged only [TrapWaits, ↓list_ex_bv] <;> decide +kernel, by decide +kernel⟩

theorem met_SupervisorCommands_212222212221 :
    OwnDie z5 5 ∧ (∀ (v : Saved), v ∈ z5.sched.saves → v.rank ≠ 5) ∧ (z5.tile (keyOf 5)).thr.st = ThreadSt.stopped ∧
    (z5.tile (keyOf 5)).thr.preempt = Preempt.none ∧ (¬TrapWaits z5 5) ∧ BitVec.ofNat 12 0 ≠ 16 ∧ BitVec.ofNat 12 0 ≠ 17 ∧
    BitVec.ofNat 12 0 ≠ 18 :=
  ⟨by simp -failIfUnchanged only [OwnDie] <;> decide +kernel, by decide +kernel, by decide +kernel, by decide +kernel,
   by simp -failIfUnchanged only [TrapWaits, ↓list_ex_bv] <;> decide +kernel, by decide +kernel, by decide +kernel,
   by decide +kernel⟩

theorem met_SupervisorCommands_212222212222 :
    OwnDie z5 5 ∧ (∀ (v : Saved), v ∈ z5.sched.saves → v.rank ≠ 5) ∧ (z5.tile (keyOf 5)).thr.st = ThreadSt.stopped ∧
    (z5.tile (keyOf 5)).thr.preempt = Preempt.none ∧ (¬TrapWaits z5 5) ∧ (z5.tile (keyOf 5)).spec = none ∧
    (z5.tile (keyOf 5)).csr.cause.toNat % 256 ≠ 12 ∧
    (z5.tile (keyOf 5)).targetOk (BitVec.toNat (z5.tile (keyOf 5)).csr.epc) = true :=
  ⟨by simp -failIfUnchanged only [OwnDie] <;> decide +kernel, by decide +kernel, by decide +kernel, by decide +kernel,
   by simp -failIfUnchanged only [TrapWaits, ↓list_ex_bv] <;> decide +kernel, by decide +kernel, by decide +kernel,
   by decide +kernel⟩

theorem met_SupervisorCommands_2122222211 :
    OwnDie z2 5 ∧ (∀ (v : Saved), v ∈ z2.sched.saves → v.rank ≠ 5) ∧
    ((z2.tile (keyOf 5)).thr.st = ThreadSt.running ∨ (z2.tile (keyOf 5)).thr.st = ThreadSt.stopped) ∧
    BitVec.getLsbD (z2.tile (keyOf 5)).csr.gm[(0 : Fin 8)] 16 = false :=
  ⟨by simp -failIfUnchanged only [OwnDie] <;> decide +kernel, by decide +kernel, by decide +kernel, by decide +kernel⟩

theorem met_SupervisorCommands_21222222211 :
    OwnDie z6 5 ∧ (∀ (v : Saved), v ∈ z6.sched.saves → v.rank ≠ 5) ∧
    ((z6.tile (keyOf 5)).thr.st = ThreadSt.running ∨ (z6.tile (keyOf 5)).thr.st = ThreadSt.stopped) ∧
    ∃ (h1 : W32), (z6.tile (keyOf 5)).thr.gang = some h1 ∧ ∃ (g : Gang), z6.gang h1 = some g ∧ z6.canPreempt g = false :=
  ⟨by simp -failIfUnchanged only [OwnDie] <;> decide +kernel, by decide +kernel, by decide +kernel,
   by simp -failIfUnchanged only [↓opt_ex, ↓opt_is] <;> decide +kernel⟩

theorem met_SupervisorCommands_21222222212 :
    OwnDie z7 5 ∧ (∀ (v : Saved), v ∈ z7.sched.saves → v.rank ≠ 5) ∧
    ((z7.tile (keyOf 5)).thr.st = ThreadSt.running ∨ (z7.tile (keyOf 5)).thr.st = ThreadSt.stopped) ∧
    ∃ (h1 : W32), (z7.tile (keyOf 5)).thr.gang = some h1 ∧ ∃ (g : Gang), z7.gang h1 = some g ∧ z7.canPreempt g = true :=
  ⟨by simp -failIfUnchanged only [OwnDie] <;> decide +kernel, by decide +kernel, by decide +kernel,
   by simp -failIfUnchanged only [↓opt_ex, ↓opt_is] <;> decide +kernel⟩

theorem met_SupervisorCommands_21222222221 :
    OwnDie z2 5 ∧ (∀ (v : Saved), v ∈ z2.sched.saves → v.rank ≠ 5) ∧
    z2.sched.spares[dieOf (keyOf 5)].armed ≠ some (5, BitVec.ofNat 4 0) :=
  ⟨by simp -failIfUnchanged only [OwnDie] <;> decide +kernel, by decide +kernel, by decide +kernel⟩

theorem met_SupervisorCommands_2221 :
    z8.t.isSpec = false ∧ (7 : Nat) ≤ BitVec.toNat (z8.rdS (Reg.s 2)) % 16 :=
  by decide +kernel

theorem met_SupervisorCommands_222211 :
    (mv false [] []).t.thr.saveSlot = some 2 ∧ (mv false [] []).t.thr.gang = some mg.handle ∧
    (mv false [] []).gang mg.handle = some mg ∧ keyOf ((mv false [] []).rankOf (mv false [] []).cur) = (mv false [] []).cur ∧
    (mv false [] []).sched.spares[dieOf (mv false [] []).cur].moving = some ((mv false [] []).rankOf (mv false [] []).cur, 3, false) ∧
    (mv false [] []).jobsOf (mv false [] []).cur Instr.saveImageWrite = [] ∧ (mv false [] []).t.spmBad = [] ∧
    (mv false [] []).t.awaited = [] ∧ (mv false [] []).drained = true :=
  by decide +kernel

theorem met_SupervisorCommands_222212 :
    (mvj false).t.thr.saveSlot = some 2 ∧ (mvj false).t.thr.gang = some mg.handle ∧ (mvj false).gang mg.handle = some mg ∧
    keyOf ((mvj false).rankOf (mvj false).cur) = (mvj false).cur ∧
    (mvj false).sched.spares[dieOf (mvj false).cur].moving = some ((mvj false).rankOf (mvj false).cur, 3, false) ∧
    IsFirst (mvj false).sched.saves (fun (v : Saved) => v.rank = (mvj false).rankOf (mvj false).cur ∧ v.tile.thr.gang = some mg.handle) svd ∧
    svd.die = dieOf (mvj false).cur ∧ svd.tile.thr.st ≠ ThreadSt.none ∧
    StepAnswered (mvj false) (mvj false).cur Instr.saveImageWrite ∧
    (∃ (j : Job), j ∈ (mvj false).jobs ∧ j.isOf (mvj false).cur Instr.saveImageWrite = true) ∧
    ReadAt (mvj false) (mvj false).cur Instr.saveImageWrite svd.rank 1 prg ∧
    ReadAt (mvj false) (mvj false).cur Instr.saveImageWrite svd.rank 2 mvi :=
  ⟨by decide +kernel, by decide +kernel, by decide +kernel, by decide +kernel, by decide +kernel,
   by simp -failIfUnchanged only [first_iff] <;> decide +kernel, by decide +kernel, by decide +kernel,
   by simp -failIfUnchanged only [StepAnswered, ↓list_all_bv, ↓list_all_bv2] <;> decide +kernel, by decide +kernel,
   by simp -failIfUnchanged only [ReadAt, first_iff, ↓first_ex, ↓first_is] <;> decide +kernel,
   by simp -failIfUnchanged only [ReadAt, first_iff, ↓first_ex, ↓first_is] <;> decide +kernel⟩

theorem met_SupervisorCommands_22222 :
    z9.t.isSpec = true :=
  by decide +kernel

theorem met_SupervisorCommands_212222222221 :
    OwnDie sp 5 ∧ (∀ v ∈ sp.sched.saves, v.rank ≠ 5) ∧ SpareFits sp 5 3 ∧ (sp.tile (keyOf 5)).thr.st = .none :=
  ⟨by simp only [OwnDie] <;> decide +kernel, by decide +kernel, by apply spare_fits (h7 := .inl rfl) <;> decide +kernel,
   by decide +kernel⟩

theorem met_SupervisorCommands_212222222222 :
    OwnDie stt 5 ∧ (∀ v ∈ stt.sched.saves, v.rank ≠ 5) ∧ SpareFits stt 5 3 ∧ (stt.tile (keyOf 5)).thr.st = .stopped ∧
      (∃ slot rest, stt.freeSaves (dieOf (keyOf 5)) = slot :: rest) ∧ stt.sched.spares[dieOf (keyOf 5)].moving = none :=
  ⟨by simp only [OwnDie] <;> decide +kernel, by decide +kernel, by apply spare_fits (h7 := .inr (alone_of _ (by decide +kernel))) <;> decide +kernel, by decide +kernel,
    ⟨_, _, rfl⟩, by decide +kernel⟩

end Control

namespace Commands

def supS (t : Tile) (me : Tile := tile) : State := { st t with cur := 306, tiles := [(5, t), (306, me)] }

def wst (x : ThreadSt) : Tile := { tile with thr := { tile.thr with st := x }, csr := { tile.csr with gm := tile.csr.gm.set 2 0x5000A, epc := 64 } }
def gng : Gang := ⟨4, { Klr.of [] with spill := true }, 0, [5, 7], false, false,false, 900,[], []⟩

def inG (x : ThreadSt) : State := let t := { wst x with thr := { (wst x).thr with gang := some 4 } }; { supS t with tiles := [(5,t),(7,t),(306,tile)], sched := { Sched.reset with gangs := [gng], savepool := Vector.replicate 4 (0x80000000 + 2^20) } }
def tc (w v : W64) (s : State) : State := { s with tiles := s.tiles.map fun k => if k.1 = 306 then (306, withS [5, w, v] tile) else k }

def z1 : State := (tc 0 5 (inG .running))

theorem met_SupervisorCommands_2122222212 :
    OwnDie (inG ThreadSt.running) 5 ∧ (∀ (v : Saved), v ∈ (inG ThreadSt.running).sched.saves → v.rank ≠ 5) ∧
    (((inG ThreadSt.running).tile (keyOf 5)).thr.st = ThreadSt.running ∨ ((inG ThreadSt.running).tile (keyOf 5)).thr.st = ThreadSt.stopped) ∧
    BitVec.getLsbD ((inG ThreadSt.running).tile (keyOf 5)).csr.gm[(2 : Fin 8)] 16 = true :=
  ⟨by simp -failIfUnchanged only [OwnDie] <;> decide +kernel, by decide +kernel, by decide +kernel, by decide +kernel⟩

theorem met_SupervisorCommands_221 :
    z1.t.isSpec = false ∧
    IsCommand (BitVec.setWidth 32 (z1.rdS (Reg.s 1))) (BitVec.toNat (z1.rdS (Reg.s 2))) (BitVec.toNat (z1.rdS (Reg.s 3))) (Instr.state 5) ∧
    exec (Instr.state 5) z1 = Host.Outcome.next (answered (z1.ctlState 5)) ∧
    (answered (z1.ctlState 5)).mgmt.readback = z1.mgmt.readback ++ [(z1.ctlState 5).snd] :=
  ⟨by decide +kernel, by simp -failIfUnchanged only [IsCommand] <;> decide +kernel, rfl, by decide +kernel⟩

end Commands

namespace Preempt

def g0 : Gang := ⟨4, { Klr.of [] with spill := false }, 0, [5, 7], false, true,false, 900,[], []⟩

def pT (x : Preempt) (k : Nat) : Tile := { tile with thr := { tile.thr with saveSlot := some k, preempt := x, gang := some 4 }, csr := { tile.csr with gm := tile.csr.gm.set 1 0x1000A } , imem := Mem.write [] 64 (line1 0xE000 0)}
def pS (x y : Preempt) : State := { st (pT x 2) with tiles := [(5, pT x 2), (7, pT y 3)], sched := { Sched.reset with gangs := [g0], savepool := Vector.replicate 4 (0x80000000 + 2^20) } }

def pJ (x y : Preempt) (c : Option Byte) (g := g0) : State := { pS x y with jobs := [⟨5,3,5,.saveImageWrite,0,[⟨0,16,0x120,0,true,some 0⟩,⟨16,16,0x120,16,true,c⟩],[],false⟩], sched := { (pS x y).sched with gangs := [g] } }
def full : State := { pJ .halted .saved (some 7) with rep := State.reset.rep.set 0 ⟨List.replicate 1024 ⟨5, 3, false, false, 64, 9, 10⟩, [], []⟩ }

def rp : Report := ⟨5, 3, false, false, 64, 9, 10⟩
def rS (q w : List Report) : State := { st tile with cur := 1, rep := State.reset.rep.set 1 ⟨q, w, []⟩ }

def z1 : State := (pS .none .none)
def z2 : State := (pS .requested .none)

def z3 : State := { (pS .requested .none) with tiles := [(5, { pT .requested 2 with regs := { tile.regs with flight := [⟨1003,.s 5,77,0,0,false⟩] } })] }
def z4 : State := (rS [rp, rp] [])

def z5 : State := (rS [] [])
def z6 : State := (rS [rp] [rp])

def z7 : State := (rS (List.replicate 1024 rp) [rp])

theorem met_PreemptionAndReports_11 :
    z1.t.thr.saveSlot = some 2 ∧ z1.t.thr.preempt = Preempt.none ∧ AtBoundary z1 ∧ z1.t.mat.arr = [] ∧ z1.t.mat.wgt = [] :=
  ⟨by decide +kernel, by decide +kernel, by simp -failIfUnchanged only [AtBoundary, ↓ok_is, ok_iff] <;> decide +kernel,
   by decide +kernel, by decide +kernel⟩

theorem met_PreemptionAndReports_121 :
    z2.t.thr.saveSlot = some 2 ∧ z2.t.thr.preempt = Preempt.requested ∧ z2.drained = true :=
  by decide +kernel

theorem met_PreemptionAndReports_122 :
    z3.t.thr.saveSlot = some 2 ∧ z3.t.thr.preempt = Preempt.requested ∧ z3.drained = false :=
  by decide +kernel

theorem met_PreemptionAndReports_211 :
    (pS Preempt.halted Preempt.halted).t.thr.saveSlot = some 2 ∧ (pS Preempt.halted Preempt.halted).t.thr.gang = some 4 ∧
    (pS Preempt.halted Preempt.halted).gang 4 = some g0 ∧
    (∀ (m : Rank × Nat × Bool), m ∈ (pS Preempt.halted Preempt.halted).sched.spares[dieOf (pS Preempt.halted Preempt.halted).cur].moving → m.fst ≠ (pS Preempt.halted Preempt.halted).rankOf (pS Preempt.halted Preempt.halted).cur) ∧
    (pS Preempt.halted Preempt.halted).jobsOf (pS Preempt.halted Preempt.halted).cur Instr.saveImageWrite = [] ∧
    (pS Preempt.halted Preempt.halted).t.awaited = [] ∧ (pS Preempt.halted Preempt.halted).drained = true ∧
    (g0.klr.tdom = true → ∀ (r : Rank), r ∈ g0.ranks → ((pS Preempt.halted Preempt.halted).tile (keyOf r)).thr.preempt = Preempt.halted ∨ ((pS Preempt.halted Preempt.halted).tile (keyOf r)).thr.preempt = Preempt.saved) :=
  ⟨by decide +kernel, by decide +kernel, by decide +kernel, by decide +kernel, by decide +kernel, by decide +kernel,
   by decide +kernel, by simp -failIfUnchanged only [↓list_all_bv, ↓list_all_bv2] <;> decide +kernel⟩

theorem met_PreemptionAndReports_2121 :
    (let __src := pS Preempt.halted Preempt.halted; { now := __src.now, wclk := __src.wclk, delays := __src.delays, freeCtr := __src.freeCtr, agenda := __src.agenda, turn := __src.turn, cur := __src.cur, tiles := [(5, let __src := pT Preempt.halted 2; { thr := __src.thr, regs := let __src := tile.regs; { v := __src.v, s := __src.s, shadow := __src.shadow, m := __src.m, q0 := __src.q0, q1 := __src.q1, popped := __src.popped, loads := __src.loads, flight := [{ due := 1003, dst := Dest.s 5, val := (77 : W512), keep := (0 : W512), tag := 0, spec := false : RegWrite }] : Regs }, csr := __src.csr, loops := __src.loops, spec := __src.spec, imem := __src.imem, imemBad := __src.imemBad, spm := __src.spm, spmBad := __src.spmBad, bad := __src.bad, swap := __src.swap, cpl := __src.cpl, copy := __src.copy, msg := __src.msg, mat := __src.mat, iss := __src.iss, frozen := __src.frozen : Tile }), (7, pT Preempt.halted 3)], moons := __src.moons, hbm := __src.hbm, hbmBad := __src.hbmBad, far := __src.far, farBad := __src.farBad, jobs := __src.jobs, nextJob := __src.nextJob, ert := __src.ert, net := __src.net, red := __src.red, sched := __src.sched, disp := __src.disp, rep := __src.rep, host := __src.host, mgmt := __src.mgmt, frozen := __src.frozen, inputs := __src.inputs : State }).t.thr.saveSlot = some 2 ∧
    (let __src := pS Preempt.halted Preempt.halted; { now := __src.now, wclk := __src.wclk, delays := __src.delays, freeCtr := __src.freeCtr, agenda := __src.agenda, turn := __src.turn, cur := __src.cur, tiles := [(5, let __src := pT Preempt.halted 2; { thr := __src.thr, regs := let __src := tile.regs; { v := __src.v, s := __src.s, shadow := __src.shadow, m := __src.m, q0 := __src.q0, q1 := __src.q1, popped := __src.popped, loads := __src.loads, flight := [{ due := 1003, dst := Dest.s 5, val := (77 : W512), keep := (0 : W512), tag := 0, spec := false : RegWrite }] : Regs }, csr := __src.csr, loops := __src.loops, spec := __src.spec, imem := __src.imem, imemBad := __src.imemBad, spm := __src.spm, spmBad := __src.spmBad, bad := __src.bad, swap := __src.swap, cpl := __src.cpl, copy := __src.copy, msg := __src.msg, mat := __src.mat, iss := __src.iss, frozen := __src.frozen : Tile }), (7, pT Preempt.halted 3)], moons := __src.moons, hbm := __src.hbm, hbmBad := __src.hbmBad, far := __src.far, farBad := __src.farBad, jobs := __src.jobs, nextJob := __src.nextJob, ert := __src.ert, net := __src.net, red := __src.red, sched := __src.sched, disp := __src.disp, rep := __src.rep, host := __src.host, mgmt := __src.mgmt, frozen := __src.frozen, inputs := __src.inputs : State }).t.thr.gang = some 4 ∧
    (let __src := pS Preempt.halted Preempt.halted; { now := __src.now, wclk := __src.wclk, delays := __src.delays, freeCtr := __src.freeCtr, agenda := __src.agenda, turn := __src.turn, cur := __src.cur, tiles := [(5, let __src := pT Preempt.halted 2; { thr := __src.thr, regs := let __src := tile.regs; { v := __src.v, s := __src.s, shadow := __src.shadow, m := __src.m, q0 := __src.q0, q1 := __src.q1, popped := __src.popped, loads := __src.loads, flight := [{ due := 1003, dst := Dest.s 5, val := (77 : W512), keep := (0 : W512), tag := 0, spec := false : RegWrite }] : Regs }, csr := __src.csr, loops := __src.loops, spec := __src.spec, imem := __src.imem, imemBad := __src.imemBad, spm := __src.spm, spmBad := __src.spmBad, bad := __src.bad, swap := __src.swap, cpl := __src.cpl, copy := __src.copy, msg := __src.msg, mat := __src.mat, iss := __src.iss, frozen := __src.frozen : Tile }), (7, pT Preempt.halted 3)], moons := __src.moons, hbm := __src.hbm, hbmBad := __src.hbmBad, far := __src.far, farBad := __src.farBad, jobs := __src.jobs, nextJob := __src.nextJob, ert := __src.ert, net := __src.net, red := __src.red, sched := __src.sched, disp := __src.disp, rep := __src.rep, host := __src.host, mgmt := __src.mgmt, frozen := __src.frozen, inputs := __src.inputs : State }).gang 4 = some g0 ∧
    (∀ (m : Rank × Nat × Bool), m ∈ (let __src := pS Preempt.halted Preempt.halted; { now := __src.now, wclk := __src.wclk, delays := __src.delays, freeCtr := __src.freeCtr, agenda := __src.agenda, turn := __src.turn, cur := __src.cur, tiles := [(5, let __src := pT Preempt.halted 2; { thr := __src.thr, regs := let __src := tile.regs; { v := __src.v, s := __src.s, shadow := __src.shadow, m := __src.m, q0 := __src.q0, q1 := __src.q1, popped := __src.popped, loads := __src.loads, flight := [{ due := 1003, dst := Dest.s 5, val := (77 : W512), keep := (0 : W512), tag := 0, spec := false : RegWrite }] : Regs }, csr := __src.csr, loops := __src.loops, spec := __src.spec, imem := __src.imem, imemBad := __src.imemBad, spm := __src.spm, spmBad := __src.spmBad, bad := __src.bad, swap := __src.swap, cpl := __src.cpl, copy := __src.copy, msg := __src.msg, mat := __src.mat, iss := __src.iss, frozen := __src.frozen : Tile }), (7, pT Preempt.halted 3)], moons := __src.moons, hbm := __src.hbm, hbmBad := __src.hbmBad, far := __src.far, farBad := __src.farBad, jobs := __src.jobs, nextJob := __src.nextJob, ert := __src.ert, net := __src.net, red := __src.red, sched := __src.sched, disp := __src.disp, rep := __src.rep, host := __src.host, mgmt := __src.mgmt, frozen := __src.frozen, inputs := __src.inputs : State }).sched.spares[dieOf (let __src := pS Preempt.halted Preempt.halted; { now := __src.now, wclk := __src.wclk, delays := __src.delays, freeCtr := __src.freeCtr, agenda := __src.agenda, turn := __src.turn, cur := __src.cur, tiles := [(5, let __src := pT Preempt.halted 2; { thr := __src.thr, regs := let __src := tile.regs; { v := __src.v, s := __src.s, shadow := __src.shadow, m := __src.m, q0 := __src.q0, q1 := __src.q1, popped := __src.popped, loads := __src.loads, flight := [{ due := 1003, dst := Dest.s 5, val := (77 : W512), keep := (0 : W512), tag := 0, spec := false : RegWrite }] : Regs }, csr := __src.csr, loops := __src.loops, spec := __src.spec, imem := __src.imem, imemBad := __src.imemBad, spm := __src.spm, spmBad := __src.spmBad, bad := __src.bad, swap := __src.swap, cpl := __src.cpl, copy := __src.copy, msg := __src.msg, mat := __src.mat, iss := __src.iss, frozen := __src.frozen : Tile }), (7, pT Preempt.halted 3)], moons := __src.moons, hbm := __src.hbm, hbmBad := __src.hbmBad, far := __src.far, farBad := __src.farBad, jobs := __src.jobs, nextJob := __src.nextJob, ert := __src.ert, net := __src.net, red := __src.red, sched := __src.sched, disp := __src.disp, rep := __src.rep, host := __src.host, mgmt := __src.mgmt, frozen := __src.frozen, inputs := __src.inputs : State }).cur].moving → m.fst ≠ (let __src := pS Preempt.halted Preempt.halted; { now := __src.now, wclk := __src.wclk, delays := __src.delays, freeCtr := __src.freeCtr, agenda := __src.agenda, turn := __src.turn, cur := __src.cur, tiles := [(5, let __src := pT Preempt.halted 2; { thr := __src.thr, regs := let __src := tile.regs; { v := __src.v, s := __src.s, shadow := __src.shadow, m := __src.m, q0 := __src.q0, q1 := __src.q1, popped := __src.popped, loads := __src.loads, flight := [{ due := 1003, dst := Dest.s 5, val := (77 : W512), keep := (0 : W512), tag := 0, spec := false : RegWrite }] : Regs }, csr := __src.csr, loops := __src.loops, spec := __src.spec, imem := __src.imem, imemBad := __src.imemBad, spm := __src.spm, spmBad := __src.spmBad, bad := __src.bad, swap := __src.swap, cpl := __src.cpl, copy := __src.copy, msg := __src.msg, mat := __src.mat, iss := __src.iss, frozen := __src.frozen : Tile }), (7, pT Preempt.halted 3)], moons := __src.moons, hbm := __src.hbm, hbmBad := __src.hbmBad, far := __src.far, farBad := __src.farBad, jobs := __src.jobs, nextJob := __src.nextJob, ert := __src.ert, net := __src.net, red := __src.red, sched := __src.sched, disp := __src.disp, rep := __src.rep, host := __src.host, mgmt := __src.mgmt, frozen := __src.frozen, inputs := __src.inputs : State }).rankOf (let __src := pS Preempt.halted Preempt.halted; { now := __src.now, wclk := __src.wclk, delays := __src.delays, freeCtr := __src.freeCtr, agenda := __src.agenda, turn := __src.turn, cur := __src.cur, tiles := [(5, let __src := pT Preempt.halted 2; { thr := __src.thr, regs := let __src := tile.regs; { v := __src.v, s := __src.s, shadow := __src.shadow, m := __src.m, q0 := __src.q0, q1 := __src.q1, popped := __src.popped, loads := __src.loads, flight := [{ due := 1003, dst := Dest.s 5, val := (77 : W512), keep := (0 : W512), tag := 0, spec := false : RegWrite }] : Regs }, csr := __src.csr, loops := __src.loops, spec := __src.spec, imem := __src.imem, imemBad := __src.imemBad, spm := __src.spm, spmBad := __src.spmBad, bad := __src.bad, swap := __src.swap, cpl := __src.cpl, copy := __src.copy, msg := __src.msg, mat := __src.mat, iss := __src.iss, frozen := __src.frozen : Tile }), (7, pT Preempt.halted 3)], moons := __src.moons, hbm := __src.hbm, hbmBad := __src.hbmBad, far := __src.far, farBad := __src.farBad, jobs := __src.jobs, nextJob := __src.nextJob, ert := __src.ert, net := __src.net, red := __src.red, sched := __src.sched, disp := __src.disp, rep := __src.rep, host := __src.host, mgmt := __src.mgmt, frozen := __src.frozen, inputs := __src.inputs : State }).cur) ∧
    (let __src := pS Preempt.halted Preempt.halted; { now := __src.now, wclk := __src.wclk, delays := __src.delays, freeCtr := __src.freeCtr, agenda := __src.agenda, turn := __src.turn, cur := __src.cur, tiles := [(5, let __src := pT Preempt.halted 2; { thr := __src.thr, regs := let __src := tile.regs; { v := __src.v, s := __src.s, shadow := __src.shadow, m := __src.m, q0 := __src.q0, q1 := __src.q1, popped := __src.popped, loads := __src.loads, flight := [{ due := 1003, dst := Dest.s 5, val := (77 : W512), keep := (0 : W512), tag := 0, spec := false : RegWrite }] : Regs }, csr := __src.csr, loops := __src.loops, spec := __src.spec, imem := __src.imem, imemBad := __src.imemBad, spm := __src.spm, spmBad := __src.spmBad, bad := __src.bad, swap := __src.swap, cpl := __src.cpl, copy := __src.copy, msg := __src.msg, mat := __src.mat, iss := __src.iss, frozen := __src.frozen : Tile }), (7, pT Preempt.halted 3)], moons := __src.moons, hbm := __src.hbm, hbmBad := __src.hbmBad, far := __src.far, farBad := __src.farBad, jobs := __src.jobs, nextJob := __src.nextJob, ert := __src.ert, net := __src.net, red := __src.red, sched := __src.sched, disp := __src.disp, rep := __src.rep, host := __src.host, mgmt := __src.mgmt, frozen := __src.frozen, inputs := __src.inputs : State }).jobsOf (let __src := pS Preempt.halted Preempt.halted; { now := __src.now, wclk := __src.wclk, delays := __src.delays, freeCtr := __src.freeCtr, agenda := __src.agenda, turn := __src.turn, cur := __src.cur, tiles := [(5, let __src := pT Preempt.halted 2; { thr := __src.thr, regs := let __src := tile.regs; { v := __src.v, s := __src.s, shadow := __src.shadow, m := __src.m, q0 := __src.q0, q1 := __src.q1, popped := __src.popped, loads := __src.loads, flight := [{ due := 1003, dst := Dest.s 5, val := (77 : W512), keep := (0 : W512), tag := 0, spec := false : RegWrite }] : Regs }, csr := __src.csr, loops := __src.loops, spec := __src.spec, imem := __src.imem, imemBad := __src.imemBad, spm := __src.spm, spmBad := __src.spmBad, bad := __src.bad, swap := __src.swap, cpl := __src.cpl, copy := __src.copy, msg := __src.msg, mat := __src.mat, iss := __src.iss, frozen := __src.frozen : Tile }), (7, pT Preempt.halted 3)], moons := __src.moons, hbm := __src.hbm, hbmBad := __src.hbmBad, far := __src.far, farBad := __src.farBad, jobs := __src.jobs, nextJob := __src.nextJob, ert := __src.ert, net := __src.net, red := __src.red, sched := __src.sched, disp := __src.disp, rep := __src.rep, host := __src.host, mgmt := __src.mgmt, frozen := __src.frozen, inputs := __src.inputs : State }).cur Instr.saveImageWrite = [] ∧
    ((let __src := pS Preempt.halted Preempt.halted; { now := __src.now, wclk := __src.wclk, delays := __src.delays, freeCtr := __src.freeCtr, agenda := __src.agenda, turn := __src.turn, cur := __src.cur, tiles := [(5, let __src := pT Preempt.halted 2; { thr := __src.thr, regs := let __src := tile.regs; { v := __src.v, s := __src.s, shadow := __src.shadow, m := __src.m, q0 := __src.q0, q1 := __src.q1, popped := __src.popped, loads := __src.loads, flight := [{ due := 1003, dst := Dest.s 5, val := (77 : W512), keep := (0 : W512), tag := 0, spec := false : RegWrite }] : Regs }, csr := __src.csr, loops := __src.loops, spec := __src.spec, imem := __src.imem, imemBad := __src.imemBad, spm := __src.spm, spmBad := __src.spmBad, bad := __src.bad, swap := __src.swap, cpl := __src.cpl, copy := __src.copy, msg := __src.msg, mat := __src.mat, iss := __src.iss, frozen := __src.frozen : Tile }), (7, pT Preempt.halted 3)], moons := __src.moons, hbm := __src.hbm, hbmBad := __src.hbmBad, far := __src.far, farBad := __src.farBad, jobs := __src.jobs, nextJob := __src.nextJob, ert := __src.ert, net := __src.net, red := __src.red, sched := __src.sched, disp := __src.disp, rep := __src.rep, host := __src.host, mgmt := __src.mgmt, frozen := __src.frozen, inputs := __src.inputs : State }).t.awaited ≠ [] ∨ (let __src := pS Preempt.halted Preempt.halted; { now := __src.now, wclk := __src.wclk, delays := __src.delays, freeCtr := __src.freeCtr, agenda := __src.agenda, turn := __src.turn, cur := __src.cur, tiles := [(5, let __src := pT Preempt.halted 2; { thr := __src.thr, regs := let __src := tile.regs; { v := __src.v, s := __src.s, shadow := __src.shadow, m := __src.m, q0 := __src.q0, q1 := __src.q1, popped := __src.popped, loads := __src.loads, flight := [{ due := 1003, dst := Dest.s 5, val := (77 : W512), keep := (0 : W512), tag := 0, spec := false : RegWrite }] : Regs }, csr := __src.csr, loops := __src.loops, spec := __src.spec, imem := __src.imem, imemBad := __src.imemBad, spm := __src.spm, spmBad := __src.spmBad, bad := __src.bad, swap := __src.swap, cpl := __src.cpl, copy := __src.copy, msg := __src.msg, mat := __src.mat, iss := __src.iss, frozen := __src.frozen : Tile }), (7, pT Preempt.halted 3)], moons := __src.moons, hbm := __src.hbm, hbmBad := __src.hbmBad, far := __src.far, farBad := __src.farBad, jobs := __src.jobs, nextJob := __src.nextJob, ert := __src.ert, net := __src.net, red := __src.red, sched := __src.sched, disp := __src.disp, rep := __src.rep, host := __src.host, mgmt := __src.mgmt, frozen := __src.frozen, inputs := __src.inputs : State }).drained = false) :=
  by decide +kernel

theorem met_PreemptionAndReports_21221 :
    full.t.thr.saveSlot = some 2 ∧ full.t.thr.gang = some 4 ∧ full.gang 4 = some g0 ∧
    (∀ (m : Rank × Nat × Bool), m ∈ full.sched.spares[dieOf full.cur].moving → m.fst ≠ full.rankOf full.cur) ∧
    full.jobsOf full.cur Instr.saveImageWrite ≠ [] ∧
    (∀ (j : Job), j ∈ full.jobsOf full.cur Instr.saveImageWrite → ∀ (p : Piece), p ∈ j.pieces → p.reply ≠ none) ∧
    full.reportRoom (dieOf full.cur) = false :=
  by decide +kernel

theorem met_PreemptionAndReports_21222 :
    (pJ Preempt.halted Preempt.halted (some 0)).t.thr.saveSlot = some 2 ∧
    (pJ Preempt.halted Preempt.halted (some 0)).t.thr.gang = some 4 ∧
    (pJ Preempt.halted Preempt.halted (some 0)).gang 4 = some g0 ∧
    (∀ (m : Rank × Nat × Bool), m ∈ (pJ Preempt.halted Preempt.halted (some 0)).sched.spares[dieOf (pJ Preempt.halted Preempt.halted (some 0)).cur].moving → m.fst ≠ (pJ Preempt.halted Preempt.halted (some 0)).rankOf (pJ Preempt.halted Preempt.halted (some 0)).cur) ∧
    (pJ Preempt.halted Preempt.halted (some 0)).jobsOf (pJ Preempt.halted Preempt.halted (some 0)).cur Instr.saveImageWrite ≠ [] ∧
    (∀ (j : Job), j ∈ (pJ Preempt.halted Preempt.halted (some 0)).jobsOf (pJ Preempt.halted Preempt.halted (some 0)).cur Instr.saveImageWrite → ∀ (p : Piece), p ∈ j.pieces → p.reply ≠ none) ∧
    (pJ Preempt.halted Preempt.halted (some 0)).reportRoom (dieOf (pJ Preempt.halted Preempt.halted (some 0)).cur) = true :=
  by decide +kernel

theorem met_PreemptionAndReports_221 :
    ∃ (r : Report) (w : List Report), z4.rep[(1 : Fin 4)].q = r :: w ∧ z4.rep[(1 : Fin 4)].waiting = [] :=
  by simp -failIfUnchanged only [↓cons_ex, ↓cons_is] <;> decide +kernel

theorem met_PreemptionAndReports_2221 :
    z5.rep[(1 : Fin 4)].q = [] :=
  by decide +kernel

theorem met_PreemptionAndReports_22221 :
    z6.cur = 1 ∧ ∃ (r : Report) (w : List Report), z6.rep[(1 : Fin 4)].waiting = r :: w ∧ z6.rep[(1 : Fin 4)].q.length < 1024 :=
  ⟨by decide +kernel, by simp -failIfUnchanged only [↓cons_ex, ↓cons_is] <;> decide +kernel⟩

theorem met_PreemptionAndReports_22222 :
    z7.cur = 1 ∧ (1024 : Nat) ≤ z7.rep[(1 : Fin 4)].q.length :=
  by decide +kernel

end Preempt

namespace Boot

def bi (f : BootInput → BootInput := id) : BootInput := f { primary := [1,2], backup := [3], badSpares := [(0, 2), (3, 7)], selfTest := none, setpkg := none, pkg := 0x77 }

def bs (v : Byte) : State := { st tile with mgmt := { Mgmt.reset with bootst := v.setWidth _ }, hbm := [(5, 5)], net := { Net.reset with port := Net.reset.port.set 4 { Port.reset with up := true } } }
def ms (b : Bool) : State := { bs 6 with moons := [(5, { Moon.reset with stopped := b })] }

def as (a : Bool) (l : Option (BitVec 384)) : State := { bs 6 with mgmt := { Mgmt.reset with algo := a, transcript := [4, 5], lastSigned := l, boot := some bi } }
def ps (w o : Nat) (ctl : W32) : State := { bs 6 with mgmt := { Mgmt.reset with overs := o, pwrctl := ctl, watts := w } }

def trp (l : List Timed) : State := { bs 6 with agenda := l, mgmt := { Mgmt.reset with trip := some .rail } }
def rw : State := { bs 6 with mgmt := { Mgmt.reset with bootst := 6 } }

def pr (e : Bool) : State := { rw with host := { rw.host with pair := rw.host.pair.set 3 { sub := 5, cpl := 6, lsize := 7, en := e, tail := 8, head := 9, cidx := 3, phase := true } } }
def badTest : BootInput := { bi with selfTest := some ⟨1, 7, 1, 0x123, 0x55⟩ }

theorem boots (b : BootInput) (h : Config.digestMatches b.primary = true) (h2 : Config.ecdsaVerifies b.primary = true)
    (h3 : Config.lmsVerifies b.primary = true) (h4 : Config.keyHashMatches b.primary = true)
    (h5 : Config.fusedVersion ≤ Config.securityVersion b.primary) : BootsFrom b b.primary :=
  .inl ⟨⟨⟨h, h2, h3⟩, h4, h5⟩, rfl⟩

def z1 : State := (ms false)
def z2 : State := (ms true)

def z3 : State := (as true (some 5))
def z4 : State := (as false none)

def z5 : State := (ps 0x12345 1023 0)
def z6 : State := (ps 0x12345 1024 0)

def z7 : State := (pr false)
def z8 : State := (pr true)

def z9 : State := { pr false with mgmt := { Mgmt.reset with bootst := 5 } }

theorem met_ManagementCommands_2122222221 :
    (z1.moon 5).stopped = false :=
  by decide +kernel

theorem met_ManagementCommands_2122222222 :
    (z2.moon 5).stopped = true :=
  by decide +kernel

theorem met_ManagementCommands_222222221 :
    z3.mgmt.algo = true :=
  by decide +kernel

theorem met_ManagementCommands_2222222221 :
    z4.mgmt.algo = false :=
  by decide +kernel

theorem met_ManagementCommands_22222222221 :
    ∃ (h1 : BitVec 384), z3.mgmt.lastSigned = some h1 :=
  by simp -failIfUnchanged only [↓opt_is] <;> decide +kernel

theorem met_ManagementCommands_22222222222 :
    z4.mgmt.lastSigned = none :=
  by decide +kernel

theorem met_PowerIsControlled_1211 :
    z5.mgmt.overs < 1024 :=
  by decide +kernel

theorem met_PowerIsControlled_1212 :
    (1024 : Nat) ≤ z6.mgmt.overs :=
  by decide +kernel

theorem met_PowerIsControlled_22221 :
    z7.mgmt.bootst = 6 ∧ z7.host.pair[(3 : Fin 64)].en = false :=
  by decide +kernel

theorem met_PowerIsControlled_222221 :
    (z8.mgmt.bootst ≠ 6 ∨ z8.host.pair[(3 : Fin 64)].en = true) :=
  by decide +kernel

theorem met_PowerIsControlled_2222221 :
    z9.mgmt.bootst ≠ 6 :=
  by decide +kernel

theorem met_PowerIsControlled_2222222 :
    z8.mgmt.bootst = 6 :=
  by decide +kernel

theorem met_ManagementCommands_11 (h : Config.digestMatches bi.primary = false) (h2 : Config.digestMatches bi.backup = false) :
    ¬ GoodImage bi.primary ∧ ImageReason bi.backup 1 ∧ ∀ f, bi.selfTest = some f → 3 ≤ f.stage.val :=
  ⟨fun g => Bool.false_ne_true (h.symm.trans g.1.1), .inl ⟨fun g => Bool.false_ne_true (h2.symm.trans g.1), rfl⟩,
   fun _ h => by cases h⟩

theorem met_ManagementCommands_121 :
    badTest.selfTest = some ⟨1, 7, 1, 0x123, 0x55⟩ ∧ (BootsFrom badTest [1, 2] ∨ (1 : Fin 7).val < 3) :=
  ⟨rfl, .inr (by decide)⟩

theorem met_ManagementCommands_1221 (h : Config.digestMatches [1, 2] = true) (h2 : Config.ecdsaVerifies [1, 2] = true)
    (h3 : Config.lmsVerifies [1, 2] = true) (h4 : Config.keyHashMatches [1, 2] = true)
    (h5 : Config.fusedVersion ≤ Config.securityVersion [1, 2]) :
    BootsFrom { bi with pkg := 0xFFFFF } [1, 2] ∧ bootId (bs 0) { bi with pkg := 0xFFFFF } = 0xFFFFF :=
  ⟨boots { bi with pkg := 0xFFFFF } h h2 h3 h4 h5, by decide +kernel⟩

theorem met_ManagementCommands_1222 (h : Config.digestMatches [1, 2] = true) (h2 : Config.ecdsaVerifies [1, 2] = true)
    (h3 : Config.lmsVerifies [1, 2] = true) (h4 : Config.keyHashMatches [1, 2] = true)
    (h5 : Config.fusedVersion ≤ Config.securityVersion [1, 2]) :
    BootsFrom bi [1, 2] ∧ bi.selfTest = none ∧ bootId (bs 0) bi ≠ 0xFFFFF :=
  ⟨boots bi h h2 h3 h4 h5, rfl, by decide +kernel⟩

theorem met_PowerIsControlled_122221 :
    (trp [⟨3, 5, .slotAllocateWaiting⟩]).mgmt.trip ≠ none ∧
      ∀ e ∈ (trp [⟨3, 5, .slotAllocateWaiting⟩]).agenda, ∀ b, e.ev ≠ .powerOn b :=
  ⟨by decide +kernel, by simp [trp]⟩

theorem met_PowerIsControlled_122222 :
    (trp [⟨3, 5, .slotAllocateWaiting⟩, ⟨7, 1022, .powerOn bi⟩]).mgmt.trip ≠ none ∧
      IsFirst (trp [⟨3, 5, .slotAllocateWaiting⟩, ⟨7, 1022, .powerOn bi⟩]).agenda (fun e => ∃ b, e.ev = .powerOn b) ⟨7, 1022, .powerOn bi⟩ :=
  ⟨by decide +kernel, [_], [], rfl, ⟨_, rfl⟩, by simp⟩

end Boot

end Sys2Proof.Tests
end

