-- ==== Sys2Proof/Tests/Slice0.lean ====
section
/-!
SUPPORT. Tests whose expected results come from the spec: words written out from its encoding tables, terms without an encoding, and its
worked examples and small cases of its tables, each on one operation or one step.
-/

namespace Sys2Proof.Tests

set_option Elab.async false

open Machine

/-! ### Words (R171-R177, R187, R195, R232, R256, R257, R281, R285, R302-R307) -/

/-- Whether each word, head and full tail, decodes to its instruction on a supervisor under pin 3. -/
def readsAll (l : List (Nat × Nat × Instr)) : Bool := l.all fun x => okList (decodeOp 3 true x.1 x.2.1) == [x.2.2]

theorem test_words_control : readsAll
    [(0xE000, 0x0000000000000000, .nop p),
     (0xE020, 0x0000101420000000, .br p 0x10142),
     (0xE020, 0x0061C00000000001, .brIndirect p (.s 7)),
     (0xE040, 0x0061C01420000000, .bz p (.s 7) 0x142),
     (0xE060, 0x00781FFFF0000000, .bnz p .zero 0x1FFFF),
     (0xE080, 0x007540142000000A, .bm p .none .w64 (.m 5) 0x142),
     (0xE0A0, 0xC080001420000000, .call p (.s 1) 0x142),
     (0xE0A0, 0xC0E0800000000001, .callIndirect p (.s 1) (.s 2)),
     (0xE0C0, 0x0060400000000000, .ret p (.s 1)),
     (0xE0E0, 0xABCDEF1E00000005, .loop p 5 0xABCDEF),
     (0xE0E0, 0x0000001830000005, .loopScalar p 5 (.s 3)),
     (0xE0E0, 0x0000001C10000002, .loopQ1 p 2),
     (0xE100, 0xC0E0800000000000, .lstr p (.s 1) (.s 2)),
     (0xE100, 0xC0F8000000000FC0, .lstrImm p (.s 1) 0xFC0),
     (0xE120, 0x0000000000000000, .lbrk p),
     (0xE120, 0x0061000000000001, .lbrkZ p (.s 4)),
     (0xE120, 0x0061000000000002, .lbrkNz p (.s 4)),
     (0xE140, 0x0075401420000016, .cbrAny p 1 (.mask 5 .w32) true 0x142),
     (0xE140, 0x0062401420000071, .cbrAll p 7 (.scalar (.s 9)) false 0x142)] = true := by
  decide +kernel

theorem test_words_system : readsAll
    [(0xE160, 0x0000000000000000, .hwin p),
     (0xE180, 0x0062400000000000, .fmt p (.s 9)),
     (0xE180, 0x0078000000000423, .fmtImm p 0x423),
     (0xE1A0, 0x0000000000000000, .uliret p),
     (0xE1C0, 0x0000000000000ABC, .trap p 0xABC),
     (0xE1E0, 0x0000000000000000, .halt p),
     (0xE200, 0xC200000000000003, .csrr p (.s 4) 3),
     (0xE220, 0x0061000000000005, .csrw p 5 (.s 4)),
     (0xE220, 0x0061000000000004, .csrwFmt p (.s 4)),
     (0xE220, 0x0061000000000007, .csrwEagerlim p (.s 4)),
     (0xE220, 0x006100000000000C, .csrwCbrto p (.s 4)),
     (0xE240, 0x0000000000000000, .fenceEng p),
     (0xE240, 0x0000000000000001, .fenceMoon p),
     (0xE240, 0x0000000000000002, .fenceAll p),
     (0xE260, 0x0000000000000060, .tbar p 6),
     (0xE3A0, 0x0060800000000000, .eret p (.s 2)),
     (0xE3C0, 0xC0E0B07840000000, .tctl p (.s 1) (.s 2) (.s 3) (.s 4))] = true := by
  decide +kernel

theorem test_words_ertw : readsAll
    [(0xE3E0, 0xC0E0B06000000000, .read p (.s 1) (.s 2) (.s 3)),
     (0xE3E0, 0xC0E0B06000000001, .config p (.s 1) (.s 2) (.s 3)),
     (0xE3E0, 0xC0E0B06000000002, .pagein p (.s 1) (.s 2) (.s 3)),
     (0xE3E0, 0xC0E0B06000000003, .evict p (.s 1) (.s 2) (.s 3)),
     (0xE3E0, 0xC0E0B06000000004, .pin p (.s 1) (.s 2) (.s 3)),
     (0xE3E0, 0xC0E0B06000000005, .unpin p (.s 1) (.s 2) (.s 3)),
     (0xE3E0, 0xC0E0B06000000006, .discard p (.s 1) (.s 2) (.s 3))] = true := by
  decide +kernel

theorem test_words_scalar : readsAll
    [(0xE400, 0xC0E0B06000000000, .add p (.s 1) (.s 2) (.reg (.s 3))),
     (0xE420, 0xC0E0B06000000000, .sub p (.s 1) (.s 2) (.reg (.s 3))),
     (0xE440, 0xC0E0B06000000000, .mul p (.s 1) (.s 2) (.reg (.s 3))),
     (0xE540, 0xC0E0B06000000000, .shl p (.s 1) (.s 2) (.reg (.s 3))),
     (0xE560, 0xC0E0B06000000000, .shr p (.s 1) (.s 2) (.reg (.s 3))),
     (0xE580, 0xC0E0B06000000000, .sra p (.s 1) (.s 2) (.reg (.s 3))),
     (0xE5A0, 0xC0E0B06000000000, .rotl p (.s 1) (.s 2) (.reg (.s 3))),
     (0xE620, 0xC0E0B06000000000, .seq p (.s 1) (.s 2) (.reg (.s 3))),
     (0xE640, 0xC0E0B06000000000, .sne p (.s 1) (.s 2) (.reg (.s 3))),
     (0xE4C0, 0xDFF8FFFFF0000800, .and p (.s 63) .cyccount (.imm 0x3FFFF)),
     (0xE4E0, 0xDFF8FFFFF0000800, .or p (.s 63) .cyccount (.imm 0x3FFFF)),
     (0xE500, 0xDFF8FFFFF0000800, .xor p (.s 63) .cyccount (.imm 0x3FFFF)),
     (0xE520, 0xDFF8FFFFF0000800, .andn p (.s 63) .cyccount (.imm 0x3FFFF)),
     (0xE460, 0xC0E0B06000000001, .mulh p true (.s 1) (.s 2) (.reg (.s 3))),
     (0xE480, 0xC0E0B06000000001, .div p true (.s 1) (.s 2) (.reg (.s 3))),
     (0xE4A0, 0xC0E0B06000000001, .rem p true (.s 1) (.s 2) (.reg (.s 3))),
     (0xE5C0, 0xC0E0B06000000001, .min p true (.s 1) (.s 2) (.reg (.s 3))),
     (0xE5E0, 0xC0E0B06000000001, .max p true (.s 1) (.s 2) (.reg (.s 3))),
     (0xE600, 0xC0E0B06000000001, .slt p true (.s 1) (.s 2) (.reg (.s 3))),
     (0xE660, 0xC0E0B07840000000, .sel p (.s 1) (.s 2) (.s 3) (.s 4))] = true := by
  decide +kernel

theorem test_words_scalar2 : readsAll
    [(0xE680, 0xC0E0800000000000, .clz p (.s 1) (.s 2)),
     (0xE6A0, 0xC0E0800000000000, .ctz p (.s 1) (.s 2)),
     (0xE6C0, 0xC0E0800000000000, .popc p (.s 1) (.s 2)),
     (0xE720, 0xC0E0800000000000, .mov p (.s 1) (.s 2)),
     (0xE6E0, 0xC0C4D5E6F7800001, .li p true (.s 1) 0x89ABCDEF),
     (0xE700, 0xC0C4D5E6F7800000, .lih p (.s 1) 0x89ABCDEF),
     (0xE740, 0xC0E080007000087E, .addsh p 63 (.s 1) (.s 2) (.imm 7)),
     (0xE760, 0xC0E0800000000001, .sext p .n16 (.s 1) (.s 2)),
     (0xE780, 0xC0E0800000000002, .zext p .n32 (.s 1) (.s 2)),
     (0xE7A0, 0xC0F7C00000000004, .mpop p .w32 (.s 1) (.m 15)),
     (0xE7C0, 0xC0F4000000000008, .mfirst p .w64 (.s 1) (.m 0)),
     (0xE7E0, 0xC0CB00003000080A, .vext p .n16 (.s 1) (.v 300) (.imm 3))] = true := by
  decide +kernel

theorem test_words_address : readsAll
    [(0xEA00, 0xE060400000000801, .vldq p (.s 1) 0x801),
     (0xEA20, 0xE060404000000001, .vldqg p .n16 (.s 1) (.v 2)),
     (0xEA40, 0x00604040000007FF, .vst p (.s 1) (.v 2) 0x7FF),
     (0xEA60, 0x0060404000000BFF, .vstm p .n32 (.s 1) (.v 2) 0x3FF),
     (0xEA80, 0x0060404030000000, .vsts p .n8 (.s 1) (.v 2) (.v 3)),
     (0xEAA0, 0xC1E0400000000BFF, .sld p 2 true (.s 3) (.s 1) 0x1FF),
     (0xEAC0, 0x0060706000000C01, .sst p 3 (.s 1) (.s 3) 1)] = true := by
  decide +kernel

theorem test_words_engine : readsAll
    [(0xF960, 0x0060400000000003, .cset p 3 (.s 1)),
     (0xF980, 0xC080000000000000, .cgo p (.s 1)),
     (0xFA00, 0xC560B06000000092, .send p .bf16 1 true (.s 10) (.s 2) (.s 3)),
     (0xFA20, 0xF060B0600000007E, .ssend p .w3 7 false .zero (.s 2) (.s 3)),
     (0xFA40, 0xC560B07840000090, .recv p 1 true (.s 10) (.s 2) (.s 3) (.s 4)),
     (0xFA60, 0xDF60801840000020, .probe p 2 (.s 62) (.s 2) (.s 4)),
     (0xFA80, 0xC0E0800000000000, .cancel p (.s 1) (.s 2)),
     (0xFAA0, 0xC0E0B07840000080, .mget p true (.s 1) (.s 2) (.s 3) (.s 4)),
     (0xFAC0, 0xC0E0B07840000080, .mput p true (.s 1) (.s 2) (.s 3) (.s 4)),
     (0xFB00, 0xC0E0B07840000080, .exget p true (.s 1) (.s 2) (.s 3) (.s 4)),
     (0xFAE0, 0xC0E0800000000002, .matom p .add false false (.s 1) (.s 2)),
     (0xFAE0, 0xC0E0800000000005, .matom p .smin true false (.s 1) (.s 2)),
     (0xFAE0, 0xC0E0800000000006, .matom p .umin false false (.s 1) (.s 2)),
     (0xFAE0, 0xC0E0800000000009, .matom p .smax true false (.s 1) (.s 2)),
     (0xFAE0, 0xC0E080000000000A, .matom p .umax false false (.s 1) (.s 2)),
     (0xFAE0, 0xC0E080000000000D, .matom p .xchg true false (.s 1) (.s 2)),
     (0xFAE0, 0xC0E080000000000E, .matom p .cas false false (.s 1) (.s 2))] = true := by
  decide +kernel

theorem test_words_channels : readsAll
    [(0xFB20, 0x006040000000003F, .sendc p 63 (.s 1)),
     (0xFB40, 0xC0E0800000000011, .recvc p 17 (.s 1) (.s 2)),
     (0xFB60, 0xC0E0800000000011, .recvac p 17 (.s 1) (.s 2)),
     (0xFB80, 0xC0E0800000000011, .chld p 17 (.s 1) (.s 2)),
     (0xFBA0, 0xC0E0B06000000030, .sendr p .fsum false 3 false (.s 1) (.s 2) (.s 3)),
     (0xFBA0, 0xC0E0B06000000031, .sendr p .wmerge false 3 false (.s 1) (.s 2) (.s 3)),
     (0xFBA0, 0xC0E0B06000000032, .sendr p .fmax false 3 false (.s 1) (.s 2) (.s 3)),
     (0xFBA0, 0xC0E0B06000000033, .sendr p .fmin false 3 false (.s 1) (.s 2) (.s 3)),
     (0xFBA0, 0xC0E0B0600000003C, .sendr p .isum true 3 false (.s 1) (.s 2) (.s 3)),
     (0xFBA0, 0xC0E0B06000000035, .sendr p .and false 3 false (.s 1) (.s 2) (.s 3)),
     (0xFBA0, 0xC0E0B06000000036, .sendr p .or false 3 false (.s 1) (.s 2) (.s 3)),
     (0xFBC0, 0xC0E0B060000000B0, .recvr p 3 true (.s 1) (.s 2) (.s 3)),
     (0xFBE0, 0xC0E0B06000000000, .xtst p (.s 1) (.s 2) (.s 3)),
     (0xFC00, 0x0060B06000000000, .xwait p (.s 2) (.s 3)),
     (0xFC20, 0xC0E0800000000001, .xinfo p true (.s 1) (.s 2)),
     (0xFC40, 0x0060800000000000, .xfree p (.s 2))] = true := by
  decide +kernel

theorem test_words_groups : readsAll
    [(0xFC60, 0xC0E0800000000090, .join p 1 true (.s 1) (.s 2)),
     (0xFC80, 0xC080000000000010, .leave p 1 false (.s 1)),
     (0xFCA0, 0xC080304000000010, .gbar p 1 false (.s 1) (.s 2)),
     (0xFCC0, 0xC0E0800000000080, .launch p true (.s 1) (.s 2)),
     (0xFCE0, 0xC080304000000086, .recq p 6 true (.s 1) (.s 2)),
     (0xFD00, 0xC080000000000006, .rclose p 6 false (.s 1))] = true := by
  decide +kernel

theorem test_words_matrix : readsAll
    [(0xF800, 0x006100000000000D, .mma p 5 1 (.s 4)),
     (0xF820, 0x006100000000001D, .mmaw p 5 1 true (.s 4)),
     (0xF840, 0x0061000000000018, .wld p 1 true (.s 4)),
     (0xF860, 0x0000000000000007, .mzero p 7),
     (0xF880, 0x0061000000000003, .mld p 3 (.s 4)),
     (0xF8A0, 0x0061000000000003, .mst p 3 (.s 4)),
     (0xF8C0, 0x0061000000000000, .lclr p (.s 4)),
     (0xF8E0, 0x0061004000006001, .ladd { p with mask := 3 } false (.s 4) (.v 2)),
     (0xF900, 0x0061004030000002, .lmadd p true (.s 4) (.v 2) (.v 3)),
     (0xF920, 0x006130A000000000, .lmerge p (.s 4) (.s 5)),
     (0xF940, 0xC0E1000000000012, .lrnd p true true (.s 1) (.s 4))] = true := by
  decide +kernel

theorem test_words_vector : readsAll
    [(0xEC00, 0x0500780000000016, .vadd p .i16 true (.v 10) (.v 1) (.q 0)),
     (0xEC20, 0x0500780000000016, .vsub p .i16 true (.v 10) (.v 1) (.q 0)),
     (0xEC40, 0x0500780000000016, .vmul p .i16 true (.v 10) (.v 1) (.q 0)),
     (0xEC60, 0x0500404030044001, .vfma { p with pdist := 2, mask := 2 } .f32 false (.v 10) (.v 1) (.v 2) (.v 3)),
     (0xEC80, 0x0500404030000002, .vfms p .bf16 false (.v 10) (.v 1) (.v 2) (.v 3)),
     (0xECA0, 0x0500404030000002, .vfnma p .bf16 false (.v 10) (.v 1) (.v 2) (.v 3)),
     (0xECC0, 0x050040400000000C, .vmin p .n64 (.v 10) (.v 1) (.v 2)),
     (0xECE0, 0x050040400000000C, .vmax p .n64 (.v 10) (.v 1) (.v 2)),
     (0xED00, 0x0500400000000015, .vabs p .i8 true (.v 10) (.v 1)),
     (0xED20, 0x0500400000000015, .vneg p .i8 true (.v 10) (.v 1)),
     (0xED40, 0xBFC03C2000013000, .vand { p with mask := 9, mneg := true } .raw (.v 383) (.v 256) .lane),
     (0xED60, 0xBFC03C2000013000, .vor { p with mask := 9, mneg := true } .raw (.v 383) (.v 256) .lane),
     (0xED80, 0xBFC03C2000013000, .vxor { p with mask := 9, mneg := true } .raw (.v 383) (.v 256) .lane),
     (0xEDA0, 0xBFC03C2000013000, .vandn { p with mask := 9, mneg := true } .raw (.v 383) (.v 256) .lane),
     (0xEE60, 0xBFC03C2000013000, .vsel { p with mask := 9, mneg := true } .raw (.v 383) (.v 256) .lane),
     (0xEF00, 0xBFC03C2000013000, .vperm { p with mask := 9, mneg := true } .raw (.v 383) (.v 256) .lane),
     (0xEDC0, 0x0500404000000007, .vshl p .i32 (.v 10) (.v 1) (.v 2)),
     (0xEDC0, 0x05004000000009F7, .vshlImm p .i32 31 (.v 10) (.v 1)),
     (0xEDE0, 0x0500404000000007, .vshr p .i32 (.v 10) (.v 1) (.v 2)),
     (0xEDE0, 0x05004000000009F7, .vshrImm p .i32 31 (.v 10) (.v 1)),
     (0xEE00, 0x0500404000000007, .vsra p .i32 (.v 10) (.v 1) (.v 2)),
     (0xEE00, 0x05004000000009F7, .vsraImm p .i32 31 (.v 10) (.v 1))] = true := by
  decide +kernel

theorem test_words_vector2 : readsAll
    [(0xEE20, 0xE980404000004001, .vcmp { p with mask := 2 } .eq .f32 (.m 3) (.v 1) (.v 2)),
     (0xEE20, 0xE980404000004011, .vcmp { p with mask := 2 } .ne .f32 (.m 3) (.v 1) (.v 2)),
     (0xEE20, 0xE980404000004021, .vcmp { p with mask := 2 } .lt .f32 (.m 3) (.v 1) (.v 2)),
     (0xEE20, 0xE980404000004031, .vcmp { p with mask := 2 } .le .f32 (.m 3) (.v 1) (.v 2)),
     (0xEE20, 0xE980404000004041, .vcmp { p with mask := 2 } .gt .f32 (.m 3) (.v 1) (.v 2)),
     (0xEE20, 0xE980404000004051, .vcmp { p with mask := 2 } .ge .f32 (.m 3) (.v 1) (.v 2)),
     (0xEE20, 0xE980404000004061, .vcmp { p with mask := 2 } .un .f32 (.m 3) (.v 1) (.v 2)),
     (0xEE40, 0xE980400000000A53, .vclass p .e4m3 0xA5 (.m 3) (.v 1)),
     (0xEE80, 0xE178800000000001, .vmov p .f32 (.q 2) .ownrank),
     (0xEEA0, 0x01E0000000000009, .vbcast p .n8 (.v 3) (.s 0)),
     (0xEEC0, 0x018130A0000003F9, .vins p .n8 63 (.v 3) (.v 4) (.s 5)),
     (0xEEE0, 0x04E0316000000007, .vidx p .i32 (.v 9) (.s 0) (.s 11)),
     (0xEF20, 0x0480404030000000, .vshuf p .raw (.v 9) (.v 1) (.v 2) (.v 3)),
     (0xEF40, 0x048070400000000A, .vrot p .n16 (.v 9) (.v 1) (.s 2)),
     (0xEF60, 0x0480400000000017, .vcvt p .i32 .f32 false (.v 9) (.v 1)),
     (0xEF80, 0x0480404000000169, .vpack p .n8 .i16 true (.v 9) (.v 1) (.v 2)),
     (0xEFA0, 0x0480400000000121, .vunpack p .f32 .bf16 true (.v 9) (.v 1)),
     (0xEFC0, 0x0480400000000017, .vredadd p .i32 true (.v 9) (.v 1)),
     (0xEFE0, 0x0480400000000001, .vredmax p .f32 (.v 9) (.v 1)),
     (0xF000, 0x0480400000000001, .vredmin p .f32 (.v 9) (.v 1)),
     (0xF020, 0x0480404000000002, .vscale p .bf16 (.v 9) (.v 1) (.v 2)),
     (0xF040, 0x0480400000000001, .vround p .rne .f32 (.v 9) (.v 1)),
     (0xF040, 0x0480400000000011, .vround p .rz .f32 (.v 9) (.v 1)),
     (0xF040, 0x0480400000000021, .vround p .rdn .f32 (.v 9) (.v 1)),
     (0xF040, 0x0480400000000031, .vround p .rup .f32 (.v 9) (.v 1))] = true := by
  decide +kernel

theorem test_words_special : readsAll
    [(0xF060, 0x0480400000000001, .vrcp p (.v 9) (.v 1)),
     (0xF0A0, 0x0480400000000001, .vrsq p (.v 9) (.v 1)),
     (0xF0E0, 0x0480400000000001, .vexp2 p (.v 9) (.v 1)),
     (0xF100, 0x0480400000000001, .vlog2 p (.v 9) (.v 1)),
     (0xF120, 0x0480400000000001, .vtanh p (.v 9) (.v 1)),
     (0xF140, 0x0480400000000001, .vsigm p (.v 9) (.v 1)),
     (0xF080, 0x0480404000000001, .vrcpr p (.v 9) (.v 1) (.v 2)),
     (0xF0C0, 0x0480404000000001, .vrsqr p (.v 9) (.v 1) (.v 2)),
     (0xF160, 0x0480404030000071, .vtopk p 7 (.v 9) (.v 1) (.v 2) (.v 3)),
     (0xF180, 0x0480400000000011, .vgate p 1 (.v 9) (.v 1)),
     (0xF1A0, 0x048040583000000A, .vhist p true (.v 9) (.v 1) (.v 2) (.s 3))] = true := by
  decide +kernel

theorem test_words_mask : readsAll
    [(0xF600, 0xE974FA8000000000, .mand p (.m 2) (.m 3) (.m 4)),
     (0xF620, 0xE974FA8000000000, .mor p (.m 2) (.m 3) (.m 4)),
     (0xF640, 0xE974FA8000000000, .mxor p (.m 2) (.m 3) (.m 4)),
     (0xF660, 0xE974FA8000000000, .mandn p (.m 2) (.m 3) (.m 4)),
     (0xF680, 0xF075000000000000, .mnot p .zero (.m 4)),
     (0xF6A0, 0xF075000000000000, .mmov p .zero (.m 4)),
     (0xF6C0, 0xE960C00000000000, .mset p (.m 2) (.s 3)),
     (0xF6C0, 0xE900000000000840, .msetLo p (.m 2) 64),
     (0xF6E0, 0xE900C0000000001A, .mfromv p .n16 true (.m 2) (.v 3))] = true := by
  decide +kernel

/-- The words that the spec prints: "Worked encoding" of chapter 9, and the examples of chapters 10, 12 and 13. -/
theorem test_words_printed : readsAll
    [(0xEC60, 0x0500404030044001, .vfma { p with pdist := 2, mask := 2 } .f32 false (.v 10) (.v 1) (.v 2) (.v 3)),
     (0x21E0, 0, .halt p),
     (0xFA00, 0xC560B06000000092, .send p .bf16 1 true (.s 10) (.s 2) (.s 3)),
     (0xCE20, 0xE980404000004021, .vcmp { p with mask := 2 } .lt .f32 (.m 3) (.v 1) (.v 2)),
     (0xE0E0, 0x0000001C10000002, .loopQ1 p 2),
     (0xE410, 0xC1E0C00010000800, .add { p with iq := 2 } (.s 3) (.s 3) (.imm 1))] = true := by
  decide +kernel

/-- R176: the 32-bit tail of `add s1, s2, s3`, and a 16-bit tail: dst s2, pdist 5, fn 3. -/
theorem test_short_tails :
    decodeTableWord 48 0xC0E0B0608400 = some (.add p (.s 1) (.s 2) (.reg (.s 3))) ∧
      decodeTableWord 32 0xC1534200 = some (.csrr { p with pdist := 5 } (.s 2) 3) := by
  decide +kernel

/-- The line of "Worked encoding": two bundles, at 0x140 and 0x142. -/
def workedLine : Nat :=
  ofBytes ([0x00, 0x18, 0x00, 0x84, 0x60, 0xEC, 0xE0, 0x21] ++ List.replicate 44 0 ++
    [0x01, 0x40, 0x04, 0x30, 0x40, 0x40, 0x00, 0x05, 0x60, 0xB0, 0xE0, 0xC0])

theorem test_worked_line :
    ((okList (parseLine workedLine)).map fun ops => (bundleAt ops 0).map fun x => (x.1, x.2.1)) = [[(0, 0x8400), (1, 0xEC60)]] ∧
      ((okList (parseLine workedLine)).map fun ops => bundleAt ops 2) = [[(2, 0x21E0, 0)]] := by
  decide +kernel

/-- "Worked encoding": byte 30 set, and `halt` without its e bit. -/
theorem test_bad_lines :
    errList (parseLine (workedLine + 2 ^ 240)) = [4] ∧ errList (parseLine (workedLine - 2 ^ 61)) = [5] := by
  decide +kernel

/-- R189: what the decoder refuses, by its reason: an unassigned opcode, a code without a register, a mask register as a scalar, fence
kind 3, a field that `halt` does not use, a level without a qualifier, and `tctl` outside a supervisor. -/
theorem test_refused_words :
    errList (decodeOp 3 true 0xE800 0) = [.opcode] ∧ errList (decodeOp 3 true 0xE720 (0x1C4 <<< 46)) = [.regcode] ∧
      errList (decodeOp 3 true 0xE0C0 (0x1D1 <<< 46)) = [.regcode] ∧ errList (decodeOp 3 true 0xE240 3) = [.fn] ∧
      errList (decodeOp 3 true 0xE1E0 (1 <<< 55)) = [.field] ∧ errList (decodeOp 3 true 0xE1E1 0) = [.qual] ∧
      errList (decodeOp 3 false 0xE3C0 0) = [.priv] := by
  decide +kernel

/-- R188: `sendc` under pin 1, `tbar` under pin 2, and q2 under pin 1 (R177). -/
theorem test_refused_pins :
    errList (decodeOp 1 false 0xFB20 (0x181 <<< 46)) = [.pin] ∧ errList (decodeOp 2 false 0xE260 0) = [.pin] ∧
      errList (decodeOp 1 false 0xE400 (0x1C2 <<< 46)) = [.pin] := by
  decide +kernel

/-! ### Terms without an encoding -/

/-- Terms that break one check of `Instr.wf` each: register classes. -/
theorem test_wf_classes :
    ([.xfree p .lane, .cgo p (.v 1), .lih p .zero 1, .probe p 0 (.s 3) (.s 1) (.s 1), .vst p (.s 1) (.s 2) 0,
      .vadd p .f32 false (.v 1) (.m 1) (.v 2), .vadd p .f32 false (.s 1) (.v 1) (.v 2), .mand p (.m 1) (.v 1) (.m 2),
      .mand p (.m 0) (.m 1) (.m 2), .add p (.s 1) (.v 1) (.imm 0), .add p (.m 1) (.s 1) (.imm 0), .add p (.s 1) (.s 1) (.reg (.v 2)),
      .vext p .i32 (.s 1) (.q 1) (.imm 0), .sld p 2 false (.q 1) (.s 1) 0, .cbrAny p 0 (.scalar (.v 1)) false 0,
      .loopScalar p 1 .zero, .lstr p (.q 1) (.s 1)] : List Instr).all (fun i => !i.wf) = true := by
  decide +kernel

/-- Attributes: a level above 5, a level without a qualifier, a mask or its inversion on an op without one, tags on `li`. -/
theorem test_wf_attributes :
    ([.nop { p with iq := 1, lvl := 6 }, .nop { p with lvl := 1 }, .nop { p with mask := 1 }, .nop { p with mneg := true },
      .li { p with sba := 1 } false (.s 1) 0, .lih { p with sbc := 1 } (.s 1) 0] : List Instr).all (fun i => !i.wf) = true := by
  decide +kernel

/-- Function values and types: the rest of the checks. -/
theorem test_wf_functions :
    ([.fmt p .zero, .loop p 0 3, .loopQ1 p 0, .lstr p (.s 1) .zero, .csrr p (.s 1) 0x0F, .csrw p 0x30 (.s 1), .csrw p 4 (.s 1),
      .sld p 3 true (.s 1) (.s 2) 0, .sendr p .fsum true 0 false (.s 1) (.s 2) (.s 3), .vext p .raw (.s 1) (.v 1) (.imm 0),
      .vadd p .f32 true (.v 1) (.v 2) (.v 3), .vadd p .e4m3 false (.v 1) (.v 2) (.v 3), .vmin p .raw (.v 1) (.v 2) (.v 3),
      .vand p .w4 (.v 1) (.v 2) (.v 3), .vshl p .f32 (.v 1) (.v 2) (.v 3), .vshlImm p .i8 8 (.v 1) (.v 2),
      .vcmp p .un .i8 (.m 1) (.v 1) (.v 2), .vclass p .i8 0 (.m 1) (.v 1), .vbcast p .raw (.v 1) (.s 1),
      .vins p .i64 8 (.v 1) (.v 2) (.s 1), .vidx p .f32 (.v 1) (.s 1) (.s 2), .vcvt p .i16 .f32 false (.v 1) (.v 2),
      .vcvt p .i32 .f32 true (.v 1) (.v 2), .vpack p .e4m3 .f32 false (.v 1) (.v 2) (.v 3), .vunpack p .i64 .i32 false (.v 1) (.v 2),
      .vscale p .i32 (.v 1) (.v 2) (.v 3), .vround p .rz .e5m2 (.v 1) (.v 2), .msetLo p (.m 1) 65,
      .mfromv p .w3 false (.m 1) (.v 1)] : List Instr).all (fun i => !i.wf) = true := by
  decide +kernel

/-! ### Scalar ops (R304-R306) -/

/-- The state after an instruction. -/
def after (i : Instr) (s : State) : State := (nextList (exec i s)).headD State.reset

/-- The one write in flight after an instruction at cycle 1000: its landing and its value. -/
def flies (i : Instr) (t : Tile) : List (Nat × Nat) := (after i (st t)).t.regs.flight.map fun w => (w.due, w.val.toNat)

/-- A scalar op on s1 and s2. -/
def sc2 (f : Attr → Reg → Reg → Opd → Instr) (a b : W64) : List (Nat × Nat) :=
  flies (f p (.s 9) (.s 1) (.reg (.s 2))) (withS [a, b] tile)

theorem test_add_wraps : sc2 .add (-1) 2 = [(1001, 1)] := by decide +kernel
theorem test_sub_wraps : sc2 .sub 0 1 = [(1001, 0xFFFFFFFFFFFFFFFF)] := by decide +kernel
theorem test_mulh_signs :
    sc2 (.mulh · false) (-1) (-1) = [(1003, 0)] ∧ sc2 (.mulh · true) (-1) (-1) = [(1003, 0xFFFFFFFFFFFFFFFE)] := by
  decide +kernel
theorem test_div_corners :
    sc2 (.div · false) 7 0 = [(1018, 0xFFFFFFFFFFFFFFFF)] ∧ sc2 (.div · false) 0x8000000000000000 (-1) = [(1018, 0x8000000000000000)] ∧
      sc2 (.div · false) (-7) 2 = [(1018, 0xFFFFFFFFFFFFFFFD)] := by
  decide +kernel
theorem test_rem_corners :
    sc2 (.rem · false) 7 0 = [(1018, 7)] ∧ sc2 (.rem · false) 0x8000000000000000 (-1) = [(1018, 0)] ∧
      sc2 (.rem · false) (-7) 2 = [(1018, 0xFFFFFFFFFFFFFFFF)] := by
  decide +kernel
theorem test_shifts_past_the_width :
    sc2 .shl 1 64 = [(1001, 0)] ∧ sc2 .shr (-1) 64 = [(1001, 0)] ∧ sc2 .sra (-8) 200 = [(1001, 0xFFFFFFFFFFFFFFFF)] ∧
      sc2 .rotl 3 65 = [(1001, 6)] := by
  decide +kernel
theorem test_slt_signs :
    sc2 (.slt · false) (-1) 0 = [(1001, 1)] ∧ sc2 (.slt · true) (-1) 0 = [(1001, 0)] := by decide +kernel
theorem test_addsh_wraps : sc2 (.addsh · 63) 5 3 = [(1001, 0x8000000000000005)] := by decide +kernel
theorem test_immediate_is_signed :
    flies (.add p (.s 9) (.s 1) (.imm 0x20000)) (withS [0] tile) = [(1001, 2 ^ 64 - 131072)] := by decide +kernel
theorem test_li_extends :
    flies (.li p false (.s 9) 0x89ABCDEF) tile = [(1001, 0xFFFFFFFF89ABCDEF)] ∧
      flies (.li p true (.s 9) 0x89ABCDEF) tile = [(1001, 0x89ABCDEF)] := by
  decide +kernel
theorem test_lih_keeps_the_low_half :
    flies (.lih p (.s 1) 0x12345678) (withS [0xAAAAAAAABBBBBBBB] tile) = [(1001, 0x12345678BBBBBBBB)] := by decide +kernel
theorem test_counts_of_zero :
    flies (.clz p (.s 9) (.s 1)) tile = [(1001, 64)] ∧ flies (.ctz p (.s 9) (.s 1)) tile = [(1001, 64)] ∧
      flies (.mfirst p .w16 (.s 9) (.m 1)) tile = [(1001, 16)] := by
  decide +kernel
theorem test_sext_and_zext :
    flies (.sext p .n8 (.s 9) (.s 1)) (withS [0x180] tile) = [(1001, 0xFFFFFFFFFFFFFF80)] ∧
      flies (.zext p .n16 (.s 9) (.s 1)) (withS [0x18000] tile) = [(1001, 0x8000)] := by
  decide +kernel

/-! ### Vector and mask ops (chapter 12) -/

/-- A tile with vector registers. -/
def withV (l : List (Fin 384 × W512)) (t : Tile) : Tile := { t with regs := { t.regs with v := l.foldl (fun v x => v.set x.1 x.2) t.regs.v } }

/-- A vector from its 32-bit lanes. -/
def lanes32 (l : List Nat) : W512 := ofLanes 32 l

/-- "`vabs.i8` of 0x80 gives 0x80 and `vabs.i8.sat` gives 0x7F. `vneg.n16.sat` of 5 gives 0." -/
theorem test_abs_and_neg :
    flies (.vabs p .i8 false (.v 9) (.v 1)) (withV [(1, 0x80)] tile) = [(1003, 0x80)] ∧
      flies (.vabs p .i8 true (.v 9) (.v 1)) (withV [(1, 0x80)] tile) = [(1003, 0x7F)] ∧
      flies (.vneg p .n16 true (.v 9) (.v 1)) (withV [(1, 5)] tile) = [(1003, 0)] := by
  decide +kernel

/-- The example of R272: the tree gives 16,777,218. -/
theorem test_vredadd_tree :
    flies (.vredadd p .f32 false (.v 8) (.v 7)) (withV [(7, lanes32 [0x4B800000, 0, 0x3F800000, 0x3F800000])] tile) =
      [(1006, 0x4B800001)] := by
  decide +kernel

/-- "A compare and its masked consumer": lanes below 8.0, and the selection under the old m3. -/
def compared : Tile :=
  let t := withV [(1, lanes32 [0, 0x3F800000, 0x40000000, 0x40400000, 0x40800000, 0x40A00000, 0x40C00000, 0x40E00000, 0x41000000,
    0x41100000, 0x41200000, 0x41300000, 0x41400000, 0x41500000, 0x41600000, 0x41700000]), (2, lanes32 (List.replicate 16 0x41000000))] tile
  { t with regs := { t.regs with m := (t.regs.m.set 2 0xFFFF).set 5 0x00FF } }

theorem test_vcmp_lt :
    flies (.vcmp { p with mask := 2 } .lt .f32 (.m 3) (.v 1) (.v 2)) compared = [(1001, 0x00FF)] := by decide +kernel
theorem test_vsel_old_mask :
    flies (.vsel { p with mask := 3 } .f32 (.v 9) (.v 1) (.v 2)) compared = [(1003, (ofLanes 32 (List.replicate 16 0x41000000)).toNat)] := by
  decide +kernel

/-- "Selecting and gating experts". -/
def logits : Tile := withV [(20, lanes32 [0xBF800000, 0xBF800000, 0xBF800000, 0x40400000, 0xBF800000, 0x7FC00000, 0xBF800000, 0xBF800000,
  0xBF800000, 0x40400000, 0xBF800000, 0xBF800000, 0x40000000, 0xBF800000, 0xBF800000, 0xBF800000]),
  (21, lanes32 ((List.range 16).map (· + 0x20))), (22, lanes32 (List.replicate 16 0xFFFF))] tile

def gateList : List Nat := [0x40400000, 0x40400000, 0x40000000, 0xBF800000, 0x7FC00000, 0x7FC00000, 0x7FC00000, 0x7FC00000,
  0x00010023, 0x01010029, 0x0201002C, 0x03010020, 0x0401FFFF, 0x0501FFFF, 0x0601FFFF, 0x0701FFFF]

theorem test_vtopk_example :
    flies (.vtopk p 3 (.v 23) (.v 20) (.v 21) (.v 22)) logits = [(1008, (ofLanes 32 gateList).toNat)] := by decide +kernel
theorem test_vgate_example :
    flies (.vgate p 1 (.v 24) (.v 23)) (withV [(23, lanes32 gateList)] tile) =
      [(1016, (ofLanes 32 ([0x3F000000, 0x3F000000, 0, 0, 0, 0, 0, 0, 0x00010023, 0x01010029] ++ List.replicate 6 0x0000FFFF)).toNat)] := by
  decide +kernel

/-- R279: m0 reads as all ones. -/
theorem test_mask_zero : flies (.mnot p (.m 2) (.m 0)) tile = [(1001, 0)] := by decide +kernel

/-! ### Numbers (chapters 8 and 11) -/

/-- "The byte 0x7C reads as 384 under reading 0", and as a NaN under reading 1. -/
theorem test_e4m3_readings :
    (fE4m3 false).toReal 0x7C = .fin false 12 5 ∧ ((fE4m3 true).toReal 0x7C).isNan = true := by decide +kernel

/-- "C = 0x4B80001A stored as `.bf16` under RNE gives 0x4B80." -/
theorem test_bf16_store : fBf16.round false false (fF32.toReal 0x4B80001A) = 0x4B80 := by decide +kernel

/-- The costs of R252's example. -/
theorem test_lane_costs :
    laneCost .zero (fF32.toReal 0x3F800000) = 1 ∧ laneCost (wideAdd .zero (fF32.toReal 0x3F800000)) (fF32.toReal 0xBF800000) = 1 ∧
      laneCost .zero (fF32.toReal 0xBF800000) = 3 := by
  decide +kernel

/-! ### Fabric, messages and the module -/

/-- R15's example: tile index 37 of die 2 of package 0x00012. -/
theorem test_rank_example : keyOf 0x00012825 = 2 * 1024 + 37 ∧ pkgOf 0x00012825 = 0x12 := by decide +kernel

/-- R65's example: 9 hops in one flit take 20 cycles. -/
theorem test_route_example : legLat (hopsTo (2, 5, 0) 5 0 1) 1 = 20 := by decide +kernel

/-- "Fixed order against arrival order": the folds of die 0, die 1 and the switch die. -/
theorem test_fold_order :
    redFold .fsum false [bytesOf 0x4B800000 4, bytesOf 0x3F800000 4] = some (bytesOf 0x4B800000 4) ∧
      redFold .fsum false [bytesOf 0x3F800000 4, bytesOf 0xCB800000 4] = some (bytesOf 0xCB7FFFFF 4) ∧
      redFold .fsum false [bytesOf 0x4B800000 4, bytesOf 0xCB7FFFFF 4] = some (bytesOf 0x3F800000 4) := by
  decide +kernel

/-- The `xinfo` values of the matching example. -/
theorem test_status_words :
    ({ slot .recv 1 with state := 1, length := 64, src := 0x00012009 } : Slot).status = 0x120090000004001 ∧
      ({ slot .recv 1 with state := 3, length := 300, src := 0x00012009 } : Slot).status = 0x120090000012C03 := by
  decide +kernel

/-- The windows of R111's example: wst 1000, 64 cycles apart, 4 long. -/
theorem test_windows :
    let c : Chan := ⟨true, false, false, 1, 17, 0, 4, 64, 64, 4, 1000, 6, 1, []⟩
    c.isOpen 1063 = false ∧ c.isOpen 1064 = true ∧ c.isOpen 1067 = true ∧ c.isOpen 1068 = false ∧ c.isOpen 1128 = true := by
  decide +kernel

/-- R392's example: limit 3000 at 3600 W swallows 11 of 64. -/
theorem test_swallow : swallow 3000 48 3600 = 11 := by decide +kernel

/-! ### One step -/

/-- A word placed with `withFetchWord` runs as the next instruction: `halt` ends the thread. -/
theorem test_step_halts :
    let s := State.reset.withFetchWord 16 0x21E0
    (((nextList (step s)).map fun t => (t.tile s.cur).thr.st)) = [.halted] := by
  decide +kernel

/-- R363: `trap #0xABC` saves cause, pc and code, and stops the thread. -/
theorem test_trap_stops :
    let t := after (.trap p 0xABC) (st tile)
    t.t.thr.st = .stopped ∧ t.t.csr.epc = 64 ∧ t.t.csr.tval = 0xABC := by
  decide +kernel

end Sys2Proof.Tests
end

section
/-!
SUPPORT. The agenda, the reports, the moons' tables and the host pairs under the operations that power events and register writes use.
-/

namespace Sys2Proof.Machine

/-! ### The agenda -/

theorem mem_insertTimed_self (e : Timed) (l : List Timed) : e ∈ insertTimed e l := by
  induction l with
  | nil => exact List.mem_singleton_self e
  | cons x r ih =>
    simp only [insertTimed]
    split
    · exact List.mem_cons_self
    · exact List.mem_cons_of_mem x ih

theorem State.mem_agenda_schedule (s : State) (due unit : Nat) (ev : Instr) :
    ⟨due, unit, ev⟩ ∈ (s.schedule due unit ev).agenda :=
  mem_insertTimed_self _ _

/-! ### Reports (R366) -/

@[simp] theorem State.report_mgmt (s : State) (die : Fin 4) (r : Report) : (s.report die r).mgmt = s.mgmt := by
  unfold State.report
  extract_lets
  split <;> rfl

@[simp] theorem State.report_tiles (s : State) (die : Fin 4) (r : Report) : (s.report die r).tiles = s.tiles := by
  unfold State.report
  extract_lets
  split <;> rfl

/-- The queue of the die, after a report: at its end where there is room, else among those that wait. -/
theorem State.report_rep (s : State) (die : Fin 4) (r : Report) :
    (s.report die r).rep = s.rep.set die
      (if (s.rep[die].q.length < 1024 && s.rep[die].waiting.isEmpty) = true then
        { s.rep[die] with q := s.rep[die].q ++ [r] }
      else { s.rep[die] with waiting := s.rep[die].waiting ++ [r] }) := by
  simp only [State.report]
  split <;> split <;> rfl

theorem State.reported_report (s : State) (die : Fin 4) (r : Report) : Reported (s.report die r) die r := by
  simp only [Reported, State.report_rep, Fin.getElem_fin, Vector.getElem_set_self]
  split
  · exact .inl (List.mem_concat_self)
  · exact .inr (List.mem_concat_self)

/-- A report of an event has the event's code and detail, and leaves the tiles and the management core alone. -/
theorem State.reportEvent_spec (s : State) (die : Fin 4) (rank : Rank) (code detail : Nat) :
    (s.reportEvent die rank code detail).mgmt = s.mgmt ∧ (s.reportEvent die rank code detail).tiles = s.tiles ∧
      ∃ r, Reported (s.reportEvent die rank code detail) die r ∧
        r.code = BitVec.ofNat 8 code ∧ r.tval = BitVec.ofNat 64 detail :=
  ⟨State.report_mgmt .., State.report_tiles .., _, State.reported_report .., rfl, rfl⟩

/-! ### Moons and their ASID tables -/

theorem State.moon_modMoon_other (s : State) {k j : Nat} (f : Moon → Moon) (h : j ≠ k) :
    (s.modMoon k f).moon j = s.moon j := by
  simp [State.moon, State.modMoon, Assoc.find_put_other _ _ h]

theorem Moon.asidEnt_put_self (m : Moon) (a : Fin 256) (w : W64) :
    ({ m with asid := m.asid.put a.val w } : Moon).asidEnt (BitVec.ofNat 8 a.val) = w := by
  simp [Moon.asidEnt]

theorem Moon.asidEnt_put_other (m : Moon) (a : Fin 256) (w : W64) {b : Byte} (hb : b ≠ BitVec.ofNat 8 a.val) :
    ({ m with asid := m.asid.put a.val w } : Moon).asidEnt b = m.asidEnt b := by
  have hk : b.toNat ≠ a.val := fun h => hb (by rw [← h, BitVec.ofNat_toNat, BitVec.setWidth_eq])
  simp [Moon.asidEnt, Assoc.find_put_other _ _ hk]

/-! ### Host pairs -/

/-- Serving the host queues schedules at most the step that takes an entry. -/
theorem State.hostServe_cases (s : State) : s.hostServe = s ∨ ∃ due unit ev, s.hostServe = s.schedule due unit ev := by
  unfold State.hostServe
  split
  · exact .inl rfl
  · split
    · exact .inr ⟨_, _, _, rfl⟩
    · exact .inl rfl

/-- Serving the host queues leaves the host's rings, the tiles and the schedulers alone. -/
theorem State.hostServe_frame (s : State) :
    s.hostServe.host = s.host ∧ s.hostServe.tiles = s.tiles ∧ s.hostServe.sched = s.sched := by
  obtain h | ⟨due, unit, ev, h⟩ := s.hostServe_cases <;> rw [h]
  · exact ⟨rfl, rfl, rfl⟩
  · exact ⟨rfl, rfl, rfl⟩

/-- A pair after a write of its configuration register (R380). -/
theorem Pair.configured_eq (p : Pair) (v : W64) :
    p.configured v.toNat = { p with
      lsize := if p.en then p.lsize else v.setWidth 4
      en := v.getLsbD 4
      tail := (v >>> 32).setWidth 12
      head := if v.getLsbD 4 && !p.en then 0 else p.head
      cidx := if v.getLsbD 4 && !p.en then 0 else p.cidx
      phase := if v.getLsbD 4 && !p.en then false else p.phase } := by
  have hen : (fld v.toNat 4 1 == 1) = v.getLsbD 4 := by
    simp only [fld, BitVec.getLsbD, Nat.testBit_eq_decide_div_mod_eq, Nat.pow_one, Bool.beq_eq_decide_eq]
  have hsize : BitVec.ofNat 4 (fld v.toNat 0 4) = v.setWidth 4 := by
    apply BitVec.eq_of_toNat_eq
    simp [fld]
  have htail : BitVec.ofNat 12 (fld v.toNat 32 12) = (v >>> 32).setWidth 12 := by
    apply BitVec.eq_of_toNat_eq
    simp [fld, Nat.shiftRight_eq_div_pow]
  simp only [Pair.configured, hen, hsize, htail]
  cases hp : p.en <;> cases v.getLsbD 4 <;> simp [hp]

end Sys2Proof.Machine
end

section
/-!
SUPPORT. Power, trips and the registers without an instruction of their own (R5, R6, R49, R75, R375, R380, R390-R392).
-/

namespace Sys2Proof.Machine

/-! ### Power windows (R391) -/

/-- The model's rounded-up division is the pulse count that R391 asks for. -/
theorem swallowed_swallow (limit swmax watts : Nat) : Swallowed limit swmax watts (swallow limit swmax watts) := by
  unfold Swallowed swallow
  by_cases h : watts ≤ limit
  · exact ⟨fun _ => if_pos h, fun hl => absurd h (by omega)⟩
  · refine ⟨fun hw => absurd hw h, fun _ => ?_⟩
    rw [if_neg h]
    have hpos : 0 < watts := by omega
    generalize hx : 64 * (watts - limit) = x
    have hlow : (x + watts - 1) / watts * watts ≤ x + watts - 1 := Nat.div_mul_le_self _ _
    have hhigh : x + watts - 1 < (x + watts - 1) / watts * watts + watts := Nat.lt_div_mul_add hpos
    generalize (x + watts - 1) / watts = c at hlow hhigh
    by_cases hc : swmax ≤ c
    · have hmul : swmax * watts ≤ c * watts := Nat.mul_le_mul_right watts hc
      rw [Nat.min_eq_left hc]
      exact .inl ⟨rfl, by omega⟩
    · rw [Nat.min_eq_right (by omega)]
      exact .inr ⟨by omega, by omega, by omega⟩

theorem runs_powerWindow (watts : Nat) (s : State) :
    let limit := s.mgmt.pwrctl.toNat % 2 ^ 12
    let most := s.mgmt.pwrctl.toNat / 2 ^ 12 % 2 ^ 6
    Runs (.powerWindow watts) s fun t =>
      t.mgmt.swallowed = swallow limit most watts ∧ t.mgmt.watts = watts ∧ t.tiles = s.tiles ∧
      t.mgmt.overs = (if swallow limit most watts = most ∧ limit < watts then s.mgmt.overs + 1 else 0) ∧
      (1024 ≤ t.mgmt.overs → ⟨s.now, 1022, .powerOver⟩ ∈ t.agenda) ∧
      (t.mgmt.overs < 1024 → t.agenda = s.agenda) := by
  intro limit most
  have hlimit : fld s.mgmt.pwrctl.toNat 0 12 = limit := by simp [fld, limit]
  have hmost : fld s.mgmt.pwrctl.toNat 12 6 = most := rfl
  refine ⟨_, rfl, ?_⟩
  simp only [hlimit, hmost]
  generalize (if swallow limit most watts = most ∧ limit < watts then s.mgmt.overs + 1 else 0) = overs
  by_cases h : 1024 ≤ overs
  · rw [if_pos h]
    exact ⟨rfl, rfl, rfl, rfl, fun _ => State.mem_agenda_schedule .., fun hlt => absurd h (Nat.not_le.mpr hlt)⟩
  · rw [if_neg h]
    exact ⟨rfl, rfl, rfl, rfl, fun hle => absurd hle h, fun _ => rfl⟩

theorem exec_powerOver_below (s : State) (h : s.mgmt.overs < 1024) : exec .powerOver s = .next s := if_pos h

theorem runs_powerOver_reports (s : State) (h : 1024 ≤ s.mgmt.overs) :
    Runs .powerOver s fun t => t.mgmt = { s.mgmt with overs := 0 } ∧ t.tiles = s.tiles ∧
      ∃ r, Reported t 0 r ∧ r.code = 0x42 ∧ r.tval = BitVec.ofNat 64 (s.mgmt.watts % 2 ^ 16) :=
  ⟨_, if_neg (Nat.not_lt.mpr h), State.reportEvent_spec ..⟩

/-! ### After a trip (R392) -/

theorem isPowerOn_iff (i : Instr) : isPowerOn i = true ↔ ∃ b, i = .powerOn b := by
  cases i <;> simp [isPowerOn]

/-- After a trip the step looks for a power cycle only: with none on the agenda it stops. -/
theorem step_tripped_of_find_none {s : State} (h : s.mgmt.trip ≠ none)
    (hf : (s.agenda.find? fun e => isPowerOn e.ev) = none) : step s = .fault .clocksStopped := by
  obtain ⟨c, hc⟩ := Option.ne_none_iff_exists'.mp h
  simp only [step, hc, hf]

/-- After a trip the first power cycle on the agenda runs. -/
theorem step_tripped_of_find_some {s : State} {e : Timed} (h : s.mgmt.trip ≠ none)
    (hf : (s.agenda.find? fun e => isPowerOn e.ev) = some e) :
    step s = exec e.ev { s with agenda := s.agenda.erase e, cur := e.unit } := by
  obtain ⟨c, hc⟩ := Option.ne_none_iff_exists'.mp h
  simp only [step, hc, hf]

theorem step_tripped_stops {s : State} (h : s.mgmt.trip ≠ none) (hno : ∀ e ∈ s.agenda, ∀ b, e.ev ≠ .powerOn b) :
    step s = .fault .clocksStopped :=
  step_tripped_of_find_none h <| List.find?_eq_none.mpr fun e he hp => by
    obtain ⟨b, hb⟩ := (isPowerOn_iff e.ev).mp hp
    exact hno e he b hb

theorem find?_eq_some_of_isFirst {α : Type} {l : List α} {p : α → Prop} {q : α → Bool} {x : α}
    (hq : ∀ y, q y = true ↔ p y) (h : IsFirst l p x) : l.find? q = some x := by
  obtain ⟨u, v, hl, hx, hu⟩ := h
  exact List.find?_eq_some_iff_append.mpr
    ⟨(hq x).mpr hx, u, v, hl, fun y hy => by simpa [← hq] using hu y hy⟩

theorem step_tripped_powers_on {s : State} (h : s.mgmt.trip ≠ none) {e : Timed} {b : BootInput} (he : e.ev = .powerOn b)
    (hfirst : IsFirst s.agenda (fun e => ∃ b, e.ev = .powerOn b) e) :
    step s = exec (.powerOn b) { s with agenda := s.agenda.erase e, cur := e.unit } := by
  have hfind := find?_eq_some_of_isFirst (q := fun e => isPowerOn e.ev) (fun y => isPowerOn_iff y.ev) hfirst
  rw [step_tripped_of_find_some h hfind, he]

/-! ### Register writes (R5, R6, R49, R75, R375, R380) -/

@[simp] theorem fld_zero (x len : Nat) : fld x 0 len = x % 2 ^ len := by simp [fld]

theorem runs_registerWrite_mastab (m : Fin 64) (a : Fin 256) (v : W64) (s : State) :
    Runs (.registerWrite (.mastab m a) v) s fun t =>
      (t.moon m.val).asidEnt (BitVec.ofNat 8 a.val) =
        BitVec.ofNat 64 (v.toNat % 4 + 2 ^ 15 * (v.toNat / 2 ^ 15 % 2 ^ 25)) ∧
      (∀ b, b ≠ BitVec.ofNat 8 a.val → (t.moon m.val).asidEnt b = (s.moon m.val).asidEnt b) ∧
      (∀ j, j ≠ m.val → t.moon j = s.moon j) ∧ t.tiles = s.tiles ∧ t.hbm = s.hbm := by
  refine ⟨_, rfl, ?_, fun b hb => ?_, fun j hj => State.moon_modMoon_other s _ hj, rfl, rfl⟩
  · rw [State.moon_modMoon, Moon.asidEnt_put_self, fld_zero]
    rfl
  · rw [State.moon_modMoon, Moon.asidEnt_put_other _ _ _ hb]

theorem exec_registerWrite_srt (n : Fin 4096) (v : W64) (s : State) :
    exec (.registerWrite (.srt n) v) s =
      .next { s with net := { s.net with srt := s.net.srt.put n.val (BitVec.ofNat 64 (v.toNat % 2 ^ 41)) } } := by
  rw [← fld_zero]
  rfl

theorem exec_registerWrite_savepool (d : Fin 4) (v : W64) (s : State) :
    exec (.registerWrite (.savepool d) v) s =
      .next { s with sched := { s.sched with savepool := s.sched.savepool.set d (BitVec.ofNat 32 (v.toNat % 2 ^ 28)) } } := by
  rw [← fld_zero]
  rfl

/-- The host port accepts queue traffic in the last stage of a boot only (R386). -/
theorem State.hostUp_iff (s : State) : s.hostUp = true ↔ s.mgmt.bootst = 6 := beq_iff_eq

/-- The ring addresses are locked while the host port is down or their pair is enabled (R380). -/
theorem ringLock_iff (s : State) (q : Fin 64) :
    (!s.hostUp || (s.pair q).en) = true ↔ s.mgmt.bootst ≠ 6 ∨ s.host.pair[q].en = true := by
  rw [Bool.or_eq_true, Bool.not_eq_true', ← Bool.not_eq_true, State.hostUp_iff]
  rfl

theorem exec_registerWrite_ring_unlocked (q : Fin 64) (v : W64) (s : State) (hup : s.mgmt.bootst = 6)
    (hen : s.host.pair[q].en = false) :
    exec (.registerWrite (.hqsub q) v) s = .next (s.setPair q { s.pair q with sub := v }) ∧
    exec (.registerWrite (.hqcpl q) v) s = .next (s.setPair q { s.pair q with cpl := v }) := by
  have hfree : ¬ (!s.hostUp || (s.pair q).en) = true := by
    rw [ringLock_iff, hup, hen]
    decide
  exact ⟨congrArg _ (if_neg hfree), congrArg _ (if_neg hfree)⟩

theorem exec_registerWrite_ring_locked (q : Fin 64) (v : W64) (s : State)
    (h : s.mgmt.bootst ≠ 6 ∨ s.host.pair[q].en = true) :
    exec (.registerWrite (.hqsub q) v) s = .next s ∧ exec (.registerWrite (.hqcpl q) v) s = .next s := by
  have hlock := (ringLock_iff s q).mpr h
  exact ⟨congrArg _ (if_pos hlock), congrArg _ (if_pos hlock)⟩

theorem exec_registerWrite_hqcfg_down (q : Fin 64) (v : W64) (s : State) (h : s.mgmt.bootst ≠ 6) :
    exec (.registerWrite (.hqcfg q) v) s = .next s := by
  have hdown : (!s.hostUp) = true := by rwa [Bool.not_eq_true', ← Bool.not_eq_true, State.hostUp_iff]
  exact congrArg _ (if_pos hdown)

theorem exec_registerWrite_hqcfg_up (q : Fin 64) (v : W64) (s : State) (h : s.mgmt.bootst = 6) :
    exec (.registerWrite (.hqcfg q) v) s = .next (s.setPair q ((s.pair q).configured v.toNat)).hostServe := by
  have hup : ¬ (!s.hostUp) = true := by simp [s.hostUp_iff.mpr h]
  exact congrArg _ (if_neg hup)

theorem runs_registerWrite_hqcfg (q : Fin 64) (v : W64) (s : State) (h : s.mgmt.bootst = 6) :
    Runs (.registerWrite (.hqcfg q) v) s fun t =>
      ringsOf t = (s.host.mem, s.host.pair.set q (s.host.pair[q].configured v.toNat)) ∧
      t.tiles = s.tiles ∧ t.sched = s.sched := by
  obtain ⟨hhost, htiles, hsched⟩ := (s.setPair q ((s.pair q).configured v.toNat)).hostServe_frame
  refine ⟨_, exec_registerWrite_hqcfg_up q v s h, ?_, htiles, hsched⟩
  rw [ringsOf, hhost]
  rfl

/-- Settles O53: power windows, POWER_OVER, trips and what they stop, and the registers' reserved bits and locks. -/
theorem powerIsControlled : Obligations.PowerIsControlled := by
  unfold Obligations.PowerIsControlled
  refine ⟨⟨fun watts s => ⟨_, swallowed_swallow .., runs_powerWindow watts s⟩,
      fun s => ⟨exec_powerOver_below s, runs_powerOver_reports s⟩, fun _ _ => rfl, fun _ _ _ => rfl,
      fun s h => ⟨step_tripped_stops h, fun _ _ => step_tripped_powers_on h⟩⟩,
    runs_registerWrite_mastab, exec_registerWrite_srt, exec_registerWrite_savepool, fun q v s => ?_⟩
  refine ⟨exec_registerWrite_ring_unlocked q v s, exec_registerWrite_ring_locked q v s,
    exec_registerWrite_hqcfg_down q v s, fun h => ?_⟩
  have hcfg := runs_registerWrite_hqcfg q v s h
  rwa [Pair.configured_eq] at hcfg

end Sys2Proof.Machine
end
